-- ==== Sys2Proof/Word.lean ====
section
/-! DEFINITION. The two word types of the part: the byte, which every port carries, and the
32-bit word of a cell's payload, of a key half and of the check word (00_scope.md, section 5.4);
and what a verdict leaves open. -/

namespace Sys2Proof

/-- One byte of a port: a feed byte, a set-link character, a loop character. -/
abbrev Byte := BitVec 8

/-- A 32-bit word: a payload word, a keystream word, half of a control word, a check word. -/
abbrev Word := BitVec 32

/-- What a verdict leaves open: whether INSET takes the cell's continuity value before MAIN, whether it is
given the verdict item before MAIN (R31, section 3.3), and whether other events come between the Folio
Unit's answer to a film cell and the verdict (R27, R32, R75). -/
structure VerdictOrder where
  gapInsetFirst : Bool
  insetFirst : Bool
  pausesAfterAnswer : Bool
  deriving DecidableEq, Repr

end Sys2Proof
end

