-- ==== Sys2Proof/Syntax.lean ====
section
/-! DEFINITION. The commands of the CJ4810: one constructor for each row of spec/opcode_table.json,
in the table's order. A command's operands are what the outside gives the part AT THAT STEP (a byte
on a port, the level of a pin, the characters of a packet, an order that the spec leaves open).
What a step takes from the part's own state (a held request frame, the oldest FILLED inbox buffer,
the cell in judging, the packet being heard) is no operand: the meaning reads it from State. -/

namespace Sys2Proof

/-- The part's steps, each whole and indivisible (95_what_each_step_holds.md). -/
inductive Instr where
  /-- POWER_ON_RESET (R2): RESETN is released; the levels of SRATE1 and SRATE0 at that moment (R160). -/
  | powerOnReset (srate1 srate0 : Bool)
  /-- FEED_BYTE (R7): FSTB strobes the byte on FD0 to FD7. -/
  | feedByte (b : Byte)
  /-- FRAME_MARK (R6): FFRM is asserted; `fslt` says whether FSLT is asserted with it (R1). -/
  | frameMark (fslt : Bool)
  /-- SLOT_MARK (R6): FSLT alone is asserted. -/
  | slotMark
  /-- FEED_LOSS_TIMER_EXPIRY (R3); `insetFirst` is the order the two NO_SIGNAL markers are given in,
  which R39 leaves open. -/
  | feedLossTimerExpiry (insetFirst : Bool)
  /-- CELL_ARRIVAL (R20): the next cell handed on reaches the Cell Descrambler. -/
  | cellArrival
  /-- CELL_VERDICT (R31): the judging of the cell in hand completes, in the orders of its two outputs
  that R31 and section 3.3 leave open, or stops at the Folio Unit's answer until the next CELL_VERDICT
  (R27). -/
  | cellVerdict (order : VerdictOrder)
  /-- DECODER_REQUEST (R46): the decoder asserts DREQ. -/
  | decoderRequest
  /-- ITEM_DELIVERY_COMPLETE (R48): the last byte of the item in delivery has been presented. -/
  | itemDeliveryComplete
  /-- FEED_SECOND_CLOSE (R76): the Folio Unit closes the feed second. -/
  | feedSecondClose
  /-- SET_LINK_BYTE_RECEIVED (R162): a character on SRX, with its parity bit and its stop bit as
  found on the line (R160). -/
  | setLinkByteReceived (b : Byte) (parityBit stopBit : Bool)
  /-- ASSEMBLER_BYTE (R163): the frame assembler takes one byte from the FIFO. -/
  | assemblerByte
  /-- INTER_BYTE_TIMEOUT (R165): the inter-byte timer runs out. -/
  | interByteTimeout
  /-- UNKNOWN_KIND (R166): the held frame's kind is none of 0x01 to 0x12. -/
  | unknownKind
  /-- STATUS (R171): the held frame is a STATUS request. -/
  | status
  /-- TUNE (R35): the held frame is a TUNE request. -/
  | tune
  /-- UNTUNE (R36): the held frame is an UNTUNE request. -/
  | untune
  /-- TUNING_AFTER_CELL (R38): the TUNE or UNTUNE that waited for a cell is carried out. -/
  | tuningAfterCell
  /-- SET_OUTPUT (R37). -/
  | setOutput
  /-- PURCHASE (R79). -/
  | purchase
  /-- CANCEL (R84). -/
  | cancel
  /-- FILM_QUERY (R85). -/
  | filmQuery
  /-- UNLOCK (R58). -/
  | unlock
  /-- RELOCK (R60). -/
  | relock
  /-- SET_PIN (R61). -/
  | setPin
  /-- SET_CEILING (R62). -/
  | setCeiling
  /-- SET_STATION (R129). -/
  | setStation
  /-- JOIN (R130). -/
  | join
  /-- LEAVE (R131). -/
  | leave
  /-- LOOP_CONFIG (R137). -/
  | loopConfig
  /-- GUIDE (R170). -/
  | guide
  /-- RESTORE (R175). -/
  | restore
  /-- SOFT_RESET (R172). -/
  | softReset
  /-- TRANSMIT_CHOICE (R167): the transmitter examines SRDY, to choose its next frame or before the next
  byte of the frame on STX. -/
  | transmitChoice (srdy : Bool)
  /-- FRAME_SENT (R167): the last byte of the frame on STX has been sent. -/
  | frameSent
  /-- DESK_NOTE_ENTERS_QUEUE (R156): the waiting note is offered again. -/
  | deskNoteEntersQueue
  /-- LOOP_ACTIVITY (R127): another station's packet starts; `chars` are the characters heard from
  its first one until the line has been idle for 20 µs, each as the byte of its data bits (R125). -/
  | loopActivity (chars : List Byte)
  /-- FAULTY_PACKET (R126): the packet being heard ends and is faulty. -/
  | faultyPacket
  /-- TOKEN_RECEIVED (R133): the packet being heard ends: a valid TOKEN to the own address. -/
  | tokenReceived
  /-- ENQUIRY_RECEIVED (R143): the packet being heard ends: a valid ENQUIRY to the own address. -/
  | enquiryReceived
  /-- ACCEPT_RECEIVED (R135): the packet being heard ends: a valid ACCEPT to the own address. -/
  | acceptReceived
  /-- DECLINE_RECEIVED (R135): the packet being heard ends: a valid DECLINE to the own address. -/
  | declineReceived
  /-- DATA_ACK_RECEIVED (R136): the packet being heard ends: a valid DATA_ACK to the own address. -/
  | dataAckReceived
  /-- DATA_RECEIVED (R144): the packet being heard ends: a valid DATA to the own address. -/
  | dataReceived
  /-- BROADCAST_RECEIVED (R145): the packet being heard ends: a valid DATA with destination 0. -/
  | broadcastReceived
  /-- RESPONSE_WINDOW_EXPIRY (R127): 150 µs have passed with no answer. -/
  | responseWindowExpiry
  /-- IDLE_TIMER_EXPIRY (R141): 30 ms have passed without loop activity. -/
  | idleTimerExpiry
  /-- REBUILD_WAIT_EXPIRY (R142): the rebuild wait has run out. -/
  | rebuildWaitExpiry
  /-- MALFORMED_MESSAGE (R150): the oldest FILLED buffer fails the form check. -/
  | malformedMessage
  /-- CHECK_IN (R110): the oldest FILLED buffer is a GUEST_STATUS CHECK_IN. -/
  | checkIn
  /-- CHECK_OUT (R112): the oldest FILLED buffer is a GUEST_STATUS CHECK_OUT. -/
  | checkOut
  /-- VACATE_NOW (R118): the oldest FILLED buffer is a GUEST_STATUS with the vacate-now flag. -/
  | vacateNow
  /-- KEY_DELIVERY (R17): the oldest FILLED buffer is a KEY_DELIVERY with a control word. -/
  | keyDelivery
  /-- KEY_WITHDRAWAL (R18): the oldest FILLED buffer is a KEY_DELIVERY with the withdraw flag. -/
  | keyWithdrawal
  /-- TARIFF_SET (R91). -/
  | tariffSet
  /-- TARIFF_REMOVE (R92). -/
  | tariffRemove
  /-- TIME (R122); `folioFirst` is the order in which the Folio Unit and the Rating Gate act on the
  change, which R124 leaves open. -/
  | time (folioFirst : Bool)
  /-- DESK_NOTE (R156). -/
  | deskNote
  /-- ROOM_QUERY (R157). -/
  | roomQuery
  /-- MINUTE_ADVANCE (R123); `folioFirst` as for TIME (R124). -/
  | minuteAdvance (folioFirst : Bool)
  /-- START_TIMEOUT (R119): the start-up timer runs out. -/
  | startTimeout
  /-- LOOP_PACKET_SENT (R127): the last character of the packet the station sends leaves the line. -/
  | loopPacketSent
  deriving DecidableEq, Repr

end Sys2Proof
end

