-- ==== Sys2Proof/Config.lean ====
section
/-! DEFINITION. What one board around the part fixes and the spec does not: the levels of the
rate straps and of SRDY in the state `State.reset`, and the free value that stands for the byte layouts
the spec does not give. -/

namespace Sys2Proof.Config

/-- DESIGN CHOICE (unsafe, notes/assumptions/2.md): the level of SRATE1 that `State.reset` is taken
to have sampled. The command POWER_ON_RESET carries the level it samples. -/
def resetSrate1 : Bool := false

/-- DESIGN CHOICE (unsafe, notes/assumptions/2.md): the level of SRATE0 that `State.reset` is taken
to have sampled. -/
def resetSrate0 : Bool := false

/-- DESIGN CHOICE (unsafe, notes/assumptions/3.md): the level of SRDY that `State.reset` shows before
TRANSMIT_CHOICE has sampled the pin for the first time. -/
def resetSrdy : Bool := false

/-- A FREE VALUE (notes/assumptions/16.md): the bytes, in a frame on STX, of a reply or report body of
which the spec names the fields and gives no layout. -/
opaque bodyLayout {α : Type} (body : α) : List Byte

end Sys2Proof.Config
end

