-- ==== Sys2Proof/Machine/State.lean ====
section
/-! DEFINITION. The state of the CJ4810, block by block (00_scope.md, section 3), as plain data, with
the queue of waiting commands; the values of power-on reset; the setters of the blocks.
Quantities the manual counts are `Nat`, bits it masks or shifts are bit vectors. -/

namespace Sys2Proof.Machine

/-- A timer on reference time: `none` while stopped, `some d` while running, where `d` is the length
in µs that it was last (re)started with. When the length has passed is the sender's knowledge: the
expiry is a command (notes/assumptions/5.md). -/
abbrev Timer := Option Nat

/-! ### Feed Tracker (chapter 1) -/

/-- The tracker's three states (section 1.3). -/
inductive FeedState where
  | noFeed | searching | locked
  deriving DecidableEq, Repr

/-- The causes a FEED_STATE report carries (R14). -/
inductive FeedCause where
  | feedLost | markSeen | frameAligned | frameOverrun | slotMismatch
  deriving DecidableEq, Repr

/-- The five fault counts, 0 to 65,535 each, saturating (section 1.3). -/
structure FeedCounts where
  headerFaults : Nat
  runts : Nat
  slotMismatches : Nat
  frameOverruns : Nat
  feedLosses : Nat
  deriving DecidableEq, Repr

/-- The Feed Tracker (section 1.3). -/
structure FeedTracker where
  state : FeedState
  /-- The slot counter, 0 to 47. -/
  slot : Nat
  /-- The frame count, 0 to 499. -/
  frameCount : Nat
  /-- The mismatch run, 0 to 3. -/
  mismatchRun : Nat
  lossTimer : Timer
  /-- The bytes so far of the open slot, 0 to 140 of them; `none` when no slot is being assembled. -/
  cell : Option (List Byte)
  counts : FeedCounts
  deriving DecidableEq, Repr

/-- The scrambling mode of a cell header (section 1.2). -/
inductive ScrambleMode where
  | clear | even | odd | invalid
  deriving DecidableEq, Repr

/-- A complete cell as its 140 bytes spell it (sections 1.2 and 12.1). -/
structure Cell where
  slot : Nat
  service : Nat
  film : Nat
  rating : Nat
  barred : Bool
  group : Nat
  mode : ScrambleMode
  spare : Nat
  frameSeq : Nat
  continuity : Nat
  headerCheck : Byte
  /-- The XOR of the seven header bytes before the header check. -/
  headerXor : Byte
  /-- The 128 payload bytes as received. -/
  payload : List Byte
  check : Word
  deriving DecidableEq, Repr

/-! ### Key Table (section 2.1) and Cell Descrambler (section 2.3) -/

/-- EVEN or ODD. -/
inductive Parity where
  | even | odd
  deriving DecidableEq, Repr

/-- What a LOADED key slot holds: the control word's halves U and L, and the epoch. -/
structure LoadedKey where
  upper : Word
  lower : Word
  epoch : Nat
  deriving DecidableEq, Repr

/-- One key group: two slots, `none` meaning EMPTY, and the active parity, `none` meaning NONE. -/
structure KeyGroup where
  even : Option LoadedKey
  odd : Option LoadedKey
  active : Option Parity
  deriving DecidableEq, Repr

/-- The four key counts, 0 to 65,535 each, saturating. -/
structure KeyCounts where
  loads : Nat
  withdrawals : Nat
  refusals : Nat
  repeats : Nat
  deriving DecidableEq, Repr

/-- The Key Table: groups 0 to 15, in order, and the counts. -/
structure KeyTable where
  groups : List KeyGroup
  counts : KeyCounts
  deriving DecidableEq, Repr

/-- The action of a KEY_EVENT report (R21). -/
inductive KeyAction where
  | loaded | withdrawn | refusedActive | refusedInvalid | switched
  deriving DecidableEq, Repr

/-- A cell the Feed Tracker has handed on and whose judging has not begun, with the number of
feed-second boundaries that were signalled before it and are not yet closed. -/
structure HandedCell where
  cell : Cell
  closesAhead : Nat
  deriving DecidableEq, Repr

/-- The cell in judging: what the Key Table gave at its arrival (R20) and the outputs decided (R24). -/
structure Judging where
  cell : Cell
  closesAhead : Nat
  /-- The copy of the named slot's key; `none` when the slot was EMPTY or the cell is CLEAR. -/
  key : Option LoadedKey
  toMain : Bool
  toInset : Bool
  /-- The Folio Unit has answered that the film cell is presentable, and its verdict is still to come
  (R27). -/
  answered : Bool := false
  deriving DecidableEq, Repr

/-- The Cell Descrambler: cells handed on, oldest first (R10), and the cell in judging. -/
structure Descrambler where
  handedOn : List HandedCell
  judging : Option Judging
  deriving DecidableEq, Repr

/-! ### Output Stage (chapter 3) -/

/-- The seven marker reasons (section 3.3). -/
inductive MarkerReason where
  | noSignal | locked | notEntitled | previewEnded | keyMissing | checkFail | gap
  deriving DecidableEq, Repr

/-- A queue item: a CELL with its service, film ID and 128 clear bytes, or a MARKER. -/
inductive Item where
  | cell (service film : Nat) (clear : List Byte)
  | marker (reason : MarkerReason)
  deriving DecidableEq, Repr

inductive OutputState where
  | idle | filling | running
  deriving DecidableEq, Repr

/-- One output (section 3.1). -/
structure Output where
  state : OutputState
  /-- The tuned service, 1 to 255; absent in IDLE. -/
  service : Option Nat
  /-- 0 to 8 items, oldest first. -/
  queue : List Item
  threshold : Nat
  priority : Nat
  /-- Expected continuity; `none` is unknown. -/
  expected : Option Nat
  gapOwed : Bool
  overflows : Nat
  underruns : Nat
  deriving DecidableEq, Repr

/-- MAIN (index 0) or INSET (index 1). -/
inductive OutputIx where
  | main | inset
  deriving DecidableEq, Repr

/-- One byte as the decoder port presents it: DD0 to DD7, DSTART and DOUTX (00_scope.md, section 8). -/
structure PortByte where
  value : Byte
  dstart : Bool
  doutx : Bool
  deriving DecidableEq, Repr

/-- Both outputs and the arbiter: whether a decoder request waits (held, or made during a delivery),
and the item in delivery with the index it was granted under. -/
structure OutputStage where
  main : Output
  inset : Output
  requestHeld : Bool
  delivering : Option (OutputIx × Item)
  /-- What the decoder port presents in the delivery, byte by byte (R48). -/
  port : List PortByte
  deriving DecidableEq, Repr

/-! ### Rating Gate (section 4.1) -/

/-- The Rating Gate. A PIN is its digits in order. -/
structure RatingGate where
  roomCeiling : Nat
  hardCeiling : Nat
  pin : Option (List Nat)
  unlockExpiry : Option Nat
  lockoutExpiry : Option Nat
  failures : Nat
  unlockDuration : Nat
  lockoutLength : Nat
  deriving DecidableEq, Repr

/-- The lock summary of R63. -/
structure LockSummary where
  roomCeiling : Nat
  hardCeiling : Nat
  effective : Nat
  unlockExpiry : Option Nat
  lockoutExpiry : Option Nat
  failures : Nat
  pinPresent : Bool
  deriving DecidableEq, Repr

/-- The causes of a LOCK_STATE report (R64). -/
inductive LockCause where
  | unlockBegun | unlockExtended | unlockEnded | lockoutBegun | lockoutEnded | stayChange
  deriving DecidableEq, Repr

/-- The end reasons of a LOCK_STATE report (R64). -/
inductive EndReason where
  | relock | expired
  deriving DecidableEq, Repr

/-! ### Folio Unit (chapters 5 and 6) -/

inductive EntryState where
  | preview | bought | charged | settling
  deriving DecidableEq, Repr

/-- One entitlement (section 5.1). -/
structure Entry where
  film : Nat
  state : EntryState
  previewUsed : Nat
  price : Option Nat
  clear : Nat
  impaired : Nat
  windowEnd : Option Nat
  lastPresented : Nat
  seenClear : Bool
  seenFail : Bool
  chargeSerial : Option Nat
  credit : Option Nat
  /-- The Cell Descrambler keeps a reference to this entry for the cell in judging (R27). It goes with the
  entry. -/
  answered : Bool := false
  deriving DecidableEq, Repr

/-- One tariff (section 6.1). -/
structure Tariff where
  film : Nat
  price : Nat
  window : Nat
  rating : Nat
  deriving DecidableEq, Repr

inductive RecordKind where
  | charge | credit | stayClosed
  deriving DecidableEq, Repr

/-- One posting record (R102). -/
structure Record where
  serial : Nat
  kind : RecordKind
  film : Nat
  amount : Nat
  minute : Nat
  deriving DecidableEq, Repr

/-- The Folio Unit. -/
structure Folio where
  /-- The entitlement table: places 0 to 7 (R68). -/
  entries : List (Option Entry)
  /-- The number of the feed second in progress. -/
  feedSecond : Nat
  /-- Feed-second boundaries signalled by the Feed Tracker and not yet closed (R12, R76). -/
  closesDue : Nat
  /-- How many of these, the first ones, were signalled before a SOFT_RESET: the flags set since then
  belong to the feed second that follows it (R69). -/
  closesBeforeReset : Nat
  /-- The tariff table: places 0 to 63 (R90). -/
  tariffs : List (Option Tariff)
  tariffFull : Nat
  /-- T. -/
  total : Nat
  /-- R. -/
  reserved : Nat
  /-- K. -/
  cap : Nat
  /-- Q. -/
  quality : Nat
  nextSerial : Nat
  /-- The posting queue, head first. -/
  queue : List Record
  /-- The snapshot second count, 0 to 59 (R173). -/
  snapshotSeconds : Nat
  deriving DecidableEq, Repr

/-- The event of a FILM_EVENT report (R87). -/
inductive FilmEventKind where
  | previewEnded | committed | lapsed | ended
  deriving DecidableEq, Repr

/-! ### Stay Controller and House Clock (chapter 7) -/

inductive RoomState where
  | starting | vacant | occupied | closing
  deriving DecidableEq, Repr

/-- The stay parameters as a GUEST_STATUS delivers them (section 7.2), before any clamp. -/
structure StayParams where
  stay : Nat
  cap : Nat
  roomCeiling : Nat
  hardCeiling : Nat
  pin : Option (List Nat)
  unlockDuration : Nat
  lockoutLength : Nat
  previewAllowance : Nat
  grace : Nat
  quality : Nat
  deriving DecidableEq, Repr

/-- The Stay Controller (section 7.1). -/
structure StayController where
  room : RoomState
  stay : Nat
  previewAllowance : Nat
  /-- G. -/
  grace : Nat
  pendingCheckIn : Option StayParams
  closureQueued : Bool
  startTimer : Timer
  deriving DecidableEq, Repr

/-- The causes of a STAY_STATE report (R120). -/
inductive StayCause where
  | checkIn | update | checkOut | checkInHeld | checkInRefused | checkOutIgnored
  | closureQueued | closed | vacated | startTimeout | restored
  deriving DecidableEq, Repr

/-- The House Clock (section 7.8). `elapsed` is the time elapsed in the current minute, held as the
timer that runs out when it reaches 60 s. -/
structure HouseClock where
  set : Bool
  minute : Nat
  elapsed : Timer
  deriving DecidableEq, Repr

/-! ### Loop Station (chapter 8) and Desk Message Handler (chapter 9) -/

inductive LoopState where
  | off | listening | member | rebuilding | alone
  deriving DecidableEq, Repr

inductive TurnPhase where
  | none | enquiring | posting | passing | probing
  deriving DecidableEq, Repr

/-- The matter of the turn's one DATA (section 8.2). -/
inductive Exchange where
  | roomReport (reRequested : Bool)
  | record (r : Record) (stay : Nat)
  deriving DecidableEq, Repr

/-- The six packets of the loop (section 8.1), less their destination copies and check sums. -/
inductive LoopPacket where
  | token (dest : Nat)
  | enquiry (dest source : Nat)
  | accept (dest : Nat)
  | decline (dest : Nat)
  | dataAck (dest : Nat)
  | data (dest source : Nat) (body : List Byte)
  deriving DecidableEq, Repr

/-- What an open response window waits for (R127): an answer to ENQUIRY, to DATA, to the TOKEN passed
or to a probe; the DATA of a reservation (R143); or activity after a TOKEN heard in LISTENING (R132). -/
inductive Window where
  | enquiring | posting | passing | probing | reservation | duplicate
  deriving DecidableEq, Repr

/-- A packet the station sends, with the window its end opens, if it expects an answer. -/
structure SentPacket where
  packet : LoopPacket
  expects : Option Window
  deriving DecidableEq, Repr

/-- The packet being heard, with its end still to come: `none` when it is faulty (R126), the windows
it was the first packet of and that its end decides (an exchange's, a reservation's), and whether it
began within the station's own turn (R133). -/
structure HeardPacket where
  packet : Option LoopPacket
  windows : List Window
  inTurn : Bool
  deriving DecidableEq, Repr

/-- A desk message in the inbox: its body (the length is the body's) and whether it came by
broadcast. -/
structure InboxMessage where
  broadcast : Bool
  body : List Byte
  deriving DecidableEq, Repr

inductive InboxBuffer where
  | free
  | reserved
  | filled (m : InboxMessage)
  deriving DecidableEq, Repr

/-- Inbox buffer 0 or 1. -/
inductive BufferIx where
  | b0 | b1
  deriving DecidableEq, Repr

/-- The Loop Station (section 8.2). -/
structure LoopStation where
  state : LoopState
  address : Nat
  successor : Option Nat
  phase : TurnPhase
  exchange : Option Exchange
  pendingReply : Bool
  duplicateSeen : Bool
  ownRebuild : Bool
  turnCount : Nat
  declineCount : Nat
  declineLimit : Nat
  busyReported : Bool
  retryCount : Nat
  rebuildCount : Nat
  packetFaults : Nat
  inboxDrops : Nat
  buffer0 : InboxBuffer
  buffer1 : InboxBuffer
  /-- Which buffer was filled first, when both are FILLED. -/
  older : BufferIx
  idleTimer : Timer
  rebuildWait : Timer
  /-- The turn is marked for refresh (R133). -/
  refreshTurn : Bool
  /-- The turn was begun by the station's own rebuild (R138, R142). -/
  rebuildTurn : Bool
  /-- The passing step waits for a reservation made in the turn (R138). -/
  passDeferred : Bool
  /-- The candidate a search is probing (R139). -/
  candidate : Option Nat
  /-- The open response windows, the one opened first at the head: each is 150 µs long (R127), so it is
  the first to end. -/
  windows : List Window
  /-- Packets the station sends, the one on LTX first. -/
  sending : List SentPacket
  /-- LDE: the station drives the line (R127). -/
  lde : Bool
  heard : Option HeardPacket
  deriving DecidableEq, Repr

/-- The causes of a LOOP_STATE report (R146). -/
inductive LoopCause where
  | duplicateSeen | deskBusy | successor | rebuilt
  deriving DecidableEq, Repr

/-- The Desk Message Handler: the malformed count and the buffer being handled. A buffer stays in
hand between steps only while its DESK_NOTE waits for the report queue (R156). -/
structure DeskHandler where
  malformed : Nat
  handling : Option BufferIx
  deriving DecidableEq, Repr

/-! ### Set Link Port (chapter 10) -/

/-- A received byte with its marks (R160, R162). -/
structure FifoByte where
  value : Byte
  parity : Bool
  framing : Bool
  overrun : Bool
  deriving DecidableEq, Repr

/-- The six causes of a link fault (section 10.2). -/
inductive LinkCause where
  | overrun | framing | parity | length | check | timeout
  deriving DecidableEq, Repr

/-- The six link-fault counts, 0 to 65,535 each, saturating. -/
structure LinkCounts where
  overrun : Nat
  framing : Nat
  parity : Nat
  length : Nat
  check : Nat
  timeout : Nat
  deriving DecidableEq, Repr

/-- A complete good frame: kind, tag and body. -/
structure Frame where
  kind : Byte
  tag : Byte
  body : List Byte
  deriving DecidableEq, Repr

/-- The assembler's phase with the frame in assembly: the bytes so far, the start byte first, and the
fault cause; in HOLDING the good frame. -/
inductive Assembler where
  | hunting
  | assembling (bytes : List Byte) (fault : Option LinkCause)
  | holding (f : Frame)
  deriving DecidableEq, Repr

/-- The result codes (section 10.4). -/
inductive ResultCode where
  | ok | already | badRequest | roomState | noTariff | ratingLocked | ratingBarred | capReached
  | queueFull | tableFull | settling | clockUnset | wrongPin | lockedOut | noPin | stationActive
  | duplicateAddress | notFound | alreadyCharged | restoreRefused | unknownKind
  deriving DecidableEq, Repr

/-- The causes of RESTORE_REFUSED (R175). -/
inductive RestoreCause where
  | notStarting | badCheck | noStay | overCapacity | badContent | queueLaw | overCap
  deriving DecidableEq, Repr

/-- The two rate straps' choice (section 10.1). -/
inductive LinkRate where
  | r57600 | r115200 | r230400 | r460800
  deriving DecidableEq, Repr

/-- The values of one output in the STATUS reply (R49). -/
structure OutputStatus where
  state : OutputState
  service : Nat
  priority : Nat
  threshold : Nat
  items : Nat
  gapOwed : Bool
  overflows : Nat
  underruns : Nat
  deriving DecidableEq, Repr

/-- The values of the Loop Station in the STATUS reply (R147). -/
structure LoopStatus where
  state : LoopState
  address : Nat
  successor : Option Nat
  phase : TurnPhase
  pendingReply : Bool
  duplicateSeen : Bool
  ownRebuild : Bool
  declineCount : Nat
  declineLimit : Nat
  retryCount : Nat
  rebuildCount : Nat
  packetFaults : Nat
  inboxDrops : Nat
  filledBuffers : Nat
  deriving DecidableEq, Repr

/-- The values of the STATUS reply (R171). -/
structure StatusValues where
  room : RoomState
  stay : Nat
  pendingStay : Nat
  clockSet : Bool
  minute : Nat
  feed : FeedState
  feedCounts : FeedCounts
  main : OutputStatus
  inset : OutputStatus
  entries : Nat
  queueDepth : Nat
  tariffs : Nat
  loop : LoopStatus
  malformed : Nat
  rate : LinkRate
  guide : Bool
  reportDepth : Nat
  reportSeq : Nat
  lostReports : Nat
  linkCounts : LinkCounts
  deriving DecidableEq, Repr

/-- The entitlement as a FILM_QUERY reply shows it (R85). -/
structure EntryView where
  place : Nat
  state : EntryState
  previewUsed : Nat
  previewAllowance : Nat
  price : Option Nat
  windowEnd : Option Nat
  clear : Nat
  impaired : Nat
  chargeSerial : Option Nat
  credit : Option Nat
  presented : Bool
  deriving DecidableEq, Repr

/-- What follows the result code in a reply. -/
inductive ReplyBody where
  | codeOnly
  | output (priority threshold : Nat)
  | folio (film : Nat) (entry : Option EntryState) (price windowEnd : Option Nat)
      (total reserved cap : Nat)
  | film (tariff : Option Tariff) (entry : Option EntryView)
  | lock (summary : LockSummary)
  | station (address : Nat) (state : LoopState)
  | loopConfig (declineLimit declineCount : Nat)
  | guide (on : Bool)
  | restored (room : RoomState) (stay total reserved cap entries queueDepth : Nat)
  | refusedFor (cause : RestoreCause)
  | status (values : StatusValues)
  deriving DecidableEq, Repr

/-- A reply frame: its kind and tag, the result code and what follows it. -/
structure Reply where
  kind : Byte
  tag : Byte
  code : ResultCode
  body : ReplyBody
  deriving DecidableEq, Repr

/-- The reply slot: SERVING keeps the request taken, which outlasts its step only while a TUNE or
UNTUNE waits for a cell (R38, R166). -/
inductive ReplySlot where
  | empty
  | serving (f : Frame)
  | ready (r : Reply)
  | sending
  deriving DecidableEq, Repr

/-- The eleven reports (section 10.6), each with the fields its rule names. -/
inductive Report where
  | feedState (state : FeedState) (cause : FeedCause) (counts : FeedCounts)
  | keyEvent (group parity : Nat) (action : KeyAction) (epoch : Nat) (active : Option Parity)
      (counts : KeyCounts)
  | lockState (cause : LockCause) (reason : Option EndReason) (summary : LockSummary)
  | filmEvent (film : Nat) (event : FilmEventKind) (state : Option EntryState)
      (price windowEnd : Option Nat) (clear impaired previewUsed : Nat) (credit : Option Nat)
  | stayState (cause : StayCause) (room : RoomState) (stay : Nat) (pendingStay : Option Nat)
      (closureQueued : Bool) (total reserved cap : Nat) (capClamped : Bool) (queueDepth entries : Nat)
  | deskNote (chars : List Byte) (broadcast : Bool)
  | snapshot (body : List Byte)
  | loopState (cause : LoopCause) (state : LoopState) (address : Nat) (successor : Option Nat)
      (declineCount declineLimit retryCount rebuildCount : Nat) (duplicateSeen ownRebuild : Bool)
  | linkFault (cause : LinkCause) (kind tag : Option Byte) (counts : LinkCounts)
  | guideData (frameSeq continuity : Nat) (payload : List Byte) (check : Word)
  | tariffEvent (film : Nat) (full : Bool) (entries fullCount : Nat)
  deriving DecidableEq, Repr

/-- What STX is doing (section 10.2): idle, or sending one reply, or one report with its tag. -/
inductive Transmitter where
  | idle
  | reply (r : Reply)
  | report (seq : Nat) (r : Report)
  deriving DecidableEq, Repr

/-- The Set Link Port (section 10.2). -/
structure SetLink where
  fifo : List FifoByte
  /-- Bytes have been lost since the last entry into the FIFO (R162). -/
  lossPending : Bool
  /-- CTS asserted: the level of SCTS. -/
  cts : Bool
  assembler : Assembler
  /-- Its length counts bit times at the strapped rate, in which 4 character times are 44 (R165). -/
  interByteTimer : Timer
  slot : ReplySlot
  /-- The report queue in the order of entry positions, earliest first (R168). -/
  reports : List Report
  reportSeq : Nat
  transmitter : Transmitter
  /-- How many bytes of the frame on STX have begun (R167). -/
  begun : Nat
  guide : Bool
  lostReports : Nat
  counts : LinkCounts
  rate : LinkRate
  /-- The level of SRDY when it was last examined. -/
  srdy : Bool
  deriving DecidableEq, Repr

/-! ### The machine -/

/-- The whole part, and the queue of the commands that are waiting, first in, first out. -/
structure State where
  feed : FeedTracker
  keys : KeyTable
  descrambler : Descrambler
  outputs : OutputStage
  gate : RatingGate
  folio : Folio
  stay : StayController
  clock : HouseClock
  loop : LoopStation
  desk : DeskHandler
  link : SetLink
  pending : List Instr
  deriving DecidableEq, Repr

/-- Why the part stops. The spec names no event at which the CJ4810 stops, so there is no constructor
(safe: no claim rests on a stop). -/
inductive Fault where
  deriving DecidableEq, Repr

/-- Why a command has no meaning. -/
inductive Refusal where
  /-- Raised by an arm of `exec` for a command that has no meaning in the model; safe, since nothing
  can be proved of what it does. No arm raises it: every row has its meaning. -/
  | notModelled (mnemonic : String)
  deriving DecidableEq, Repr

/-! ### Setters, one for each block -/

def State.setFeed (s : State) (x : FeedTracker) : State := { s with feed := x }
def State.setKeys (s : State) (x : KeyTable) : State := { s with keys := x }
def State.setDescrambler (s : State) (x : Descrambler) : State := { s with descrambler := x }
def State.setOutputs (s : State) (x : OutputStage) : State := { s with outputs := x }
def State.setGate (s : State) (x : RatingGate) : State := { s with gate := x }
def State.setFolio (s : State) (x : Folio) : State := { s with folio := x }
def State.setStay (s : State) (x : StayController) : State := { s with stay := x }
def State.setClock (s : State) (x : HouseClock) : State := { s with clock := x }
def State.setLoop (s : State) (x : LoopStation) : State := { s with loop := x }
def State.setDesk (s : State) (x : DeskHandler) : State := { s with desk := x }
def State.setLink (s : State) (x : SetLink) : State := { s with link := x }

/-! ### Power-on reset -/

/-- R2. -/
def FeedTracker.reset : FeedTracker :=
  { state := .noFeed, slot := 0, frameCount := 0, mismatchRun := 0, lossTimer := none, cell := none
    counts := ⟨0, 0, 0, 0, 0⟩ }

/-- R16. -/
def KeyTable.reset : KeyTable :=
  { groups := List.replicate 16 ⟨none, none, none⟩, counts := ⟨0, 0, 0, 0⟩ }

/-- Section 2.3: at power-on there is no cell in progress. -/
def Descrambler.reset : Descrambler := { handedOn := [], judging := none }

/-- R34, for an output of the given priority. -/
def Output.reset (priority : Nat) : Output :=
  { state := .idle, service := none, queue := [], threshold := 2, priority := priority
    expected := none, gapOwed := false, overflows := 0, underruns := 0 }

/-- R34. -/
def OutputStage.reset : OutputStage :=
  { main := Output.reset 2, inset := Output.reset 1, requestHeld := false, delivering := none, port := [] }

/-- R51. -/
def RatingGate.reset : RatingGate :=
  { roomCeiling := 7, hardCeiling := 7, pin := none, unlockExpiry := none, lockoutExpiry := none
    failures := 0, unlockDuration := 60, lockoutLength := 15 }

/-- R69, R90, R94, R101, R173. -/
def Folio.reset : Folio :=
  { entries := List.replicate 8 none, feedSecond := 0, closesDue := 0, closesBeforeReset := 0
    tariffs := List.replicate 64 none, tariffFull := 0
    total := 0, reserved := 0, cap := 0, quality := 100, nextSerial := 1
    queue := [], snapshotSeconds := 0 }

/-- R108: the start-up timer runs with its deadline 120 s after the reset is released. -/
def StayController.reset : StayController :=
  { room := .starting, stay := 0, previewAllowance := 0, grace := 0, pendingCheckIn := none
    closureQueued := false, startTimer := some 120000000 }

/-- R122. -/
def HouseClock.reset : HouseClock := { set := false, minute := 0, elapsed := none }

/-- R128. `older` has no reset value in the spec and no reader while a buffer is FREE
(notes/assumptions/4.md). -/
def LoopStation.reset : LoopStation :=
  { state := .off, address := 0, successor := none, phase := .none, exchange := none
    pendingReply := false, duplicateSeen := false, ownRebuild := false
    turnCount := 0, declineCount := 0, declineLimit := 8, busyReported := false
    retryCount := 0, rebuildCount := 0, packetFaults := 0, inboxDrops := 0
    buffer0 := .free, buffer1 := .free, older := .b0
    idleTimer := none, rebuildWait := none
    refreshTurn := false, rebuildTurn := false, passDeferred := false, candidate := none
    windows := [], sending := [], lde := false, heard := none }

/-- R149. -/
def DeskHandler.reset : DeskHandler := { malformed := 0, handling := none }

/-- The rate the two straps choose (section 10.1). -/
def linkRateOf (srate1 srate0 : Bool) : LinkRate :=
  match srate1, srate0 with
  | false, false => .r57600
  | false, true => .r115200
  | true, false => .r230400
  | true, true => .r460800

/-- R161, with the rate sampled from the straps (R160) and SRDY as given. -/
def SetLink.reset (srate1 srate0 srdy : Bool) : SetLink :=
  { fifo := [], lossPending := false, cts := true, assembler := .hunting, interByteTimer := none
    slot := .empty, reports := [], reportSeq := 0, transmitter := .idle, begun := 0, guide := false
    lostReports := 0, counts := ⟨0, 0, 0, 0, 0, 0⟩
    rate := linkRateOf srate1 srate0, srdy := srdy }

/-- The part right after power-on reset, with the straps at the levels of Config and no command
waiting. -/
def State.reset : State :=
  { feed := .reset, keys := .reset, descrambler := .reset, outputs := .reset, gate := .reset
    folio := .reset, stay := .reset, clock := .reset, loop := .reset, desk := .reset
    link := .reset Config.resetSrate1 Config.resetSrate0 Config.resetSrdy
    pending := [] }

end Sys2Proof.Machine
end

