-- ==== Sys2Proof/Machine/Operands.lean ====
section
/-! DEFINITION. The byte layouts of chapter 12, in both directions: the cell, the decoder items, the
loop packets and the desk and room messages they carry, the set-link frame with the lengths its
requests call for, and the snapshot. -/

namespace Sys2Proof.Machine

/-! ### Byte order: most significant byte first (section 5.4) -/

/-- The number that bytes spell, the first most significant. -/
def beNat (bs : List Byte) : Nat := bs.foldl (fun n b => n * 256 + b.toNat) 0

/-- A one-byte field. -/
def be8 (n : Nat) : List Byte := [BitVec.ofNat 8 n]

/-- A two-byte field. -/
def be16 (n : Nat) : List Byte := [BitVec.ofNat 8 (n / 256), BitVec.ofNat 8 n]

/-- A three-byte field. -/
def be24 (n : Nat) : List Byte :=
  [BitVec.ofNat 8 (n / 65536), BitVec.ofNat 8 (n / 256), BitVec.ofNat 8 n]

/-- The four bytes of a word. -/
def wordBytes (w : Word) : List Byte :=
  [w.extractLsb' 24 8, w.extractLsb' 16 8, w.extractLsb' 8 8, w.extractLsb' 0 8]

/-- The word that four bytes spell. -/
def bytesWord (bs : List Byte) : Word := BitVec.ofNat 32 (beNat bs)

/-- The field of `count` bytes from byte `first` on, bytes numbered from 1 (chapter 12). -/
def field (bs : List Byte) (first count : Nat) : Nat := beNat ((bs.drop (first - 1)).take count)

/-- Byte `i`, numbered from 1. -/
def byteAt (bs : List Byte) (i : Nat) : Nat := (bs.getD (i - 1) 0).toNat

/-- The words of a payload, each four bytes, the first most significant (section 1.2). -/
def wordsOf : List Byte → List Word
  | a :: b :: c :: d :: rest => bytesWord [a, b, c, d] :: wordsOf rest
  | _ => []

/-- The bytes of a payload's words. -/
def bytesOf (ws : List Word) : List Byte := ws.flatMap wordBytes

/-- The sum of bytes as numbers. -/
def byteSum (bs : List Byte) : Nat := bs.foldl (fun n b => n + b.toNat) 0

/-! ### The cell (section 12.1) -/

/-- The scrambling mode codes. -/
def scrambleModeOf (code : Nat) : ScrambleMode :=
  match code with
  | 0 => .clear
  | 1 => .even
  | 2 => .odd
  | _ => .invalid

/-- The cell that 140 bytes spell. -/
def parseCell (bs : List Byte) : Cell :=
  { slot := byteAt bs 1
    service := byteAt bs 2
    film := byteAt bs 3 * 16 + byteAt bs 4 / 16
    rating := byteAt bs 4 / 2 % 8
    barred := byteAt bs 4 % 2 == 1
    group := byteAt bs 5 / 16
    mode := scrambleModeOf (byteAt bs 5 / 4 % 4)
    spare := byteAt bs 5 % 4
    frameSeq := byteAt bs 6
    continuity := byteAt bs 7
    headerCheck := bs.getD 7 0
    headerXor := (bs.take 7).foldl (· ^^^ ·) 0
    payload := (bs.drop 8).take 128
    check := bytesWord ((bs.drop 136).take 4) }

/-! ### Decoder-port items (section 12.1) -/

/-- The marker reason codes (section 12.5). -/
def markerCode : MarkerReason → Nat
  | .noSignal => 1
  | .locked => 2
  | .notEntitled => 3
  | .previewEnded => 4
  | .keyMissing => 5
  | .checkFail => 6
  | .gap => 7

/-- The bytes of an item on DD0 to DD7 (R48). -/
def itemBytes : Item → List Byte
  | .cell service film clear => be8 1 ++ be8 service ++ be16 film ++ clear
  | .marker r => be8 2 ++ be8 (markerCode r)

/-- The level of DOUTX for an output (00_scope.md, section 8). -/
def doutx : OutputIx → Bool
  | .main => false
  | .inset => true

/-- What the decoder port presents in the delivery of an item: its bytes, DSTART with the first of them
and DOUTX throughout (R48). -/
def portBytes (ix : OutputIx) (item : Item) : List PortByte :=
  match itemBytes item with
  | [] => []
  | b :: rest => ⟨b, true, doutx ix⟩ :: rest.map fun b => ⟨b, false, doutx ix⟩

/-! ### Loop packets (section 12.2, R125, R126) -/

/-- The bytes of a packet the station sends. -/
def packetBytes : LoopPacket → List Byte
  | .token d => be8 0x31 ++ be8 d ++ be8 d
  | .enquiry d src => be8 0x32 ++ be8 d ++ be8 d ++ be8 src
  | .accept d => be8 0x33 ++ be8 d ++ be8 d
  | .decline d => be8 0x34 ++ be8 d ++ be8 d
  | .dataAck d => be8 0x35 ++ be8 d ++ be8 d
  | .data d src body =>
    let head := be8 0x36 ++ be8 d ++ be8 src ++ be8 body.length ++ body
    head ++ be16 (byteSum head % 65536)

/-- The data bits of a character, in the order of the line: the least significant first (R125, R160). -/
def dataBits (b : Byte) : List Bool := (List.range 8).map fun i => b.getLsbD i

/-- A character on LTX, in the order of the line: a start bit, the data bits and one stop bit (R125). -/
def ltxCharacter (b : Byte) : List Bool := [false] ++ dataBits b ++ [true]

/-- The characters on LTX, back to back: those of the first of the packets the station is sending
(R125). -/
def ltxCharacters (sending : List SentPacket) : List (List Bool) :=
  match sending with
  | [] => []
  | p :: _ => (packetBytes p.packet).map ltxCharacter

/-- The packet that the characters between two idle lines spell, `none` when it is faulty: an unknown
kind, differing destination copies, a DATA of a bad length or check sum, or an end before the last
byte called for. Characters after that byte belong to no packet (R125, R126). -/
def judgePacket (chars : List Byte) : Option LoopPacket :=
  match chars with
  | 0x31#8 :: d :: c :: _ => if d = c then some (.token d.toNat) else none
  | 0x32#8 :: d :: c :: src :: _ => if d = c then some (.enquiry d.toNat src.toNat) else none
  | 0x33#8 :: d :: c :: _ => if d = c then some (.accept d.toNat) else none
  | 0x34#8 :: d :: c :: _ => if d = c then some (.decline d.toNat) else none
  | 0x35#8 :: d :: c :: _ => if d = c then some (.dataAck d.toNat) else none
  | 0x36#8 :: d :: src :: len :: rest =>
    let n := len.toNat
    if n = 0 ∨ 64 < n ∨ rest.length < n + 2 then none
    else if byteSum (chars.take (4 + n)) % 65536 = beNat ((rest.drop n).take 2) then
      some (.data d.toNat src.toNat (rest.take n))
    else none
  | _ => none

/-- The destination of a packet. -/
def packetDest : LoopPacket → Nat
  | .token d => d
  | .enquiry d _ => d
  | .accept d => d
  | .decline d => d
  | .dataAck d => d
  | .data d _ _ => d

/-- Whether a valid packet is acted on at its end by the station of this address: it is addressed to
the station, or it is a DATA with destination 0 (R126). -/
def actedOn (address : Nat) : LoopPacket → Bool
  | .data d _ _ => d == address || d == 0
  | p => packetDest p == address && address != 0

/-! ### Desk messages (section 12.2, R150) -/

/-- The fields of a well-formed desk message. -/
inductive DeskMessage where
  | guestStatus (checkIn vacate : Bool) (params : StayParams)
  | keyDelivery (group parity epoch upper lower : Nat)
  | keyWithdrawal (group parity epoch : Nat)
  | tariffSet (film price window rating : Nat)
  | tariffRemove (film : Nat)
  | time (minute : Nat)
  | deskNote (chars : List Byte)
  | roomQuery
  deriving DecidableEq, Repr

/-- A PIN's digits as numbers. -/
def digitsOf (bs : List Byte) : List Nat := bs.map (·.toNat)

/-- The PIN that a digit count of 0 or 4 to 8 and its digits stand for: absent when the count is 0. -/
def pinOf (digits : List Nat) : Option (List Nat) := if digits.isEmpty then none else some digits

/-- The form check of R150 and R151 on a stored message: its fields, or `none` when it is malformed. -/
def parseDesk (m : InboxMessage) : Option DeskMessage :=
  let bs := m.body
  match byteAt bs 1 with
  | 0x10 =>
    let n := byteAt bs 18
    let digits := digitsOf ((bs.drop 18).take n)
    if m.broadcast = false ∧ bs.length = 18 + n ∧ (n = 0 ∨ (4 ≤ n ∧ n ≤ 8)) ∧
        digits.all (· ≤ 9) = true ∧ (byteAt bs 2 = 1 ∨ byteAt bs 2 = 2) ∧ byteAt bs 3 ≤ 1 then
      some (.guestStatus (byteAt bs 2 == 1) (byteAt bs 3 == 1)
        { stay := field bs 4 2, cap := field bs 6 3
          roomCeiling := byteAt bs 9, hardCeiling := byteAt bs 10
          unlockDuration := byteAt bs 11, lockoutLength := byteAt bs 12
          previewAllowance := field bs 13 2, grace := field bs 15 2, quality := byteAt bs 17
          pin := pinOf digits })
    else none
  | 0x11 =>
    if byteAt bs 6 = 0 ∧ bs.length = 14 then
      some (.keyDelivery (byteAt bs 2) (byteAt bs 3) (field bs 4 2) (field bs 7 4) (field bs 11 4))
    else if byteAt bs 6 = 1 ∧ bs.length = 6 then
      some (.keyWithdrawal (byteAt bs 2) (byteAt bs 3) (field bs 4 2))
    else none
  | 0x12 =>
    if bs.length = 8 then
      some (.tariffSet (field bs 2 2) (field bs 4 2) (field bs 6 2) (byteAt bs 8))
    else none
  | 0x13 => if bs.length = 3 then some (.tariffRemove (field bs 2 2)) else none
  | 0x14 => if bs.length = 4 then some (.time (field bs 2 3)) else none
  | 0x15 =>
    let n := byteAt bs 2
    let chars := bs.drop 2
    if 1 ≤ n ∧ n ≤ 48 ∧ bs.length = 2 + n ∧
        chars.all (fun c => 0x20 ≤ c.toNat && c.toNat ≤ 0x7E) = true then
      some (.deskNote chars)
    else none
  | 0x16 => if bs.length = 1 then some .roomQuery else none
  | _ => none

/-! ### Room messages (section 12.2) -/

/-- The room state codes (section 12.5). -/
def roomCode : RoomState → Nat
  | .starting => 0
  | .vacant => 1
  | .occupied => 2
  | .closing => 3

/-- The feed state codes (section 12.5). -/
def feedCode : FeedState → Nat
  | .noFeed => 0
  | .searching => 1
  | .locked => 2

/-- The message kinds of the posting records (chapter 9). -/
def recordMessageKind : RecordKind → Nat
  | .charge => 0x20
  | .credit => 0x21
  | .stayClosed => 0x22

/-- The body of a CHARGE, CREDIT or STAY_CLOSED message (R159). -/
def recordBody (stay : Nat) (r : Record) : List Byte :=
  be8 (recordMessageKind r.kind) ++ be16 stay ++ be16 r.serial ++ be16 r.film ++ be24 r.amount ++
    be24 r.minute

/-- The bit of a flag. -/
def flagBit (b : Bool) (weight : Nat) : Nat := if b then weight else 0

/-! ### Set-link frames (section 12.3) -/

/-- The check byte: the sum, mod 256, of the length, kind, tag and body bytes (section 10.3). -/
def frameCheck (lengthOn : List Byte) : Byte := BitVec.ofNat 8 (byteSum lengthOn)

/-- The result code bytes (section 10.4). -/
def resultByte : ResultCode → Nat
  | .ok => 0x00
  | .already => 0x01
  | .badRequest => 0x02
  | .roomState => 0x03
  | .noTariff => 0x04
  | .ratingLocked => 0x05
  | .ratingBarred => 0x06
  | .capReached => 0x07
  | .queueFull => 0x08
  | .tableFull => 0x09
  | .settling => 0x0A
  | .clockUnset => 0x0B
  | .wrongPin => 0x0C
  | .lockedOut => 0x0D
  | .noPin => 0x0E
  | .stationActive => 0x0F
  | .duplicateAddress => 0x10
  | .notFound => 0x11
  | .alreadyCharged => 0x12
  | .restoreRefused => 0x13
  | .unknownKind => 0x14

/-- The cause bytes of RESTORE_REFUSED (section 12.5). -/
def restoreCauseByte : RestoreCause → Nat
  | .notStarting => 1
  | .badCheck => 2
  | .noStay => 3
  | .overCapacity => 4
  | .badContent => 5
  | .queueLaw => 6
  | .overCap => 7

/-- The report kind bytes (section 10.6). -/
def reportKindByte : Report → Nat
  | .feedState .. => 0x41
  | .keyEvent .. => 0x42
  | .lockState .. => 0x43
  | .filmEvent .. => 0x44
  | .stayState .. => 0x45
  | .deskNote .. => 0x46
  | .snapshot .. => 0x47
  | .loopState .. => 0x48
  | .linkFault .. => 0x49
  | .guideData .. => 0x4A
  | .tariffEvent .. => 0x4B

/-- The bytes of a frame of a kind, a tag and a body (section 12.3). -/
def frameBytes (kind tag : Byte) (body : List Byte) : List Byte :=
  let lengthOn := be8 body.length ++ [kind, tag] ++ body
  0xA5#8 :: lengthOn ++ [frameCheck lengthOn]

/-- What follows the result code in a reply, in bytes: the cause byte of RESTORE_REFUSED (section 12.5),
and otherwise a layout the spec leaves free, within the 253 bytes of a body. -/
def replyRest : ReplyBody → List Byte
  | .codeOnly => []
  | .refusedFor cause => be8 (restoreCauseByte cause)
  | body => (Config.bodyLayout body).take 252

/-- The body of a report in bytes: a snapshot's are those of section 12.4, and the others' layout is
free, within the 253 bytes of a body. -/
def reportBody : Report → List Byte
  | .snapshot body => body
  | r => (Config.bodyLayout r).take 253

/-- The bytes of the frame on STX: a reply's body begins with the result code (R166), and a report's tag
is the report sequence (R167). -/
def sentBytes : Transmitter → List Byte
  | .idle => []
  | .reply r => frameBytes r.kind r.tag (be8 (resultByte r.code) ++ replyRest r.body)
  | .report seq r => frameBytes (BitVec.ofNat 8 (reportKindByte r)) (BitVec.ofNat 8 seq) (reportBody r)

/-- A character on STX, in the order of the line: a start bit, the data bits with the least significant
first, the even parity bit and a stop bit (R160, section 10.1). -/
def stxCharacter (b : Byte) : List Bool :=
  [false] ++ dataBits b ++ [(dataBits b).count true % 2 == 1] ++ [true]

/-- The characters of the frame on STX (R160). -/
def stxCharacters (t : Transmitter) : List (List Bool) := (sentBytes t).map stxCharacter

/-- The body length a request of this kind and body calls for (R179); `none` for a kind that is none
of 0x01 to 0x12, or where the body is too short to hold a count byte. -/
def lengthCalledFor (kind : Nat) (body : List Byte) : Option Nat :=
  let count (i : Nat) : Option Nat := (body[i - 1]?).map (·.toNat)
  match kind with
  | 0x01 => some 0
  | 0x02 => some 2
  | 0x03 => some 1
  | 0x04 => some 3
  | 0x05 => some 2
  | 0x06 => some 2
  | 0x07 => some 2
  | 0x08 => (count 1).map (1 + ·)
  | 0x09 => some 0
  | 0x0A => (count 1).bind fun m => (count (2 + m)).map (2 + m + ·)
  | 0x0B => (count 2).map (2 + ·)
  | 0x0C => some 1
  | 0x0D => some 0
  | 0x0E => some 0
  | 0x0F => some 1
  | 0x10 => some 1
  | 0x11 =>
    (count 22).bind fun n => (count 20).bind fun e => (count 21).map fun r =>
      24 + n + 12 * e + 10 * r
  | 0x12 => some 0
  | _ => none

/-- Whether a request's body has the length its kind calls for; a computed length above 253 never
matches, since no frame carries it (R179). -/
def lengthMatches (f : Frame) : Bool :=
  match lengthCalledFor f.kind.toNat f.body with
  | some n => f.body.length == n && n ≤ 253
  | none => false

/-! ### The snapshot (section 12.4) -/

/-- One entitlement of a snapshot, as its 12 bytes spell it. -/
structure SnapEntry where
  film : Nat
  state : Nat
  price : Nat
  clear : Nat
  impaired : Nat
  windowEnd : Nat
  deriving DecidableEq, Repr

/-- One record of a snapshot, as its 10 bytes spell it. -/
structure SnapRecord where
  serial : Nat
  kind : Nat
  spare : Nat
  film : Nat
  amount : Nat
  minute : Nat
  deriving DecidableEq, Repr

/-- The fields of a snapshot, less its check sum. -/
structure Snapshot where
  stay : Nat
  closing : Nat
  total : Nat
  cap : Nat
  quality : Nat
  nextSerial : Nat
  roomCeiling : Nat
  hardCeiling : Nat
  grace : Nat
  previewAllowance : Nat
  unlockDuration : Nat
  lockoutLength : Nat
  digits : List Nat
  entries : List SnapEntry
  records : List SnapRecord
  deriving DecidableEq, Repr

/-- The 12 bytes of an entitlement. -/
def snapEntryBytes (e : SnapEntry) : List Byte :=
  be16 e.film ++ be8 e.state ++ be16 e.price ++ be16 e.clear ++ be16 e.impaired ++ be24 e.windowEnd

/-- The 10 bytes of a record. -/
def snapRecordBytes (r : SnapRecord) : List Byte :=
  be16 r.serial ++ be16 (r.kind * 16384 + r.spare * 4096 + r.film) ++ be24 r.amount ++ be24 r.minute

/-- The bytes of a snapshot before its check sum. -/
def snapshotHead (x : Snapshot) : List Byte :=
  be16 x.stay ++ be8 x.closing ++ be24 x.total ++ be24 x.cap ++ be8 x.quality ++ be16 x.nextSerial ++
    be8 (x.roomCeiling * 16 + x.hardCeiling) ++ be16 x.grace ++ be16 x.previewAllowance ++
    be8 x.unlockDuration ++ be8 x.lockoutLength ++ be8 x.entries.length ++ be8 x.records.length ++
    be8 x.digits.length ++ x.digits.flatMap be8 ++ x.entries.flatMap snapEntryBytes ++
    x.records.flatMap snapRecordBytes

/-- The body of a SNAPSHOT report: the fields, then the check sum (R174). -/
def snapshotBytes (x : Snapshot) : List Byte :=
  snapshotHead x ++ be16 (byteSum (snapshotHead x) % 65536)

/-- The entitlement that 12 bytes spell. -/
def parseSnapEntry (bs : List Byte) : SnapEntry :=
  { film := field bs 1 2, state := byteAt bs 3, price := field bs 4 2, clear := field bs 6 2
    impaired := field bs 8 2, windowEnd := field bs 10 3 }

/-- The record that 10 bytes spell. -/
def parseSnapRecord (bs : List Byte) : SnapRecord :=
  { serial := field bs 1 2, kind := byteAt bs 3 / 64, spare := byteAt bs 3 / 16 % 4
    film := field bs 3 2 % 4096, amount := field bs 5 3, minute := field bs 8 3 }

/-- The fields of a snapshot body of the length its counts call for. -/
def parseSnapshot (bs : List Byte) : Snapshot :=
  let n := byteAt bs 22
  let e := byteAt bs 20
  let r := byteAt bs 21
  { stay := field bs 1 2, closing := byteAt bs 3, total := field bs 4 3, cap := field bs 7 3
    quality := byteAt bs 10, nextSerial := field bs 11 2
    roomCeiling := byteAt bs 13 / 16, hardCeiling := byteAt bs 13 % 16
    grace := field bs 14 2, previewAllowance := field bs 16 2
    unlockDuration := byteAt bs 18, lockoutLength := byteAt bs 19
    digits := digitsOf ((bs.drop 22).take n)
    entries := (List.range e).map fun i => parseSnapEntry ((bs.drop (22 + n + 12 * i)).take 12)
    records := (List.range r).map fun i =>
      parseSnapRecord ((bs.drop (22 + n + 12 * e + 10 * i)).take 10) }

/-- The check sum of a snapshot body matches: the last two bytes are the sum, mod 65,536, of every
byte before them (R174, R175). -/
def snapshotCheckOk (bs : List Byte) : Bool :=
  beNat (bs.drop (bs.length - 2)) == byteSum (bs.take (bs.length - 2)) % 65536

end Sys2Proof.Machine
end

