-- ==== Sys2Proof/Machine/Flags.lean ====
section
/-! DEFINITION. The conditions and values the blocks derive from what they hold: saturation, the
effective ceiling, eligibility at the decoder port, evictability, the free places of the tables, the
unreserved places of the posting queue, the credit amount, the summaries that replies and reports
carry. -/

namespace Sys2Proof.Machine

/-! ### Limits and counters (sections 5.1 to 5.3) -/

/-- The last house minute, 16,777,215. -/
def lastMinute : Nat := 16777215

/-- The largest credit cap and stay total, 9,999,999 cents. -/
def maxTotal : Nat := 9999999

/-- A counter of 0 to 65,535 raised by one, saturating (section 5.3). -/
def satInc (n : Nat) : Nat := min (n + 1) 65535

/-- A counter of 0 to 63 raised by one, saturating (section 8.2). -/
def satInc63 (n : Nat) : Nat := min (n + 1) 63

/-- A value clamped into a range. -/
def clampTo (lo hi n : Nat) : Nat := max lo (min n hi)

/-- A house minute some minutes on; a sum above 16,777,215 is stored as 16,777,215 (R58, R59, R82). -/
def minuteAfter (minute length : Nat) : Nat := min (minute + length) lastMinute

/-! ### Rating Gate -/

/-- E: the hard ceiling while an unlock is in force and the room ceiling otherwise (R53). -/
def effectiveCeiling (g : RatingGate) : Nat :=
  if g.unlockExpiry.isSome then g.hardCeiling else g.roomCeiling

/-- The lock summary (R63). -/
def lockSummary (g : RatingGate) : LockSummary :=
  { roomCeiling := g.roomCeiling, hardCeiling := g.hardCeiling, effective := effectiveCeiling g
    unlockExpiry := g.unlockExpiry, lockoutExpiry := g.lockoutExpiry, failures := g.failures
    pinPresent := g.pin.isSome }

/-- A ceiling above 7 is stored as 7, and then a room ceiling above the hard one as the hard one
(R54, R55). -/
def clampCeiling (room hard : Nat) : Nat := min (min room 7) (min hard 7)

/-- A PIN in a request is well-formed: its digit count is one of those allowed and no digit is above
9 (R57). -/
def pinWellFormed (zeroAllowed : Bool) (digits : List Nat) : Bool :=
  ((zeroAllowed && digits.isEmpty) || (4 ≤ digits.length && digits.length ≤ 8)) &&
    digits.all (· ≤ 9)

/-- The gate's answer for a purchase (R66). -/
inductive RatingAnswer where
  | allowed | locked | barred
  deriving DecidableEq, Repr

/-- R66. -/
def ratingAnswer (g : RatingGate) (rating : Nat) : RatingAnswer :=
  if g.hardCeiling < rating then .barred
  else if effectiveCeiling g < rating then .locked
  else .allowed

/-! ### Key Table -/

/-- The slot of a parity. -/
def keySlot (g : KeyGroup) : Parity → Option LoadedKey
  | .even => g.even
  | .odd => g.odd

/-- The group with one slot replaced. -/
def setKeySlot (g : KeyGroup) (p : Parity) (k : Option LoadedKey) : KeyGroup :=
  match p with
  | .even => { g with even := k }
  | .odd => { g with odd := k }

/-- Group `i`, 0 to 15. -/
def keyGroup (t : KeyTable) (i : Nat) : KeyGroup := t.groups.getD i ⟨none, none, none⟩

/-- The parity codes of a KEY_DELIVERY (section 12.2): 0 EVEN, 1 ODD, `none` for any other value. -/
def parityOf (code : Nat) : Option Parity :=
  match code with
  | 0 => some .even
  | 1 => some .odd
  | _ => none

/-- The code of a parity. -/
def parityCode : Parity → Nat
  | .even => 0
  | .odd => 1

/-- The parity a scrambling mode names. -/
def modeParity : ScrambleMode → Option Parity
  | .even => some .even
  | .odd => some .odd
  | _ => none

/-! ### Output Stage -/

/-- An output is eligible when it offers its head item: RUNNING with a non-empty queue, or FILLING
with a marker at its head (R44, R45, R46). -/
def eligible (o : Output) : Bool :=
  match o.state, o.queue with
  | .running, _ :: _ => true
  | .filling, .marker _ :: _ => true
  | _, _ => false

/-- An output is tuned to a service (R24). -/
def tunedTo (o : Output) (service : Nat) : Bool :=
  o.state != .idle && o.service == some service

/-- The output index a byte names: 0 MAIN, 1 INSET (R35). -/
def outputIxOf (n : Nat) : Option OutputIx :=
  match n with
  | 0 => some .main
  | 1 => some .inset
  | _ => none

/-- The output of an index. -/
def outputAt (x : OutputStage) : OutputIx → Output
  | .main => x.main
  | .inset => x.inset

/-- The stage with one output replaced. -/
def setOutputAt (x : OutputStage) (ix : OutputIx) (o : Output) : OutputStage :=
  match ix with
  | .main => { x with main := o }
  | .inset => { x with inset := o }

/-- The cell in judging named the output (R24, R38). -/
def judgedFor (j : Judging) : OutputIx → Bool
  | .main => j.toMain
  | .inset => j.toInset

/-! ### Folio Unit -/

/-- The entries of the table, in place order. -/
def liveEntries (es : List (Option Entry)) : List Entry := es.filterMap id

/-- The entry of a place. -/
def entryAt (f : Folio) (i : Nat) : Option Entry := f.entries.getD i none

/-- The place of a film's entry. -/
def placeOf (es : List (Option Entry)) (film : Nat) : Option Nat :=
  es.findIdx? fun o => o.any fun e => e.film == film

/-- The lowest-numbered free place (R68). -/
def freePlace (es : List (Option Entry)) : Option Nat := es.findIdx? Option.isNone

/-- A PREVIEW entry with both flags clear (R74). -/
def evictable (e : Entry) : Bool := e.state == .preview && !e.seenClear && !e.seenFail

/-- The place to evict: the lowest last-presented value among the evictable entries, and the
lowest-numbered place of those that share it (R74). -/
def evictPlace (es : List (Option Entry)) : Option Nat :=
  match (((liveEntries es).filter evictable).map (·.lastPresented)).min? with
  | none => none
  | some m => es.findIdx? fun o => o.any fun e => evictable e && e.lastPresented == m

/-- The place a new entry takes: the lowest free one, else an evicted one (R68, R73). -/
def newPlace (es : List (Option Entry)) : Option Nat := (freePlace es).or (evictPlace es)

/-- A new PREVIEW entry (R73). -/
def newEntry (film second : Nat) : Entry :=
  { film := film, state := .preview, previewUsed := 0, price := none, clear := 0, impaired := 0
    windowEnd := none, lastPresented := second, seenClear := false, seenFail := false
    chargeSerial := none, credit := none }

/-- How many entries are BOUGHT. -/
def boughtCount (es : List (Option Entry)) : Nat :=
  (liveEntries es).countP fun e => e.state == .bought

/-- The sum of P over the BOUGHT entries (R95). -/
def boughtSum (es : List (Option Entry)) : Nat :=
  ((liveEntries es).map fun e => if e.state = .bought then e.price.getD 0 else 0).sum

/-- An unreserved place exists when records and BOUGHT entries number fewer than 10 (R99). -/
def unreservedPlace (f : Folio) : Bool := f.queue.length + boughtCount f.entries < 10

/-- Some entry is SETTLING. -/
def anySettling (es : List (Option Entry)) : Bool :=
  (liveEntries es).any fun e => e.state == .settling

/-- Some entry is BOUGHT or CHARGED (R173). -/
def anyPaid (es : List (Option Entry)) : Bool :=
  (liveEntries es).any fun e => e.state == .bought || e.state == .charged

/-- The credit amount (R98): due when P is above 0, I is 60 or more, and I × 100 is at least
(C + I) × Q; then P × I divided by C + I, rounded down. -/
def creditAmount (price clear impaired quality : Nat) : Nat :=
  if 0 < price ∧ 60 ≤ impaired ∧ (clear + impaired) * quality ≤ impaired * 100 then
    price * impaired / (clear + impaired)
  else 0

/-- The serial after one: after 65,535 it returns to 1 (R103). -/
def serialAfter (n : Nat) : Nat := if n ≥ 65535 then 1 else n + 1

/-- The tariff of a film. -/
def tariffOf (f : Folio) (film : Nat) : Option Tariff :=
  (f.tariffs.filterMap id).find? fun t => t.film == film

/-- How many tariff entries the table holds. -/
def tariffCount (f : Folio) : Nat := (f.tariffs.filterMap id).length

/-- The film ID of a request is 1 to 4095 (R79). -/
def validFilm (film : Nat) : Bool := 1 ≤ film && film ≤ 4095

/-! ### House Clock -/

/-- The house minute as readers find it: 0 while the clock is UNSET (R122). -/
def houseMinute (c : HouseClock) : Nat := if c.set then c.minute else 0

/-! ### Loop Station -/

/-- A buffer of the inbox. -/
def bufferAt (l : LoopStation) : BufferIx → InboxBuffer
  | .b0 => l.buffer0
  | .b1 => l.buffer1

/-- The inbox with one buffer replaced. -/
def setBuffer (l : LoopStation) (ix : BufferIx) (b : InboxBuffer) : LoopStation :=
  match ix with
  | .b0 => { l with buffer0 := b }
  | .b1 => { l with buffer1 := b }

/-- The other buffer. -/
def otherBuffer : BufferIx → BufferIx
  | .b0 => .b1
  | .b1 => .b0

/-- The lowest-numbered FREE buffer (R143, R145). -/
def freeBufferIx (l : LoopStation) : Option BufferIx :=
  if l.buffer0 = .free then some .b0 else if l.buffer1 = .free then some .b1 else none

/-- The RESERVED buffer. -/
def reservedBufferIx (l : LoopStation) : Option BufferIx :=
  if l.buffer0 = .reserved then some .b0 else if l.buffer1 = .reserved then some .b1 else none

/-- The message of a FILLED buffer. -/
def filledMessage : InboxBuffer → Option InboxMessage
  | .filled m => some m
  | _ => none

/-- The FILLED buffer that was filled earliest, with its message (R149). -/
def oldestFilled (l : LoopStation) : Option (BufferIx × InboxMessage) :=
  match filledMessage l.buffer0, filledMessage l.buffer1 with
  | none, none => none
  | some m, none => some (.b0, m)
  | none, some m => some (.b1, m)
  | some m0, some m1 => match l.older with
    | .b0 => some (.b0, m0)
    | .b1 => some (.b1, m1)

/-- How many buffers are FILLED. -/
def filledCount (l : LoopStation) : Nat :=
  (if (filledMessage l.buffer0).isSome then 1 else 0) +
    (if (filledMessage l.buffer1).isSome then 1 else 0)

/-- The address after one, with 1 following 255 (R138, R139). -/
def addressAfter (a : Nat) : Nat := if a ≥ 255 then 1 else a + 1

/-! ### Set Link Port -/

/-- The parity mark of R160: the data bits and the parity bit hold an odd number of ones. -/
def parityMark (b : Byte) (parityBit : Bool) : Bool :=
  ((List.range 8).countP (fun i => b.getLsbD i) + (if parityBit then 1 else 0)) % 2 == 1

/-- The fault cause a marked byte gives, in the order overrun, framing, parity (R163). -/
def markCause (b : FifoByte) : Option LinkCause :=
  if b.overrun then some .overrun
  else if b.framing then some .framing
  else if b.parity then some .parity
  else none

/-- The rate in bit/s (section 10.1). -/
def bitRate : LinkRate → Nat
  | .r57600 => 57600
  | .r115200 => 115200
  | .r230400 => 230400
  | .r460800 => 460800

/-- The inter-byte timeout, 4 characters of 11 bit times each, in bit times at the strapped rate
(section 10.1, R165). -/
def interByteBits : Nat := 4 * 11

/-- A report's class (section 10.6). -/
inductive ReportClass where
  | urgent | guest | info
  deriving DecidableEq, Repr

/-- The class of each report (section 10.6). -/
def reportClass : Report → ReportClass
  | .feedState .. => .urgent
  | .keyEvent .. => .info
  | .lockState .. => .guest
  | .filmEvent .. => .guest
  | .stayState .. => .guest
  | .deskNote .. => .guest
  | .snapshot .. => .guest
  | .loopState cause .. => if cause = .duplicateSeen then .urgent else .info
  | .linkFault .. => .urgent
  | .guideData .. => .info
  | .tariffEvent .. => .info

/-- The index of the report the transmitter takes: the highest class present, and within it the
earliest entry position (R169). -/
def chosenReport (rs : List Report) : Option Nat :=
  let first (c : ReportClass) : Option Nat := rs.findIdx? fun r => reportClass r == c
  ((first .urgent).or (first .guest)).or (first .info)

/-- Two reports of the kinds of which the queue holds at most one (R168). -/
def sameSingleKind : Report → Report → Bool
  | .snapshot .., .snapshot .. => true
  | .feedState .., .feedState .. => true
  | _, _ => false

/-! ### What STATUS and ROOM_REPORT carry -/

/-- R49. -/
def outputStatus (o : Output) : OutputStatus :=
  { state := o.state, service := o.service.getD 0, priority := o.priority, threshold := o.threshold
    items := o.queue.length, gapOwed := o.gapOwed, overflows := o.overflows
    underruns := o.underruns }

/-- R147. -/
def loopStatus (l : LoopStation) : LoopStatus :=
  { state := l.state, address := l.address, successor := l.successor, phase := l.phase
    pendingReply := l.pendingReply, duplicateSeen := l.duplicateSeen, ownRebuild := l.ownRebuild
    declineCount := l.declineCount, declineLimit := l.declineLimit, retryCount := l.retryCount
    rebuildCount := l.rebuildCount, packetFaults := l.packetFaults, inboxDrops := l.inboxDrops
    filledBuffers := filledCount l }

/-- The pending check-in's stay number, or 0. -/
def pendingStay (c : StayController) : Nat :=
  match c.pendingCheckIn with
  | some p => p.stay
  | none => 0

/-- R171. -/
def statusValues (s : State) : StatusValues :=
  { room := s.stay.room, stay := s.stay.stay, pendingStay := pendingStay s.stay
    clockSet := s.clock.set, minute := houseMinute s.clock
    feed := s.feed.state, feedCounts := s.feed.counts
    main := outputStatus s.outputs.main, inset := outputStatus s.outputs.inset
    entries := (liveEntries s.folio.entries).length, queueDepth := s.folio.queue.length
    tariffs := tariffCount s.folio, loop := loopStatus s.loop, malformed := s.desk.malformed
    rate := s.link.rate, guide := s.link.guide, reportDepth := s.link.reports.length
    reportSeq := s.link.reportSeq, lostReports := s.link.lostReports
    linkCounts := s.link.counts }

/-- The ROOM_REPORT body, formed from the values of the moment (R158, section 12.2). -/
def roomReportBody (s : State) : List Byte :=
  be8 0x23 ++ be8 s.loop.address ++ be8 (roomCode s.stay.room) ++ be16 s.stay.stay ++
    be16 (pendingStay s.stay) ++ be24 s.folio.total ++ be24 s.folio.reserved ++ be24 s.folio.cap ++
    be8 s.folio.queue.length ++ be8 (liveEntries s.folio.entries).length ++
    be8 s.gate.roomCeiling ++ be8 s.gate.hardCeiling ++
    be8 (flagBit s.gate.unlockExpiry.isSome 4 + flagBit s.gate.lockoutExpiry.isSome 2 +
      flagBit s.gate.pin.isSome 1) ++
    be8 (flagBit s.clock.set 1) ++ be24 (houseMinute s.clock) ++ be8 (feedCode s.feed.state) ++
    be16 s.loop.rebuildCount ++ be16 s.folio.tariffFull ++ be16 s.desk.malformed

/-! ### The snapshot of the room (R174) -/

/-- The entitlement state codes of a snapshot (section 12.4); a PREVIEW entry is not carried. -/
def snapStateCode : EntryState → Nat
  | .preview => 0
  | .bought => 1
  | .charged => 2
  | .settling => 3

/-- The record kind codes of a snapshot (section 12.4). -/
def snapKindCode : RecordKind → Nat
  | .charge => 1
  | .credit => 2
  | .stayClosed => 3

/-- One entitlement as a snapshot carries it. -/
def snapEntryOf (e : Entry) : SnapEntry :=
  { film := e.film, state := snapStateCode e.state, price := e.price.getD 0, clear := e.clear
    impaired := e.impaired, windowEnd := e.windowEnd.getD 0 }

/-- One record as a snapshot carries it. -/
def snapRecordOf (r : Record) : SnapRecord :=
  { serial := r.serial, kind := snapKindCode r.kind, spare := 0, film := r.film, amount := r.amount
    minute := r.minute }

/-- The snapshot of the blocks as they stand (R174). -/
def snapshotOf (s : State) : Snapshot :=
  { stay := s.stay.stay, closing := flagBit (s.stay.room == .closing) 1
    total := s.folio.total, cap := s.folio.cap, quality := s.folio.quality
    nextSerial := s.folio.nextSerial
    roomCeiling := s.gate.roomCeiling, hardCeiling := s.gate.hardCeiling
    grace := s.stay.grace, previewAllowance := s.stay.previewAllowance
    unlockDuration := s.gate.unlockDuration, lockoutLength := s.gate.lockoutLength
    digits := s.gate.pin.getD []
    entries := ((liveEntries s.folio.entries).filter fun e => e.state != .preview).map snapEntryOf
    records := s.folio.queue.map snapRecordOf }

end Sys2Proof.Machine
end

