-- ==== Sys2Proof/Machine/Ops.lean ====
section
/-! DEFINITION. The operations the blocks share: admitting a report (R168), emitting a snapshot
(R173), taking a held request and answering it (R166), handling the oldest FILLED inbox buffer
(R149), and walking the places of the entitlement table in order (R68). -/

namespace Sys2Proof.Machine

/-! ### Reports (section 10.6) -/

/-- The report queue with a report of a single kind replaced in its place (R168). -/
def replaceReport (r : Report) (rs : List Report) : List Report :=
  rs.map fun x => if sameSingleKind x r then r else x

/-- Admission of a report (R168): a SNAPSHOT or FEED_STATE replaces an unsent one of its kind in its
place; otherwise the report takes one of the 16 places, or is dropped and counted. -/
def queueReport (r : Report) (l : SetLink) : SetLink :=
  if l.reports.any (sameSingleKind · r) then { l with reports := replaceReport r l.reports }
  else if l.reports.length < 16 then { l with reports := l.reports ++ [r] }
  else { l with lostReports := satInc l.lostReports }

/-- A block hands a report to the Set Link Port (R168). -/
def report (r : Report) (s : State) : State := s.setLink (queueReport r s.link)

/-- The snapshot second count at 0: every emission returns it (R173). -/
def zeroSnapshotSeconds (s : State) : State :=
  s.setFolio { s.folio with snapshotSeconds := 0 }

/-- A snapshot is emitted: formed from the blocks as they stand and admitted (R173, R174). -/
def emitSnapshot (s : State) : State :=
  report (.snapshot (snapshotBytes (snapshotOf s))) (zeroSnapshotSeconds s)

/-- A LOCK_STATE report with the lock summary as it stands (R64). -/
def lockReport (cause : LockCause) (reason : Option EndReason) (s : State) : State :=
  report (.lockState cause reason (lockSummary s.gate)) s

/-- A STAY_STATE report with the values as they stand (R120). -/
def stayReport (cause : StayCause) (capClamped : Bool) (s : State) : State :=
  report (.stayState cause s.stay.room s.stay.stay (s.stay.pendingCheckIn.map (·.stay))
    s.stay.closureQueued s.folio.total s.folio.reserved s.folio.cap capClamped s.folio.queue.length
    (liveEntries s.folio.entries).length) s

/-- A LOOP_STATE report with the values as they stand (R146). -/
def loopReport (cause : LoopCause) (s : State) : State :=
  report (.loopState cause s.loop.state s.loop.address s.loop.successor s.loop.declineCount
    s.loop.declineLimit s.loop.retryCount s.loop.rebuildCount s.loop.duplicateSeen
    s.loop.ownRebuild) s

/-- A FILM_EVENT report of an entry: its state after the event is given, `none` when it has been
removed (R87). -/
def filmReport (e : Entry) (event : FilmEventKind) (state : Option EntryState)
    (credit : Option Nat) (s : State) : State :=
  report (.filmEvent e.film event state e.price e.windowEnd e.clear e.impaired e.previewUsed credit) s

/-- A FEED_STATE report with the state and the counts as they stand (R14). -/
def feedReport (cause : FeedCause) (s : State) : State :=
  report (.feedState s.feed.state cause s.feed.counts) s

/-! ### Requests (section 10.4) -/

/-- The held frame that the port may take: the assembler is HOLDING and the reply slot is EMPTY
(R166). -/
def heldFrame (s : State) : Option Frame :=
  match s.link.assembler, s.link.slot with
  | .holding f, .empty => some f
  | _, _ => none

/-- The held frame, when its kind is this one. -/
def heldRequest (kind : Nat) (s : State) : Option Frame :=
  (heldFrame s).filter fun f => f.kind.toNat == kind

/-- The frame is taken: the slot becomes SERVING and the assembler returns to HUNTING (R166). -/
def takeFrame (f : Frame) (s : State) : State :=
  s.setLink { s.link with assembler := .hunting, slot := .serving f }

/-- The reply is formed: the request's kind with 0x80 added, its tag, the result code and what
follows it; the slot becomes READY (R166). -/
def answer (f : Frame) (code : ResultCode) (body : ReplyBody) (s : State) : State :=
  s.setLink { s.link with slot := .ready ⟨f.kind + 0x80#8, f.tag, code, body⟩ }

/-- A held request of this kind is taken, judged and served (R166): a body of the wrong length is
answered BAD_REQUEST by the port; otherwise the owner serves it as one event. Where no such request
can be taken, nothing comes about (notes/assumptions/6.md). -/
def serveRequest (kind : Nat) (owner : Frame → State → State) (s : State) : State :=
  match heldRequest kind s with
  | none => s
  | some f =>
    if lengthMatches f then owner f (takeFrame f s)
    else answer f .badRequest .codeOnly (takeFrame f s)

/-! ### Desk messages (section 9.1) -/

/-- A buffer becomes FREE. -/
def freeBuffer (ix : BufferIx) (s : State) : State := s.setLoop (setBuffer s.loop ix .free)

/-- The message the handler takes: the oldest FILLED one, when it handles none (R149), with the
fields its form check finds. -/
def nextMessage (s : State) : Option (BufferIx × InboxMessage × Option DeskMessage) :=
  match s.desk.handling, oldestFilled s.loop with
  | none, some (ix, m) => some (ix, m, parseDesk m)
  | _, _ => none

/-- The oldest message is handled when it is one `select` takes: its owner acts on it as one event,
and the buffer is then freed (R149). Where the handler has no such message to take, nothing comes
about (notes/assumptions/6.md). -/
def serveMessage (select : DeskMessage → Option (State → State)) (s : State) : State :=
  match nextMessage s with
  | some (ix, _, some d) =>
    match select d with
    | some act => freeBuffer ix (act s)
    | none => s
  | _ => s

/-! ### The entitlement table in place order (R68) -/

/-- The entry of a place replaced. -/
def setEntry (i : Nat) (o : Option Entry) (s : State) : State :=
  s.setFolio { s.folio with entries := s.folio.entries.set i o }

/-- A step for each of the eight places, lowest first (R68). -/
def overPlaces (step : Nat → State → State) (s : State) : State :=
  (List.range 8).foldl (fun s i => step i s) s

/-- The pending reply is set; a ROOM_REPORT exchange in POSTING, whose body has been formed, takes
the re-requested mark (R136, R157). -/
def requestRoomReport (s : State) : State :=
  s.setLoop { s.loop with
    pendingReply := true
    exchange := match s.loop.phase, s.loop.exchange with
      | .posting, some (.roomReport _) => some (.roomReport true)
      | _, x => x }

end Sys2Proof.Machine
end

