-- ==== Sys2Proof/Machine/Gate.lean ====
section
/-! DEFINITION. The Rating Gate (chapter 4): UNLOCK, RELOCK, SET_PIN, SET_CEILING, the stay's values
and the expiries. -/

namespace Sys2Proof.Machine

/-- The reply of a gate request: its code and the lock summary as it stands (R63). -/
def answerLock (f : Frame) (code : ResultCode) (s : State) : State :=
  answer f code (.lock (lockSummary s.gate)) s

/-- The current house minute plus a length, at the most 16,777,215. -/
def expiryAfter (length : Nat) (s : State) : Nat := minuteAfter (houseMinute s.clock) length

/-- A wrong entry (R59): the third begins a lockout. -/
def wrongEntry (s : State) : State :=
  if s.gate.failures + 1 ≥ 3 then
    lockReport .lockoutBegun none (s.setGate { s.gate with
      failures := 0, lockoutExpiry := some (expiryAfter s.gate.lockoutLength s) })
  else s.setGate { s.gate with failures := s.gate.failures + 1 }

/-- The digits of a PIN at body byte `i`: a count and that many digits (section 12.3). -/
def bodyPin (body : List Byte) (i : Nat) : List Nat :=
  digitsOf ((body.drop i).take (byteAt body i))

/-- UNLOCK with the correct PIN (R58). -/
def grantUnlock (s : State) : State :=
  let cause := if s.gate.unlockExpiry.isSome then LockCause.unlockExtended else .unlockBegun
  lockReport cause none (s.setGate { s.gate with
    failures := 0, unlockExpiry := some (expiryAfter s.gate.unlockDuration s) })

/-- The gate serves an UNLOCK: the six checks in order (R58). -/
def serveUnlock (f : Frame) (s : State) : State :=
  let pin := bodyPin f.body 1
  if !pinWellFormed false pin then answerLock f .badRequest s
  else if s.stay.room ≠ .occupied then answerLock f .roomState s
  else if s.clock.set = false then answerLock f .clockUnset s
  else if s.gate.pin = none then answerLock f .noPin s
  else if s.gate.lockoutExpiry.isSome then answerLock f .lockedOut s
  else if s.gate.pin ≠ some pin then answerLock f .wrongPin (wrongEntry s)
  else answerLock f .ok (grantUnlock s)

/-- The gate serves a RELOCK (R60). -/
def serveRelock (f : Frame) (s : State) : State :=
  if s.gate.unlockExpiry.isSome then
    answerLock f .ok (lockReport .unlockEnded (some .relock)
      (s.setGate { s.gate with unlockExpiry := none }))
  else answerLock f .already s

/-- The gate serves a SET_PIN: the six checks in order (R61). -/
def serveSetPin (f : Frame) (s : State) : State :=
  let old := bodyPin f.body 1
  let new := bodyPin f.body (2 + byteAt f.body 1)
  if !(pinWellFormed true old && pinWellFormed false new) then answerLock f .badRequest s
  else if s.stay.room ≠ .occupied then answerLock f .roomState s
  else if s.clock.set = false then answerLock f .clockUnset s
  else if s.gate.lockoutExpiry.isSome then answerLock f .lockedOut s
  else if s.gate.pin.isSome ∧ old = [] then answerLock f .badRequest s
  else if s.gate.pin.isSome ∧ s.gate.pin ≠ some old then answerLock f .wrongPin (wrongEntry s)
  else answerLock f .ok (s.setGate { s.gate with pin := some new, failures := 0 })

/-- The gate serves a SET_CEILING: a lowering is free, a raise needs the PIN and stops at H (R62). -/
def serveSetCeiling (f : Frame) (s : State) : State :=
  let value := byteAt f.body 1
  let pin := bodyPin f.body 2
  if 7 < value ∨ !pinWellFormed true pin then answerLock f .badRequest s
  else if s.stay.room ≠ .occupied then answerLock f .roomState s
  else if value ≤ s.gate.roomCeiling then
    answerLock f .ok (s.setGate { s.gate with roomCeiling := value })
  else if s.clock.set = false then answerLock f .clockUnset s
  else if s.gate.pin = none then answerLock f .noPin s
  else if s.gate.lockoutExpiry.isSome then answerLock f .lockedOut s
  else if pin = [] then answerLock f .badRequest s
  else if s.gate.pin ≠ some pin then answerLock f .wrongPin (wrongEntry s)
  else answerLock f .ok (s.setGate { s.gate with
    roomCeiling := min value s.gate.hardCeiling, failures := 0 })

/-! ### The stay's values (section 4.3) -/

/-- The values of a check-in or an accepted RESTORE, clamped (R54). -/
def gateOfStay (p : StayParams) : RatingGate :=
  { roomCeiling := clampCeiling p.roomCeiling p.hardCeiling
    hardCeiling := min p.hardCeiling 7
    pin := p.pin
    unlockExpiry := none, lockoutExpiry := none, failures := 0
    unlockDuration := clampTo 1 240 p.unlockDuration
    lockoutLength := clampTo 1 255 p.lockoutLength }

/-- The gate at the beginning of a stay (R54). -/
def gateBegin (p : StayParams) (s : State) : State :=
  lockReport .stayChange none (s.setGate (gateOfStay p))

/-- The gate at an update: an unlock, a lockout, the failure count and, without a new one, the PIN
stay (R55). -/
def gateUpdate (p : StayParams) (s : State) : State :=
  lockReport .stayChange none (s.setGate { s.gate with
    roomCeiling := clampCeiling p.roomCeiling p.hardCeiling
    hardCeiling := min p.hardCeiling 7
    pin := p.pin.or s.gate.pin
    unlockDuration := clampTo 1 240 p.unlockDuration
    lockoutLength := clampTo 1 255 p.lockoutLength })

/-- The gate takes its vacant values; the unlock duration and the lockout length stay (R52, R56). -/
def gateVacant (s : State) : State :=
  lockReport .stayChange none (s.setGate { s.gate with
    roomCeiling := 7, hardCeiling := 7, pin := none, unlockExpiry := none, lockoutExpiry := none
    failures := 0 })

/-! ### Expiry (section 4.8) -/

/-- An expiry has been reached at a new minute. -/
def reached (expiry : Option Nat) (minute : Nat) : Bool :=
  match expiry with
  | some e => e ≤ minute
  | none => false

/-- The gate's share of a house-minute change: an unlock and a lockout that are due end, the unlock
first (R65). Where both end, the UNLOCK_ENDED report still shows the lockout: DESIGN CHOICE
(notes/assumptions/31.md). An unlock extended just before ends here too when its new expiry is reached:
DEDUCED (notes/assumptions/32.md). -/
def gateMinute (minute : Nat) (s : State) : State :=
  let s1 :=
    if reached s.gate.unlockExpiry minute then
      lockReport .unlockEnded (some .expired) (s.setGate { s.gate with unlockExpiry := none })
    else s
  if reached s1.gate.lockoutExpiry minute then
    lockReport .lockoutEnded (some .expired) (s1.setGate { s1.gate with lockoutExpiry := none })
  else s1

/-! ### The commands -/

/-- UNLOCK (R57 to R59). -/
def execUnlock (s : State) : Host.Outcome State Fault Refusal :=
  .next (serveRequest 0x08 serveUnlock s)

/-- RELOCK (R60). -/
def execRelock (s : State) : Host.Outcome State Fault Refusal :=
  .next (serveRequest 0x09 serveRelock s)

/-- SET_PIN (R61). -/
def execSetPin (s : State) : Host.Outcome State Fault Refusal :=
  .next (serveRequest 0x0A serveSetPin s)

/-- SET_CEILING (R62). -/
def execSetCeiling (s : State) : Host.Outcome State Fault Refusal :=
  .next (serveRequest 0x0B serveSetCeiling s)

end Sys2Proof.Machine
end

