-- ==== Sys2Proof/Machine/Folio.lean ====
section
/-! DEFINITION. The Folio Unit (chapters 5 and 6): the answers for film cells, viewing time, PURCHASE,
CANCEL, FILM_QUERY, windows, settlement, the tariff table and the posting queue, with the commands
FEED_SECOND_CLOSE, PURCHASE, CANCEL, FILM_QUERY, TARIFF_SET and TARIFF_REMOVE. -/

namespace Sys2Proof.Machine

/-! ### Records (section 6.4) -/

/-- A record is created: it takes the next serial and the current house minute and joins the tail of
the posting queue (R102, R103). -/
def appendRecord (kind : RecordKind) (film amount : Nat) (s : State) : State :=
  s.setFolio { s.folio with
    queue := s.folio.queue ++ [⟨s.folio.nextSerial, kind, film, amount, houseMinute s.clock⟩]
    nextSerial := serialAfter s.folio.nextSerial }

/-! ### Settlement (section 6.3) -/

/-- The entry enters SETTLING: its C and I are frozen and its credit amount is computed with the Q in
force (R98). -/
def enterSettling (quality : Nat) (e : Entry) : Entry :=
  { e with state := .settling
           credit := some (creditAmount (e.price.getD 0) e.clear e.impaired quality) }

/-- T falls by a credit; a result below 0 is stored as 0 (R97). -/
def creditTotal (amount : Nat) (s : State) : State :=
  s.setFolio { s.folio with total := s.folio.total - amount }

/-- A SETTLING entry is removed after its settlement, with its ENDED report and a snapshot (R99). -/
def endEntry (i : Nat) (e : Entry) (credit : Nat) (s : State) : State :=
  emitSnapshot (filmReport e .ended none (some credit) (setEntry i none s))

/-- Settlement of the entry of a place (R99): with no credit it is removed; with one it needs an
unreserved place, and waits where there is none. Other entries are left alone. -/
def settlePlace (i : Nat) (s : State) : State :=
  match entryAt s.folio i with
  | some e =>
    if e.state = .settling then
      match e.credit with
      | some (credit + 1) =>
        if unreservedPlace s.folio then
          endEntry i e (credit + 1)
            (creditTotal (credit + 1) (appendRecord .credit e.film (credit + 1) s))
        else s
      | _ => endEntry i e 0 s
    else s
  | none => s

/-- Entries waiting in SETTLING take unreserved places in place order (R100). -/
def settleWaiting (s : State) : State := overPlaces settlePlace s

/-- A CHARGED entry of a place enters SETTLING, and the entries waiting settle in place order (R86,
R88, R98 to R100). -/
def settleCharged (i : Nat) (e : Entry) (s : State) : State :=
  settleWaiting (setEntry i (some (enterSettling s.folio.quality e)) s)

/-! ### Answering for a film cell (section 5.2) -/

/-- The Folio Unit's answer: presentable with the place of the entry that answered. -/
inductive FilmAnswer where
  | notEntitled
  | previewEnded
  | presentable (place : Nat)
  deriving DecidableEq, Repr

/-- The answer from an entry (R72). -/
def answerFromEntry (allowance : Nat) (barred : Bool) (i : Nat) (e : Entry) : FilmAnswer :=
  match e.state with
  | .preview =>
    if allowance ≤ e.previewUsed then .previewEnded
    else if barred then .notEntitled
    else .presentable i
  | .bought => .presentable i
  | .charged => .presentable i
  | .settling => .notEntitled

/-- The place of a film's entry, made when the film has none (R68, R73, R80); `none` when no place
can be had. -/
def placeForFilm (film : Nat) (s : State) : Option (Nat × State) :=
  match placeOf s.folio.entries film with
  | some i => some (i, s)
  | none =>
    match newPlace s.folio.entries with
    | some i => some (i, setEntry i (some (newEntry film s.folio.feedSecond)) s)
    | none => none

/-- The Folio Unit is asked about a film cell (R71 to R73). -/
def askFilm (film : Nat) (barred : Bool) (s : State) : FilmAnswer × State :=
  if s.stay.room ≠ .occupied then (.notEntitled, s)
  else
    match placeForFilm film s with
    | none => (.notEntitled, s)
    | some (i, s') =>
      match entryAt s'.folio i with
      | some e => (answerFromEntry s'.stay.previewAllowance barred i e, s')
      | none => (.notEntitled, s')

/-- The flag a report of a presented cell sets, in whatever state the entry is (R75). -/
def flagPresented (intact : Bool) (e : Entry) : Entry :=
  if intact then { e with seenClear := true } else { e with seenFail := true }

/-- The entry of a place changes, when the place has one. -/
def changeEntry (i : Nat) (change : Entry → Entry) (s : State) : State :=
  match entryAt s.folio i with
  | some e => setEntry i (some (change e)) s
  | none => s

/-- A verdict is reported to the entry that answered (R32, R75). -/
def reportPresented (i : Nat) (intact : Bool) (s : State) : State :=
  changeEntry i (flagPresented intact) s

/-- The entry of a place becomes the one the Cell Descrambler keeps a reference to (R27). -/
def markReference (i : Nat) (s : State) : State :=
  changeEntry i (fun e => { e with answered := true }) s

/-- The place of the entry the Cell Descrambler keeps a reference to: none when that entry has been
removed, even when another has been made for the film (R75). -/
def answeredPlace (es : List (Option Entry)) : Option Nat :=
  es.findIdx? fun o => o.any (·.answered)

/-- The verdict returns along the reference, which it uses up; without its entry the report is discarded
(R32, R75). -/
def reportAnswered (intact : Bool) (s : State) : State :=
  match answeredPlace s.folio.entries with
  | some i => changeEntry i (fun e => { flagPresented intact e with answered := false }) s
  | none => s

/-! ### Commit (R78) -/

/-- The BOUGHT entry of a place becomes a charge. -/
def commitPlace (i : Nat) (s : State) : State :=
  match entryAt s.folio i with
  | some e =>
    let p := e.price.getD 0
    let e' := { e with state := .charged, chargeSerial := some s.folio.nextSerial }
    let s1 := setEntry i (some e') (appendRecord .charge e.film p s)
    let s2 := s1.setFolio { s1.folio with
      total := s1.folio.total + p, reserved := s1.folio.reserved - p }
    emitSnapshot (filmReport e' .committed (some .charged) none s2)
  | none => s

/-- The commit test of a place: a BOUGHT entry whose C is at or above G commits (R77). -/
def commitTest (i : Nat) (s : State) : State :=
  match entryAt s.folio i with
  | some e => if e.state = .bought ∧ s.stay.grace ≤ e.clear then commitPlace i s else s
  | none => s

/-! ### The close of a feed second (section 5.4) -/

/-- An entry with a flag set at the close: the count its state and flags call for, both flags
cleared, and last presented (R76). With a preview allowance of 0 no preview second is counted (R77); the
flags of such a PREVIEW entry are still cleared: DEDUCED (notes/assumptions/33.md). -/
def closeEntry (second allowance : Nat) (e : Entry) : Entry :=
  let counted := match e.state with
    | .preview =>
      if allowance = 0 then e else { e with previewUsed := min (e.previewUsed + 1) 600 }
    | .settling => e
    | _ => if e.seenFail then { e with impaired := satInc e.impaired }
           else { e with clear := satInc e.clear }
  { counted with seenClear := false, seenFail := false, lastPresented := second }

/-- The close of a place, with the PREVIEW_ENDED report when the preview used rises to the allowance
(R76, R77). -/
def closePlace (i : Nat) (s : State) : State :=
  match entryAt s.folio i with
  | some e =>
    if e.seenClear ∨ e.seenFail then
      let e' := closeEntry s.folio.feedSecond s.stay.previewAllowance e
      let s' := setEntry i (some e') s
      if e.state = .preview ∧ e.previewUsed < s.stay.previewAllowance ∧
          e'.previewUsed = s.stay.previewAllowance then
        filmReport e' .previewEnded (some .preview) none s'
      else s'
    else s
  | none => s

/-- The periodic snapshot (R173). -/
def periodicSnapshot (s : State) : State :=
  if anyPaid s.folio.entries then
    if s.folio.snapshotSeconds + 1 ≥ 60 then emitSnapshot s
    else s.setFolio { s.folio with snapshotSeconds := s.folio.snapshotSeconds + 1 }
  else zeroSnapshotSeconds s

/-- The feed-second number rises, saturating (section 5.1, R76). -/
def advanceSecond (s : State) : State :=
  s.setFolio { s.folio with feedSecond := min (s.folio.feedSecond + 1) 4294967295 }

/-- The flags of the second are counted and cleared, in place order (R76). At the close of a boundary
signalled before a SOFT_RESET no entry has a flag of that second left, and the flags set since the reset
stay for the feed second that follows it (R69). -/
def countFlags (beforeReset : Bool) (s : State) : State :=
  if beforeReset then s else overPlaces closePlace s

/-- The Folio Unit closes the feed second of a boundary signalled before or after a SOFT_RESET (R69, R76,
R77, R173). -/
def closeSecond (beforeReset : Bool) (s : State) : State :=
  periodicSnapshot (advanceSecond (overPlaces commitTest (countFlags beforeReset s)))

/-- The close in hand is that of a boundary signalled before a SOFT_RESET (R69). -/
def closesOldSecond (f : Folio) : Bool := f.closesBeforeReset != 0

/-- A cell handed on before the boundary and still unjudged is a film cell (R76). -/
def filmCellAhead (film closesAhead : Nat) : Bool := film != 0 && closesAhead == 0

/-- The close waits for no verdict: every film cell handed on before its boundary has been judged
(R76). -/
def closeReady (d : Descrambler) : Bool :=
  d.handedOn.all (fun h => !filmCellAhead h.cell.film h.closesAhead) &&
    (match d.judging with
     | some j => !filmCellAhead j.cell.film j.closesAhead
     | none => true)

/-- One boundary fewer lies ahead of the cells handed on. -/
def closeTaken (s : State) : State :=
  (s.setDescrambler
    { handedOn := s.descrambler.handedOn.map fun h => { h with closesAhead := h.closesAhead - 1 }
      judging := s.descrambler.judging.map fun j => { j with closesAhead := j.closesAhead - 1 } }).setFolio
    { s.folio with
      closesDue := s.folio.closesDue - 1, closesBeforeReset := s.folio.closesBeforeReset - 1 }

/-- FEED_SECOND_CLOSE (R69, R76); with no boundary signalled, or a verdict of the second to come, nothing
comes about. -/
def execFeedSecondClose (s : State) : Host.Outcome State Fault Refusal :=
  .next (if 0 < s.folio.closesDue ∧ closeReady s.descrambler then
      closeSecond (closesOldSecond s.folio) (closeTaken s)
    else s)

/-! ### PURCHASE, CANCEL and FILM_QUERY (section 5.5) -/

/-- The film ID of a request. -/
def bodyFilm (f : Frame) : Nat := field f.body 1 2

/-- The entry of a film. -/
def filmEntry (s : State) (film : Nat) : Option Entry :=
  (placeOf s.folio.entries film).bind (entryAt s.folio)

/-- The reply to PURCHASE and CANCEL (R83, R84). -/
def answerFolio (f : Frame) (code : ResultCode) (s : State) : State :=
  let e := filmEntry s (bodyFilm f)
  answer f code (.folio (bodyFilm f) (e.map (·.state)) (e.bind (·.price)) (e.bind (·.windowEnd))
    s.folio.total s.folio.reserved s.folio.cap) s

/-- The entry as bought at a tariff: P, C and I at 0 and the window end are written, everything else
stays (R80, R82). -/
def buyEntry (state : EntryState) (t : Tariff) (minute : Nat) (e : Entry) : Entry :=
  { e with state := state, price := some t.price, clear := 0, impaired := 0
           windowEnd := some (minuteAfter minute t.window) }

/-- The entry of the place is bought in the given state. -/
def buyPlace (state : EntryState) (t : Tariff) (i : Nat) (s : State) : State :=
  match entryAt s.folio i with
  | some e => setEntry i (some (buyEntry state t (houseMinute s.clock) e)) s
  | none => s

/-- A free film: CHARGED at once, with no record and no change of T or R (R80). -/
def purchaseFree (f : Frame) (t : Tariff) (s : State) : State :=
  match placeForFilm (bodyFilm f) s with
  | none => answerFolio f .tableFull s
  | some (i, s') => answerFolio f .ok (emitSnapshot (buyPlace .charged t i s'))

/-- An accepted purchase: BOUGHT, R raised by P, a snapshot, and with G = 0 the commit (R82). -/
def acceptPurchase (t : Tariff) (i : Nat) (s : State) : State :=
  let s1 := buyPlace .bought t i s
  let s2 := emitSnapshot (s1.setFolio { s1.folio with reserved := s1.folio.reserved + t.price })
  if s2.stay.grace = 0 then commitPlace i s2 else s2

/-- The Folio Unit serves a PURCHASE: the eleven checks in order (R79, R81). -/
def servePurchase (f : Frame) (s : State) : State :=
  let film := bodyFilm f
  let state := (filmEntry s film).map (·.state)
  if !validFilm film then answerFolio f .badRequest s
  else if s.stay.room ≠ .occupied then answerFolio f .roomState s
  else if s.clock.set = false then answerFolio f .clockUnset s
  else
    match tariffOf s.folio film with
    | none => answerFolio f .noTariff s
    | some t =>
      if state = some .bought ∨ state = some .charged then answerFolio f .already s
      else if state = some .settling then answerFolio f .settling s
      else
        match ratingAnswer s.gate t.rating with
        | .barred => answerFolio f .ratingBarred s
        | .locked => answerFolio f .ratingLocked s
        | .allowed =>
          if t.price = 0 then purchaseFree f t s
          else if s.folio.cap < s.folio.total + s.folio.reserved + t.price then
            answerFolio f .capReached s
          else if 10 ≤ s.folio.queue.length + boughtCount s.folio.entries then
            answerFolio f .queueFull s
          else
            match placeForFilm film s with
            | none => answerFolio f .tableFull s
            | some (i, s') => answerFolio f .ok (acceptPurchase t i s')

/-- A BOUGHT entry returns to PREVIEW (R84). -/
def cancelEntry (e : Entry) : Entry :=
  { e with state := .preview, price := none, windowEnd := none, clear := 0, impaired := 0 }

/-- The Folio Unit serves a CANCEL; the place it frees goes to a waiting entry (R84, R100). -/
def serveCancel (f : Frame) (s : State) : State :=
  let film := bodyFilm f
  if !validFilm film then answerFolio f .badRequest s
  else
    match placeOf s.folio.entries film with
    | none => answerFolio f .notFound s
    | some i =>
      match entryAt s.folio i with
      | none => answerFolio f .notFound s
      | some e =>
        match e.state with
        | .preview => answerFolio f .notFound s
        | .bought =>
          let s1 := setEntry i (some (cancelEntry e)) s
          let s2 := s1.setFolio { s1.folio with reserved := s1.folio.reserved - e.price.getD 0 }
          answerFolio f .ok (settleWaiting (emitSnapshot s2))
        | _ => answerFolio f .alreadyCharged s

/-- The entitlement as FILM_QUERY shows it (R85). -/
def entryView (allowance place : Nat) (e : Entry) : EntryView :=
  { place := place, state := e.state, previewUsed := e.previewUsed, previewAllowance := allowance
    price := e.price, windowEnd := e.windowEnd, clear := e.clear, impaired := e.impaired
    chargeSerial := e.chargeSerial, credit := e.credit, presented := e.seenClear || e.seenFail }

/-- The Folio Unit serves a FILM_QUERY (R85). -/
def serveFilmQuery (f : Frame) (s : State) : State :=
  let film := bodyFilm f
  if !validFilm film then answer f .badRequest .codeOnly s
  else
    let view := (placeOf s.folio.entries film).bind fun i =>
      (entryAt s.folio i).map (entryView s.stay.previewAllowance i)
    match tariffOf s.folio film, view with
    | none, none => answer f .notFound .codeOnly s
    | t, v => answer f .ok (.film t v) s

/-- PURCHASE (R79 to R83). -/
def execPurchase (s : State) : Host.Outcome State Fault Refusal :=
  .next (serveRequest 0x05 servePurchase s)

/-- CANCEL (R84). -/
def execCancel (s : State) : Host.Outcome State Fault Refusal :=
  .next (serveRequest 0x06 serveCancel s)

/-- FILM_QUERY (R85). -/
def execFilmQuery (s : State) : Host.Outcome State Fault Refusal :=
  .next (serveRequest 0x07 serveFilmQuery s)

/-! ### Windows (section 5.6) -/

/-- A BOUGHT entry lapses (R86). -/
def lapsePlace (i : Nat) (e : Entry) (s : State) : State :=
  let s1 := setEntry i none s
  emitSnapshot (filmReport e .lapsed none none
    (s1.setFolio { s1.folio with reserved := s1.folio.reserved - e.price.getD 0 }))

/-- The window of a place at a new minute (R86); the place that a lapse frees goes to the waiting entries
at once (R100). -/
def windowPlace (minute i : Nat) (s : State) : State :=
  match entryAt s.folio i with
  | some e =>
    if reached e.windowEnd minute then
      match e.state with
      | .bought => settleWaiting (lapsePlace i e s)
      | .charged => emitSnapshot (settleCharged i e s)
      | _ => s
    else s
  | none => s

/-- The Folio Unit's share of a house-minute change: the windows in place order (R86). -/
def folioMinute (minute : Nat) (s : State) : State := overPlaces (windowPlace minute) s

/-! ### The end of a stay (section 5.8) -/

/-- An entry of a place when the room leaves OCCUPIED (R88). -/
def leavePlace (i : Nat) (s : State) : State :=
  match entryAt s.folio i with
  | some e =>
    match e.state with
    | .preview => setEntry i none s
    | .bought =>
      let s1 := setEntry i none s
      s1.setFolio { s1.folio with reserved := s1.folio.reserved - e.price.getD 0 }
    | .charged => settleCharged i e s
    | .settling => s
  | none => s

/-- The Folio Unit's action when the room leaves OCCUPIED, in place order (R88, R100). -/
def leaveTable (s : State) : State := settleWaiting (overPlaces leavePlace s)

/-- The Folio Unit's action on vacate-now (R88, R106). -/
def vacateFolio (f : Folio) : Folio :=
  { f with entries := List.replicate 8 none, queue := [], total := 0, reserved := 0
           nextSerial := 1 }

/-! ### The tariff table (section 6.1) -/

/-- A TARIFF_EVENT report with the values as they stand (R93). -/
def tariffReport (film : Nat) (full : Bool) (s : State) : State :=
  report (.tariffEvent film full (tariffCount s.folio) s.folio.tariffFull) s

/-- The tariff with its values brought into range (R91). -/
def clampTariff (film price window rating : Nat) : Tariff :=
  { film := film, price := min price 60000, window := clampTo 1 2880 window, rating := min rating 7 }

/-- A TARIFF_SET reaches the table (R91). -/
def takeTariff (film price window rating : Nat) (s : State) : State :=
  let t := clampTariff film price window rating
  let put (i : Nat) := s.setFolio { s.folio with tariffs := s.folio.tariffs.set i (some t) }
  if !validFilm film then tariffReport film false s
  else
    match s.folio.tariffs.findIdx? (fun o => o.any fun x => x.film == film) with
    | some i => put i
    | none =>
      match s.folio.tariffs.findIdx? Option.isNone with
      | some i => put i
      | none => tariffReport film true
          (s.setFolio { s.folio with tariffFull := satInc s.folio.tariffFull })

/-- A TARIFF_REMOVE reaches the table (R92). -/
def removeTariff (film : Nat) (s : State) : State :=
  match s.folio.tariffs.findIdx? (fun o => o.any fun x => x.film == film) with
  | some i => s.setFolio { s.folio with tariffs := s.folio.tariffs.set i none }
  | none => s

/-- TARIFF_SET (R91, R154). -/
def execTariffSet (s : State) : Host.Outcome State Fault Refusal :=
  .next (serveMessage (fun
    | .tariffSet film price window rating => some (takeTariff film price window rating)
    | _ => none) s)

/-- TARIFF_REMOVE (R92, R154). -/
def execTariffRemove (s : State) : Host.Outcome State Fault Refusal :=
  .next (serveMessage (fun
    | .tariffRemove film => some (removeTariff film)
    | _ => none) s)

end Sys2Proof.Machine
end

