-- ==== Sys2Proof/Machine/Keys.lean ====
section
/-! DEFINITION. The Key Table (section 2.1): KEY_DELIVERY, KEY_WITHDRAWAL, and the active-parity check
that every cell makes at its arrival. -/

namespace Sys2Proof.Machine

/-- A KEY_EVENT report: the group and parity given, with the counts as they stand (R21). -/
def keyReport (group parity : Nat) (action : KeyAction) (epoch : Nat) (active : Option Parity)
    (s : State) : State :=
  report (.keyEvent group parity action epoch active s.keys.counts) s

/-- Group `i` replaced. -/
def setKeyGroup (i : Nat) (g : KeyGroup) (s : State) : State :=
  s.setKeys { s.keys with groups := s.keys.groups.set i g }

/-- The load count raised. -/
def countLoad (s : State) : State :=
  s.setKeys { s.keys with counts := { s.keys.counts with loads := satInc s.keys.counts.loads } }

/-- The withdrawal count raised. -/
def countWithdrawal (s : State) : State :=
  s.setKeys { s.keys with
    counts := { s.keys.counts with withdrawals := satInc s.keys.counts.withdrawals } }

/-- The refusal count raised. -/
def countRefusal (s : State) : State :=
  s.setKeys { s.keys with counts := { s.keys.counts with refusals := satInc s.keys.counts.refusals } }

/-- The repeat count raised. -/
def countRepeat (s : State) : State :=
  s.setKeys { s.keys with counts := { s.keys.counts with repeats := satInc s.keys.counts.repeats } }

/-- A message naming a group above 15 or no parity is refused whole; its report reads NONE for the
active parity (R22). -/
def refuseInvalid (group parity epoch : Nat) (s : State) : State :=
  keyReport group parity .refusedInvalid epoch none (countRefusal s)

/-- A delivery or withdrawal of the active parity is refused (R19). -/
def refuseActive (group : Nat) (p : Parity) (epoch : Nat) (s : State) : State :=
  keyReport group (parityCode p) .refusedActive epoch (keyGroup s.keys group).active (countRefusal s)

/-- A delivered key goes into an inactive slot (R17). -/
def loadSlot (group : Nat) (p : Parity) (k : LoadedKey) (s : State) : State :=
  keyReport group (parityCode p) .loaded k.epoch (keyGroup s.keys group).active
    (countLoad (setKeyGroup group (setKeySlot (keyGroup s.keys group) p (some k)) s))

/-- An inactive slot is emptied (R18). -/
def emptySlot (group : Nat) (p : Parity) (epoch : Nat) (s : State) : State :=
  keyReport group (parityCode p) .withdrawn epoch (keyGroup s.keys group).active
    (countWithdrawal (setKeyGroup group (setKeySlot (keyGroup s.keys group) p none) s))

/-- The slot holds a key of this epoch. -/
def holdsEpoch (slot : Option LoadedKey) (epoch : Nat) : Bool :=
  match slot with
  | some k => k.epoch == epoch
  | none => false

/-- A delivery reaches the table (R17, R19, R22). -/
def takeDelivery (group parity epoch upper lower : Nat) (s : State) : State :=
  match parityOf parity with
  | none => refuseInvalid group parity epoch s
  | some p =>
    if 15 < group then refuseInvalid group parity epoch s
    else
      let g := keyGroup s.keys group
      if holdsEpoch (keySlot g p) epoch then countRepeat s
      else if g.active = some p then refuseActive group p epoch s
      else loadSlot group p ⟨BitVec.ofNat 32 upper, BitVec.ofNat 32 lower, epoch⟩ s

/-- A withdrawal reaches the table (R18, R19, R22). -/
def takeWithdrawal (group parity epoch : Nat) (s : State) : State :=
  match parityOf parity with
  | none => refuseInvalid group parity epoch s
  | some p =>
    if 15 < group then refuseInvalid group parity epoch s
    else
      let g := keyGroup s.keys group
      if g.active = some p then refuseActive group p epoch s
      else if (keySlot g p).isSome then emptySlot group p epoch s
      else countRepeat s

/-- The slot a cell's header names (R20); none for a CLEAR cell. -/
def namedSlot (t : KeyTable) (c : Cell) : Option LoadedKey :=
  (modeParity c.mode).bind (keySlot (keyGroup t c.group))

/-- The active-parity check at a cell's arrival: a LOADED slot of the parity not active makes its
parity active and is reported SWITCHED (R20). -/
def checkActiveParity (c : Cell) (s : State) : State :=
  match modeParity c.mode, namedSlot s.keys c with
  | some p, some k =>
    let g := keyGroup s.keys c.group
    if g.active = some p then s
    else keyReport c.group (parityCode p) .switched k.epoch (some p)
      (setKeyGroup c.group { g with active := some p } s)
  | _, _ => s

/-- KEY_DELIVERY (R17, R19, R22, R153). -/
def execKeyDelivery (s : State) : Host.Outcome State Fault Refusal :=
  .next (serveMessage (fun
    | .keyDelivery group parity epoch upper lower => some (takeDelivery group parity epoch upper lower)
    | _ => none) s)

/-- KEY_WITHDRAWAL (R18, R19, R22, R153). -/
def execKeyWithdrawal (s : State) : Host.Outcome State Fault Refusal :=
  .next (serveMessage (fun
    | .keyWithdrawal group parity epoch => some (takeWithdrawal group parity epoch)
    | _ => none) s)

end Sys2Proof.Machine
end

