-- ==== Sys2Proof/Machine/Outputs.lean ====
section
/-! DEFINITION. The Output Stage (chapter 3): admission of items, continuity, filling and running,
the decoder-port arbiter, and DECODER_REQUEST, ITEM_DELIVERY_COMPLETE, TUNE, UNTUNE,
TUNING_AFTER_CELL and SET_OUTPUT. -/

namespace Sys2Proof.Machine

/-! ### One output -/

/-- A FILLING output whose queue holds at least its threshold becomes RUNNING (R44). -/
def fillTest (o : Output) : Output :=
  if o.state = .filling ∧ o.threshold ≤ o.queue.length then { o with state := .running } else o

/-- Items join at the tail, and the fill test is made (R44). -/
def appendItems (items : List Item) (o : Output) : Output :=
  if items.isEmpty then o else fillTest { o with queue := o.queue ++ items }

/-- An item with no room for it: a CELL counts an overflow, sets gap owed and sets the expected
continuity back to its own; a marker leaves the output as it is (R40, R41, R43). -/
def dropItem (item : Item) (continuity : Nat) (o : Output) : Output :=
  match item with
  | .marker _ => o
  | .cell .. =>
    { o with overflows := satInc o.overflows, gapOwed := true, expected := some continuity }

/-- The item is a marker of the same reason as the item before it. -/
def collapsesInto (before : Option Item) (item : Item) : Bool :=
  match item with
  | .marker r => before == some (.marker r)
  | .cell .. => false

/-- What of an owed GAP and the arriving item remains to be appended (R41, steps 1 to 3). -/
def owedPair (tail : Option Item) (item : Item) : List Item :=
  (if tail = some (.marker .gap) then [] else [.marker .gap]) ++
    (if collapsesInto (some (.marker .gap)) item then [] else [item])

/-- Admission of an item: R40 with gap owed clear, R41 with it set. `continuity` is the value of the
cell the item came from. -/
def admitItem (item : Item) (continuity : Nat) (o : Output) : Output :=
  if o.gapOwed then
    let items := owedPair o.queue.getLast? item
    if o.queue.length + items.length ≤ 8 then { appendItems items o with gapOwed := false }
    else dropItem item continuity o
  else if collapsesInto o.queue.getLast? item then o
  else if o.queue.length < 8 then appendItems [item] o
  else dropItem item continuity o

/-- The continuity check (R42). -/
def takeContinuity (value : Nat) (o : Output) : Output :=
  let checked := match o.expected with
    | some e => if e = value then o else admitItem (.marker .gap) value o
    | none => o
  { checked with expected := some ((value + 1) % 256) }

/-- The head item leaves the queue; a RUNNING output whose queue it empties enters FILLING and counts
an underrun (R45). -/
def takeHead (o : Output) : Output :=
  let o' := { o with queue := o.queue.tail }
  if o.state = .running ∧ o'.queue.isEmpty then
    { o' with state := .filling, underruns := satInc o.underruns }
  else o'

/-! ### The arbiter (section 3.6) -/

/-- The grant: the output's head item becomes the item in delivery (R46). -/
def grantTo (ix : OutputIx) (x : OutputStage) : OutputStage :=
  match (outputAt x ix).queue with
  | [] => x
  | item :: _ =>
    { setOutputAt x ix (takeHead (outputAt x ix)) with
      requestHeld := false, delivering := some (ix, item), port := portBytes ix item }

/-- The output a request is granted to: the eligible one, the one of higher priority when both are,
MAIN when the priorities are equal (R46). -/
def grantChoice (x : OutputStage) : Option OutputIx :=
  match eligible x.main, eligible x.inset with
  | true, true => if x.main.priority < x.inset.priority then some .inset else some .main
  | true, false => some .main
  | false, true => some .inset
  | false, false => none

/-- The arbiter takes a request: it is granted, or held when neither output is eligible (R46). -/
def takeRequest (x : OutputStage) : OutputStage :=
  match grantChoice x with
  | some ix => grantTo ix x
  | none => { x with requestHeld := true }

/-- An event at one output; a held request is granted at once to an output the event leaves eligible
(R47). -/
def atOutput (ix : OutputIx) (event : Output → Output) (x : OutputStage) : OutputStage :=
  let x' := setOutputAt x ix (event (outputAt x ix))
  if x'.requestHeld ∧ x'.delivering.isNone ∧ eligible (outputAt x' ix) then grantTo ix x' else x'

/-- Something done at MAIN and at INSET, in the order given. -/
def inOrder (insetFirst : Bool) (act : OutputIx → OutputStage → OutputStage) (x : OutputStage) :
    OutputStage :=
  if insetFirst then act .main (act .inset x) else act .inset (act .main x)

/-- One NO_SIGNAL marker to each tuned output (R3, R39). -/
def giveNoSignal (insetFirst : Bool) (x : OutputStage) : OutputStage :=
  inOrder insetFirst (fun ix x =>
    if (outputAt x ix).state = .idle then x
    else atOutput ix (admitItem (.marker .noSignal) 0) x) x

/-- An event at each output the cell named; an output that is IDLE by then takes nothing (R31, R33). -/
def atNamed (insetFirst : Bool) (j : Judging) (event : Output → Output) (x : OutputStage) :
    OutputStage :=
  inOrder insetFirst (fun ix x =>
    if judgedFor j ix ∧ (outputAt x ix).state ≠ .idle then atOutput ix event x else x) x

/-- Each output the cell named takes its continuity value at step 2, before any other step (R25, R42). -/
def giveContinuity (insetFirst : Bool) (j : Judging) (x : OutputStage) : OutputStage :=
  atNamed insetFirst j (takeContinuity j.cell.continuity) x

/-- Each output the cell named is given the verdict item (R31, R39). -/
def giveItem (insetFirst : Bool) (j : Judging) (item : Item) (x : OutputStage) : OutputStage :=
  atNamed insetFirst j (admitItem item j.cell.continuity) x

/-! ### Tuning (section 3.2) -/

/-- The output flushed, and tuned to the service or left IDLE (R35, R36). -/
def retune (service : Option Nat) (o : Output) : Output :=
  { o with queue := [], gapOwed := false, expected := none, service := service
           state := if service.isSome then .filling else .idle }

/-- The Output Stage carries out a TUNE (R35), and the Feed Tracker gives the NO_SIGNAL marker when
it is in NO_FEED (R13). For a TUNE that waited for a cell (R38), the tracker's state is read here, when
the request is carried out, and not when it was taken: DESIGN CHOICE (notes/assumptions/30.md). -/
def carryOutTune (f : Frame) (s : State) : State :=
  match outputIxOf (byteAt f.body 1) with
  | none => answer f .badRequest .codeOnly s
  | some ix =>
    if byteAt f.body 2 = 0 then answer f .badRequest .codeOnly s
    else
      let tuned := atOutput ix (retune (some (byteAt f.body 2))) s.outputs
      let signalled :=
        if s.feed.state = .noFeed then atOutput ix (admitItem (.marker .noSignal) 0) tuned else tuned
      answer f .ok .codeOnly (s.setOutputs signalled)

/-- The Output Stage carries out an UNTUNE (R36). -/
def carryOutUntune (f : Frame) (s : State) : State :=
  match outputIxOf (byteAt f.body 1) with
  | none => answer f .badRequest .codeOnly s
  | some ix =>
    if (outputAt s.outputs ix).state = .idle then answer f .already .codeOnly s
    else answer f .ok .codeOnly (s.setOutputs (atOutput ix (retune none) s.outputs))

/-- The request names an output that the cell in judging named (R38). -/
def waitsForCell (f : Frame) (s : State) : Bool :=
  match s.descrambler.judging, outputIxOf (byteAt f.body 1) with
  | some j, some ix => judgedFor j ix
  | _, _ => false

/-- A TUNE or UNTUNE that must wait keeps the slot in SERVING (R38, R166). -/
def unlessWaiting (act : Frame → State → State) (f : Frame) (s : State) : State :=
  if waitsForCell f s then s else act f s

/-- The request that waited is carried out once its cell's items have reached the output (R38). -/
def carryOutWaiting (s : State) : State :=
  match s.link.slot with
  | .serving f =>
    if waitsForCell f s then s
    else if f.kind.toNat = 0x02 then carryOutTune f s
    else if f.kind.toNat = 0x03 then carryOutUntune f s
    else s
  | _ => s

/-- SET_OUTPUT stores the clamped values and makes the fill test (R37). -/
def storeSettings (priority threshold : Nat) (o : Output) : Output :=
  fillTest { o with priority := min priority 3, threshold := clampTo 1 8 threshold }

/-- The Output Stage serves a SET_OUTPUT (R37). -/
def serveSetOutput (f : Frame) (s : State) : State :=
  match outputIxOf (byteAt f.body 1) with
  | none => answer f .badRequest .codeOnly s
  | some ix =>
    answer f .ok (.output (min (byteAt f.body 2) 3) (clampTo 1 8 (byteAt f.body 3)))
      (s.setOutputs (atOutput ix (storeSettings (byteAt f.body 2) (byteAt f.body 3)) s.outputs))

/-- The outputs' share of SOFT_RESET: power-on values, while a held request stays held and an item in
delivery completes (R50). -/
def softResetOutputs (x : OutputStage) : OutputStage :=
  { x with main := Output.reset 2, inset := Output.reset 1 }

/-! ### The commands -/

/-- DECODER_REQUEST (R46): a request made during a delivery is taken when it completes. -/
def execDecoderRequest (s : State) : Host.Outcome State Fault Refusal :=
  .next (s.setOutputs
    (if s.outputs.delivering.isSome then { s.outputs with requestHeld := true }
     else takeRequest s.outputs))

/-- The delivery completes, and a request that waited is taken (R46, R48). -/
def completeDelivery (x : OutputStage) : OutputStage :=
  let x' := { x with delivering := none, port := [] }
  if x.requestHeld then takeRequest x' else x'

/-- ITEM_DELIVERY_COMPLETE (R48); with no item in delivery nothing comes about. -/
def execItemDeliveryComplete (s : State) : Host.Outcome State Fault Refusal :=
  .next (if s.outputs.delivering.isSome then s.setOutputs (completeDelivery s.outputs) else s)

/-- TUNE (R35, R38). -/
def execTune (s : State) : Host.Outcome State Fault Refusal :=
  .next (serveRequest 0x02 (unlessWaiting carryOutTune) s)

/-- UNTUNE (R36, R38). -/
def execUntune (s : State) : Host.Outcome State Fault Refusal :=
  .next (serveRequest 0x03 (unlessWaiting carryOutUntune) s)

/-- TUNING_AFTER_CELL (R38). -/
def execTuningAfterCell (s : State) : Host.Outcome State Fault Refusal := .next (carryOutWaiting s)

/-- SET_OUTPUT (R37). -/
def execSetOutput (s : State) : Host.Outcome State Fault Refusal :=
  .next (serveRequest 0x04 serveSetOutput s)

end Sys2Proof.Machine
end

