-- ==== Sys2Proof/Machine/Descrambler.lean ====
section
/-! DEFINITION. The Cell Descrambler (sections 2.3 to 2.6): CELL_ARRIVAL and CELL_VERDICT, the
keystream and the check word. -/

namespace Sys2Proof.Machine

/-! ### The keystream (section 2.4) -/

/-- The multiplier of the keystream (R29, step 4). -/
def keyMultiplier : Word := 3740067437#32

/-- The mix of a cell (R29, step 1). -/
def keyMix (c : Cell) : Word := BitVec.ofNat 32 (c.service * 65536 + c.frameSeq * 256 + c.slot)

/-- `n` keystream words that follow a seed (R29, step 4). -/
def keystreamFrom (odd : Word) : Nat → Word → List Word
  | 0, _ => []
  | n + 1, s => (s * keyMultiplier + odd) :: keystreamFrom odd n (s * keyMultiplier + odd)

/-- The 32 keystream words of a cell under a key (R29). -/
def keystream (k : LoadedKey) (c : Cell) : List Word :=
  keystreamFrom (k.lower ||| 1#32) 32 (k.upper ^^^ keyMix c)

/-- The clear words of a cell: as received when CLEAR, else descrambled with the key given (R28,
R29); `none` when a key is needed and the slot was EMPTY. -/
def clearWords (c : Cell) (key : Option LoadedKey) : Option (List Word) :=
  match modeParity c.mode with
  | none => some (wordsOf c.payload)
  | some _ => key.map fun k => List.zipWith (· ^^^ ·) (wordsOf c.payload) (keystream k c)

/-- The XOR of words. -/
def xorWords (ws : List Word) : Word := ws.foldl (· ^^^ ·) 0

/-- Steps 5 to 7 of judging (R28, R30). -/
def descramble (c : Cell) (key : Option LoadedKey) : Item :=
  match clearWords c key with
  | none => .marker .keyMissing
  | some ws =>
    if xorWords ws = c.check then .cell c.service c.film (bytesOf ws) else .marker .checkFail

/-- The verdict presents the film intact (R32). -/
def isIntact : Item → Bool
  | .cell .. => true
  | .marker _ => false

/-- What steps 3 and 4 of judging leave: the verdict item, or a film cell the entry of a place found
presentable, whose verdict steps 5 to 7 are still to decide. -/
inductive Judgement where
  | decided (item : Item)
  | presentable (place : Nat)
  deriving DecidableEq, Repr

/-- Steps 3 and 4 of judging, with steps 5 to 7 for a cell of no film, and the Folio Unit's share of the
state (R26, R27). -/
def askBlocks (j : Judging) (s : State) : Judgement × State :=
  if effectiveCeiling s.gate < j.cell.rating then (.decided (.marker .locked), s)
  else if j.cell.film = 0 then (.decided (descramble j.cell j.key), s)
  else
    match askFilm j.cell.film j.cell.barred s with
    | (.notEntitled, s') => (.decided (.marker .notEntitled), s')
    | (.previewEnded, s') => (.decided (.marker .previewEnded), s')
    | (.presentable i, s') => (.presentable i, s')

/-- A TUNE or UNTUNE whose cell has been judged is still to be carried out: the next cell is judged
against the new tuning (R24, R38). -/
def tuningDue (s : State) : Bool :=
  match s.link.slot with
  | .serving _ => true
  | _ => false

/-- A cell reaches the Cell Descrambler: the Key Table gives the named slot and checks the active
parity (R20), and the outputs tuned to its service are decided; with neither, it is dropped (R24). -/
def arrive (c : Cell) (closesAhead : Nat) (s : State) : State :=
  let key := namedSlot s.keys c
  let toMain := tunedTo s.outputs.main c.service
  let toInset := tunedTo s.outputs.inset c.service
  let s' := checkActiveParity c s
  if toMain || toInset then
    s'.setDescrambler { s'.descrambler with judging := some ⟨c, closesAhead, key, toMain, toInset, false⟩ }
  else s'

/-- A cell handed on may reach the Cell Descrambler: none does in NO_FEED (R3), and none before a tuning
that is due (R24, R38). -/
def mayArrive (s : State) : Bool := s.feed.state != .noFeed && !tuningDue s

/-- CELL_ARRIVAL (R20, R24): cells arrive one at a time, in the order they were handed on (R10); with
none handed on, one in judging, the tracker in NO_FEED or a tuning due first, nothing comes about. A cell
handed on before a feed loss that has not arrived by then keeps its place and waits until the tracker has
left NO_FEED: DEDUCED (notes/assumptions/8.md). -/
def execCellArrival (s : State) : Host.Outcome State Fault Refusal :=
  .next (match s.descrambler.handedOn, s.descrambler.judging with
    | h :: rest, none =>
      if mayArrive s then arrive h.cell h.closesAhead (s.setDescrambler { handedOn := rest, judging := none })
      else s
    | _, _ => s)

/-- The outputs as judging leaves them, with the cell still in judging or none. -/
def leaveJudging (x : OutputStage) (judging : Option Judging) (s : State) : State :=
  (s.setOutputs x).setDescrambler { s.descrambler with judging := judging }

/-- Steps 5 to 7 of a presentable film cell, and its verdict: it is reported to the entry that answered,
and the item goes to the outputs in any case (R27 to R32, R75). -/
def finishVerdict (insetFirst : Bool) (j : Judging) (x : OutputStage) (report : Bool → State → State)
    (s : State) : State :=
  let item := descramble j.cell j.key
  leaveJudging (giveItem insetFirst j item x) none (report (isIntact item) s)

/-- Steps 2 to 4 of judging, and steps 5 to 7 after them: at once, or with the next CELL_VERDICT where
other events come between the answer and the verdict (R25 to R32, R75, notes/assumptions/7.md). -/
def judgeCell (order : VerdictOrder) (j : Judging) (s : State) : State :=
  let checked := giveContinuity order.gapInsetFirst j s.outputs
  match askBlocks j s with
  | (.decided item, s') => leaveJudging (giveItem order.insetFirst j item checked) none s'
  | (.presentable i, s') =>
    if order.pausesAfterAnswer then
      leaveJudging checked (some { j with answered := true }) (markReference i s')
    else finishVerdict order.insetFirst j checked (reportPresented i) s'

/-- CELL_VERDICT (R31). A film cell handed on after a boundary is judged after that second's close
(R12, R76); one that has its answer goes on from there (R27). -/
def execCellVerdict (order : VerdictOrder) (s : State) : Host.Outcome State Fault Refusal :=
  .next (match s.descrambler.judging with
    | some j =>
      if j.cell.film ≠ 0 ∧ j.closesAhead ≠ 0 then s
      else if j.answered then finishVerdict order.insetFirst j s.outputs reportAnswered s
      else judgeCell order j s
    | none => s)

end Sys2Proof.Machine
end

