-- ==== Sys2Proof/Machine/Desk.lean ====
section
/-! DEFINITION. The Desk Message Handler's own commands (chapter 9): MALFORMED_MESSAGE, DESK_NOTE,
DESK_NOTE_ENTERS_QUEUE and ROOM_QUERY. -/

namespace Sys2Proof.Machine

/-- A malformed message is discarded and counted, and its buffer freed (R150). -/
def discardMalformed (s : State) : State :=
  match nextMessage s with
  | some (ix, _, none) =>
    freeBuffer ix (s.setDesk { s.desk with malformed := satInc s.desk.malformed })
  | _ => s

/-- The report of a note (R156). -/
def noteReport (m : InboxMessage) : Option Report :=
  match parseDesk m with
  | some (.deskNote chars) => some (.deskNote chars m.broadcast)
  | _ => none

/-- A note is offered to the report queue: with a place free it enters and its buffer is freed; with
the queue full the handler holds the buffer, and nothing is counted (R156). -/
def offerNote (ix : BufferIx) (m : InboxMessage) (s : State) : State :=
  match noteReport m with
  | some r =>
    if s.link.reports.length < 16 then
      freeBuffer ix (report r (s.setDesk { s.desk with handling := none }))
    else s.setDesk { s.desk with handling := some ix }
  | none => s

/-- The handler takes a DESK_NOTE (R156). -/
def takeNote (s : State) : State :=
  match nextMessage s with
  | some (ix, m, some (.deskNote _)) => offerNote ix m s
  | _ => s

/-- The waiting note is offered again (R156). -/
def offerWaitingNote (s : State) : State :=
  match s.desk.handling with
  | some ix =>
    match filledMessage (bufferAt s.loop ix) with
    | some m => offerNote ix m s
    | none => s
  | none => s

/-- MALFORMED_MESSAGE (R150, R151). -/
def execMalformedMessage (s : State) : Host.Outcome State Fault Refusal := .next (discardMalformed s)

/-- DESK_NOTE (R156). -/
def execDeskNote (s : State) : Host.Outcome State Fault Refusal := .next (takeNote s)

/-- DESK_NOTE_ENTERS_QUEUE (R156). -/
def execDeskNoteEntersQueue (s : State) : Host.Outcome State Fault Refusal :=
  .next (offerWaitingNote s)

/-- ROOM_QUERY (R157). -/
def execRoomQuery (s : State) : Host.Outcome State Fault Refusal :=
  .next (serveMessage (fun
    | .roomQuery => some requestRoomReport
    | _ => none) s)

end Sys2Proof.Machine
end

