-- ==== Sys2Proof/Machine/Feed.lean ====
section
/-! DEFINITION. The Feed Tracker (chapter 1): FEED_BYTE, FRAME_MARK, SLOT_MARK,
FEED_LOSS_TIMER_EXPIRY and its share of SOFT_RESET. -/

namespace Sys2Proof.Machine

/-- 10 ms in µs: the length of the feed-loss timer (R3). -/
def feedLossMicros : Nat := 10000

/-- The header faults of R8. -/
def headerFault (c : Cell) : Bool :=
  c.headerXor != c.headerCheck || c.mode == .invalid || c.spare != 0 ||
    (c.service == 0 && c.film != 0)

/-- An accepted cell leaves the tracker (R10, R11): a guide cell becomes a GUIDE_DATA report when the
subscription is on; any other cell is handed on, behind the boundaries signalled so far. -/
def acceptCell (c : Cell) (s : State) : State :=
  if c.service = 0 then
    if s.link.guide then report (.guideData c.frameSeq c.continuity c.payload c.check) s else s
  else
    s.setDescrambler { s.descrambler with
      handedOn := s.descrambler.handedOn ++ [⟨c, s.folio.closesDue⟩] }

/-- The tracker judges a complete cell (R8, R9). -/
def judgeComplete (c : Cell) (s : State) : State :=
  let t := s.feed
  if headerFault c then
    s.setFeed { t with counts := { t.counts with headerFaults := satInc t.counts.headerFaults } }
  else if c.slot ≠ t.slot then
    let counts := { t.counts with slotMismatches := satInc t.counts.slotMismatches }
    if t.mismatchRun + 1 ≥ 3 then
      feedReport .slotMismatch (s.setFeed { t with
        state := .searching, mismatchRun := 0, cell := none, counts := counts })
    else s.setFeed { t with mismatchRun := t.mismatchRun + 1, counts := counts }
  else acceptCell c (s.setFeed { t with mismatchRun := 0 })

/-- A byte (R4, R5, R7). -/
def trackByte (b : Byte) (s : State) : State :=
  match s.feed.state, s.feed.cell with
  | .locked, some bs =>
    if 140 ≤ bs.length then s
    else
      let bs' := bs ++ [b]
      let s' := s.setFeed { s.feed with cell := some bs' }
      if bs'.length = 140 then judgeComplete (parseCell bs') s' else s'
  | _, _ => s

/-- The bytes of the open slot make a runt: 1 to 139 of them (R7). -/
def isRunt (cell : Option (List Byte)) : Bool :=
  match cell with
  | some bs => 1 ≤ bs.length && bs.length ≤ 139
  | none => false

/-- The counts once a mark has ended the slot in progress (R6, R7). -/
def countsAtMark (t : FeedTracker) : FeedCounts :=
  if isRunt t.cell then { t.counts with runts := satInc t.counts.runts } else t.counts

/-- The mark that ends NO_FEED (R4). -/
def markEndsNoFeed (s : State) : State :=
  feedReport .markSeen (s.setFeed { s.feed with
    state := .searching, lossTimer := some feedLossMicros, cell := none })

/-- The frame count advances; a count that would reach 500 returns to 0 and signals a feed-second
boundary to the Folio Unit (R12). -/
def advanceFrameCount (s : State) : State :=
  if s.feed.frameCount + 1 ≥ 500 then
    (s.setFeed { s.feed with frameCount := 0 }).setFolio
      { s.folio with closesDue := s.folio.closesDue + 1 }
  else s.setFeed { s.feed with frameCount := s.feed.frameCount + 1 }

/-- A frame mark (R4, R5, R6). -/
def trackFrameMark (s : State) : State :=
  match s.feed.state with
  | .noFeed => markEndsNoFeed s
  | .searching =>
    feedReport .frameAligned (s.setFeed { s.feed with
      state := .locked, lossTimer := some feedLossMicros, slot := 0, cell := some [] })
  | .locked =>
    advanceFrameCount (s.setFeed { s.feed with
      counts := countsAtMark s.feed, slot := 0, cell := some []
      lossTimer := some feedLossMicros })

/-- A slot mark (R4, R5, R6). -/
def trackSlotMark (s : State) : State :=
  match s.feed.state with
  | .noFeed => markEndsNoFeed s
  | .searching => s.setFeed { s.feed with lossTimer := some feedLossMicros }
  | .locked =>
    let counts := countsAtMark s.feed
    if s.feed.slot < 47 then
      s.setFeed { s.feed with
        counts := counts, slot := s.feed.slot + 1, cell := some []
        lossTimer := some feedLossMicros }
    else
      feedReport .frameOverrun (s.setFeed { s.feed with
        counts := { counts with frameOverruns := satInc counts.frameOverruns }
        state := .searching, mismatchRun := 0, cell := none
        lossTimer := some feedLossMicros })

/-- The feed-loss timer runs out (R3); stopped, it cannot. -/
def loseFeed (insetFirst : Bool) (s : State) : State :=
  match s.feed.lossTimer with
  | none => s
  | some _ =>
    let s1 := s.setFeed { s.feed with
      state := .noFeed, lossTimer := none, cell := none, mismatchRun := 0
      counts := { s.feed.counts with feedLosses := satInc s.feed.counts.feedLosses } }
    feedReport .feedLost (s1.setOutputs (giveNoSignal insetFirst s1.outputs))

/-- The tracker's share of SOFT_RESET (R15). -/
def softResetFeed (t : FeedTracker) : FeedTracker :=
  { t with state := .searching, cell := none, frameCount := 0, mismatchRun := 0
           lossTimer := some feedLossMicros }

/-- FEED_BYTE (R7). -/
def execFeedByte (b : Byte) (s : State) : Host.Outcome State Fault Refusal := .next (trackByte b s)

/-- FRAME_MARK (R6): a slot opening that asserts both mark lines is a frame mark (R1). -/
def execFrameMark (_fslt : Bool) (s : State) : Host.Outcome State Fault Refusal :=
  .next (trackFrameMark s)

/-- SLOT_MARK (R6). -/
def execSlotMark (s : State) : Host.Outcome State Fault Refusal := .next (trackSlotMark s)

/-- FEED_LOSS_TIMER_EXPIRY (R3). -/
def execFeedLossTimerExpiry (insetFirst : Bool) (s : State) : Host.Outcome State Fault Refusal :=
  .next (loseFeed insetFirst s)

end Sys2Proof.Machine
end

