-- ==== Sys2Proof/Machine/Link.lean ====
section
/-! DEFINITION. The Set Link Port (chapter 10): receiving, the frame assembler, the inter-byte timer,
UNKNOWN_KIND, STATUS, GUIDE and SOFT_RESET, and the transmitter. -/

namespace Sys2Proof.Machine

/-! ### Receiving (R160, R162) -/

/-- A received byte with its marks; it carries the overrun mark when bytes were lost before it. -/
def receivedByte (b : Byte) (parityBit stopBit lossPending : Bool) : FifoByte :=
  { value := b, parity := parityMark b parityBit, framing := !stopBit, overrun := lossPending }

/-- A byte's entry into the FIFO, and what it does to CTS and to the inter-byte timer (R162, R165). -/
def enterByte (b : FifoByte) (l : SetLink) : SetLink :=
  { l with
    fifo := l.fifo ++ [b], lossPending := false
    cts := if 48 ≤ l.fifo.length + 1 then false else l.cts
    interByteTimer := match l.assembler with
      | .assembling .. => some interByteBits
      | _ => l.interByteTimer }

/-- A character on SRX: it joins the FIFO, or is lost when the FIFO holds 64 bytes (R162). -/
def receiveByte (b : Byte) (parityBit stopBit : Bool) (l : SetLink) : SetLink :=
  if 64 ≤ l.fifo.length then { l with lossPending := true }
  else enterByte (receivedByte b parityBit stopBit l.lossPending) l

/-! ### The frame assembler (R163 to R165) -/

/-- The count of one cause, raised. -/
def countLinkFault (cause : LinkCause) (c : LinkCounts) : LinkCounts :=
  match cause with
  | .overrun => { c with overrun := satInc c.overrun }
  | .framing => { c with framing := satInc c.framing }
  | .parity => { c with parity := satInc c.parity }
  | .length => { c with length := satInc c.length }
  | .check => { c with check := satInc c.check }
  | .timeout => { c with timeout := satInc c.timeout }

/-- A bad frame, a timeout or an overrun met in HUNTING is counted and reported, with the kind and the
tag as far as they were received; the assembler is HUNTING and the timer stopped (R163 to R165). -/
def discardFrame (cause : LinkCause) (bytes : List Byte) (s : State) : State :=
  let counts := countLinkFault cause s.link.counts
  report (.linkFault cause bytes[2]? bytes[3]? counts) (s.setLink { s.link with
    assembler := .hunting, interByteTimer := none, counts := counts })

/-- A byte taken in HUNTING (R163). -/
def huntByte (b : FifoByte) (s : State) : State :=
  if b.overrun then discardFrame .overrun [] s
  else if b.value = 0xA5#8 ∧ b.parity = false ∧ b.framing = false then
    s.setLink { s.link with
      assembler := .assembling [b.value] none, interByteTimer := some interByteBits }
  else s

/-- The length byte (R163). -/
def takeLengthByte (b : FifoByte) (bytes : List Byte) (s : State) : State :=
  match markCause b with
  | some cause => discardFrame cause bytes s
  | none =>
    if 253 < b.value.toNat then discardFrame .length bytes s
    else s.setLink { s.link with assembler := .assembling (bytes ++ [b.value]) none }

/-- The check byte of a frame without a fault matches (section 10.3). -/
def checkMatches (bytes : List Byte) : Bool :=
  bytes.getLast? == some (frameCheck bytes.tail.dropLast)

/-- The frame that its bytes spell, the start byte first. -/
def frameOf (bytes : List Byte) : Frame :=
  { kind := bytes.getD 2 0, tag := bytes.getD 3 0, body := (bytes.drop 4).dropLast }

/-- A frame's check byte has come: it is a bad frame, or a good one to hold (R163). -/
def endFrame (bytes : List Byte) (fault : Option LinkCause) (s : State) : State :=
  match fault with
  | some cause => discardFrame cause bytes s
  | none =>
    if checkMatches bytes then
      s.setLink { s.link with assembler := .holding (frameOf bytes), interByteTimer := none }
    else discardFrame .check bytes s

/-- A byte after the length byte: the first marked one sets the fault cause; the frame ends at the
byte its length byte calls for (R163). -/
def takeLaterByte (b : FifoByte) (bytes : List Byte) (fault : Option LinkCause) (s : State) : State :=
  let bytes' := bytes ++ [b.value]
  let fault' := fault.or (markCause b)
  if byteAt bytes 2 + 5 ≤ bytes'.length then endFrame bytes' fault' s
  else s.setLink { s.link with assembler := .assembling bytes' fault' }

/-- A byte leaves the FIFO's head; CTS is asserted when that brings it to 16 bytes or fewer (R162). -/
def removeByte (rest : List FifoByte) (l : SetLink) : SetLink :=
  { l with fifo := rest, cts := if rest.length ≤ 16 then true else l.cts }

/-- The assembler takes a byte in HUNTING or ASSEMBLING, when the FIFO holds one (R162, R163). -/
def assembleByte (s : State) : State :=
  match s.link.assembler, s.link.fifo with
  | .hunting, b :: rest => huntByte b (s.setLink (removeByte rest s.link))
  | .assembling bytes fault, b :: rest =>
    let s' := s.setLink (removeByte rest s.link)
    if bytes.length ≤ 1 then takeLengthByte b bytes s' else takeLaterByte b bytes fault s'
  | _, _ => s

/-- The inter-byte timer runs out: it runs in ASSEMBLING while the FIFO is empty (R165). -/
def interByteExpires (s : State) : State :=
  match s.link.assembler, s.link.fifo, s.link.interByteTimer with
  | .assembling bytes _, [], some _ => discardFrame .timeout bytes s
  | _, _, _ => s

/-! ### The port's own requests -/

/-- A held frame of a kind other than 0x01 to 0x12 is answered UNKNOWN_KIND (R166). -/
def answerUnknown (s : State) : State :=
  match (heldFrame s).filter (fun f => f.kind.toNat == 0 || 0x12 < f.kind.toNat) with
  | some f => answer f .unknownKind .codeOnly (takeFrame f s)
  | none => s

/-- STATUS: the values as they stand (R171). -/
def serveStatus (f : Frame) (s : State) : State := answer f .ok (.status (statusValues s)) s

/-- A report is a GUIDE_DATA. -/
def isGuideData : Report → Bool
  | .guideData .. => true
  | _ => false

/-- GUIDE: turning the subscription off removes the unsent GUIDE_DATA reports (R170). -/
def serveGuide (f : Frame) (s : State) : State :=
  match byteAt f.body 1 with
  | 0 => answer f .ok (.guide false) (s.setLink { s.link with
      guide := false
      reports := if s.link.guide then s.link.reports.filter (fun r => !isGuideData r)
        else s.link.reports })
  | 1 => answer f .ok (.guide true) (s.setLink { s.link with guide := true })
  | _ => answer f .badRequest .codeOnly s

/-! ### Soft reset (R172) -/

/-- The Folio Unit's share: the per-second flags are cleared, and a boundary signalled and not yet closed
counts no flag set from here on (R69). That its close is still to come is DEDUCED
(notes/assumptions/15.md). -/
def softResetFolio (f : Folio) : Folio :=
  { f with
    entries := f.entries.map (Option.map fun e => { e with seenClear := false, seenFail := false })
    closesBeforeReset := f.closesDue }

/-- The port's own share (R172). -/
def softResetLink (l : SetLink) : SetLink :=
  { l with fifo := [], assembler := .hunting, interByteTimer := none, cts := true, reports := []
           guide := false }

/-- SOFT_RESET: each block under its own rule, then the reply (R172). -/
def serveSoftReset (f : Frame) (s : State) : State :=
  let s1 := s.setFeed (softResetFeed s.feed)
  let s2 := s1.setOutputs (softResetOutputs s1.outputs)
  let s3 := s2.setFolio (softResetFolio s2.folio)
  answer f .ok .codeOnly (s3.setLink (softResetLink s3.link))

/-! ### The transmitter (R167, R169) -/

/-- The transmitter, idle with SRDY true, chooses its next frame and begins its first byte (R167). -/
def chooseFrame (l : SetLink) : SetLink :=
  match l.slot with
  | .ready r => { l with slot := .sending, transmitter := .reply r, begun := 1 }
  | _ =>
    match chosenReport l.reports with
    | some i =>
      match l.reports[i]? with
      | some r =>
        { l with reports := l.reports.eraseIdx i, transmitter := .report l.reportSeq r, begun := 1
                 reportSeq := (l.reportSeq + 1) % 256 }
      | none => l
    | none => l

/-- SRDY is examined: while it is false no byte begins. When it is true an idle transmitter chooses its
next frame, and a sending one begins the next byte of its frame, until all have begun (R167,
notes/assumptions/27.md). -/
def sampleAndChoose (srdy : Bool) (l : SetLink) : SetLink :=
  let l' := { l with srdy := srdy }
  if srdy then
    if l.transmitter = .idle then chooseFrame l'
    else { l' with begun := min (l.begun + 1) (stxCharacters l.transmitter).length }
  else l'

/-- The frame on STX has been sent to its end; a reply's end empties the slot (R167). -/
def endOfFrame (l : SetLink) : SetLink :=
  match l.transmitter with
  | .idle => l
  | .reply _ => { l with transmitter := .idle, begun := 0, slot := .empty }
  | .report .. => { l with transmitter := .idle, begun := 0 }

/-- The last byte of the frame on STX has been sent; a frame of which a byte has still to begin stays on
the line (R167). -/
def frameSent (l : SetLink) : SetLink :=
  if l.begun = (stxCharacters l.transmitter).length then endOfFrame l else l

/-! ### The commands -/

/-- SET_LINK_BYTE_RECEIVED (R160, R162). -/
def execSetLinkByteReceived (b : Byte) (parityBit stopBit : Bool) (s : State) :
    Host.Outcome State Fault Refusal :=
  .next (s.setLink (receiveByte b parityBit stopBit s.link))

/-- ASSEMBLER_BYTE (R163, R164). -/
def execAssemblerByte (s : State) : Host.Outcome State Fault Refusal := .next (assembleByte s)

/-- INTER_BYTE_TIMEOUT (R165). -/
def execInterByteTimeout (s : State) : Host.Outcome State Fault Refusal := .next (interByteExpires s)

/-- UNKNOWN_KIND (R166). -/
def execUnknownKind (s : State) : Host.Outcome State Fault Refusal := .next (answerUnknown s)

/-- STATUS (R171). -/
def execStatus (s : State) : Host.Outcome State Fault Refusal :=
  .next (serveRequest 0x01 serveStatus s)

/-- GUIDE (R170). -/
def execGuide (s : State) : Host.Outcome State Fault Refusal :=
  .next (serveRequest 0x10 serveGuide s)

/-- SOFT_RESET (R172). -/
def execSoftReset (s : State) : Host.Outcome State Fault Refusal :=
  .next (serveRequest 0x12 serveSoftReset s)

/-- TRANSMIT_CHOICE (R167, R169). -/
def execTransmitChoice (srdy : Bool) (s : State) : Host.Outcome State Fault Refusal :=
  .next (s.setLink (sampleAndChoose srdy s.link))

/-- FRAME_SENT (R167). -/
def execFrameSent (s : State) : Host.Outcome State Fault Refusal :=
  .next (s.setLink (frameSent s.link))

end Sys2Proof.Machine
end

