-- ==== Sys2Proof/Machine/Stay.lean ====
section
/-! DEFINITION. The Stay Controller (chapter 7): CHECK_IN, CHECK_OUT, VACATE_NOW, START_TIMEOUT, the
closing sequence, and the House Clock with TIME and MINUTE_ADVANCE. -/

namespace Sys2Proof.Machine

/-! ### Beginning and changing a stay (section 7.3) -/

/-- The Stay Controller's own share of a beginning: steps 1 and 2 of R110 with the clamps of R70. -/
def openStay (p : StayParams) (s : State) : State :=
  s.setStay { s.stay with
    room := .occupied, stay := p.stay, previewAllowance := min p.previewAllowance 600
    grace := min p.grace 900, startTimer := none }

/-- The Folio Unit's share of a beginning (R94). -/
def folioBegin (p : StayParams) (s : State) : State :=
  s.setFolio { s.folio with
    cap := min p.cap maxTotal, quality := clampTo 1 100 p.quality
    total := 0, reserved := 0, nextSerial := 1 }

/-- A check-in begins a stay (R110). -/
def beginStay (p : StayParams) (s : State) : State :=
  emitSnapshot (stayReport .checkIn false (folioBegin p (gateBegin p (openStay p s))))

/-- The update's K is below T + R and is stored as T + R (R96). -/
def capClamped (p : StayParams) (f : Folio) : Bool := min p.cap maxTotal < f.total + f.reserved

/-- The Folio Unit's share of an update (R94, R96): the cap law, and the pending reply when it
clamps. -/
def folioUpdate (p : StayParams) (s : State) : State :=
  let s' := s.setFolio { s.folio with
    cap := max (min p.cap maxTotal) (s.folio.total + s.folio.reserved)
    quality := clampTo 1 100 p.quality }
  if capClamped p s.folio then requestRoomReport s' else s'

/-- A check-in with the number of the stay in progress is an update (R111). -/
def updateStay (p : StayParams) (s : State) : State :=
  let s1 := s.setStay { s.stay with
    previewAllowance := min p.previewAllowance 600, grace := min p.grace 900 }
  let s2 := folioUpdate p (gateUpdate p s1)
  emitSnapshot (stayReport .update (capClamped p s.folio) s2)

/-! ### Ending a stay (section 7.4) -/

/-- The conditions of the closure test (R114). -/
def closureDue (s : State) : Bool :=
  s.stay.room == .closing && !s.stay.closureQueued && !anySettling s.folio.entries &&
    s.folio.queue.length < 10

/-- The closure test: when it passes, the STAY_CLOSED record is queued (R114). -/
def closureTest (s : State) : State :=
  if closureDue s then
    let s1 := appendRecord .stayClosed 0 s.folio.total s
    emitSnapshot (stayReport .closureQueued false
      (s1.setStay { s1.stay with closureQueued := true }))
  else s

/-- Steps 1 to 4 of a check-out (R112), which R113 and R177 carry out as well. -/
def closeStay (s : State) : State :=
  closureTest (leaveTable (gateVacant (s.setStay { s.stay with room := .closing })))

/-- A check-out from OCCUPIED (R112). -/
def checkOutOccupied (s : State) : State :=
  emitSnapshot (stayReport .checkOut false (closeStay s))

/-- A check-in of another stay in OCCUPIED: the stay closes and the new one is held pending (R113). -/
def changeOver (p : StayParams) (s : State) : State :=
  let s1 := closeStay s
  emitSnapshot (stayReport .checkOut false (s1.setStay { s1.stay with pendingCheckIn := some p }))

/-- The closing sequence ends; a pending check-in begins its stay at once (R115). -/
def endClosing (s : State) : State :=
  let s1 := emitSnapshot (stayReport .closed false (s.setStay { s.stay with
    room := .vacant, stay := 0, closureQueued := false }))
  match s1.stay.pendingCheckIn with
  | some p => beginStay p (s1.setStay { s1.stay with pendingCheckIn := none })
  | none => s1

/-- The desk's acknowledgement of a posting record (R105). It counts only when the head record has
the serial and the stay in progress or closing has the stay number. -/
def acknowledgeRecord (serial stay : Nat) (s : State) : State :=
  match s.folio.queue with
  | r :: rest =>
    if r.serial = serial ∧ s.stay.stay = stay then
      let s1 := settleWaiting (emitSnapshot (s.setFolio { s.folio with queue := rest }))
      if r.kind = .stayClosed then endClosing s1 else closureTest s1
    else s
  | [] => s

/-- A check-out in STARTING (R117). -/
def checkOutStarting (s : State) : State :=
  emitSnapshot (stayReport .checkOut false (gateVacant
    (s.setStay { s.stay with room := .vacant, startTimer := none })))

/-! ### The Stay Controller's response to GUEST_STATUS (section 7.6) -/

/-- A CHECK_IN (R109 to R111, R113, R116). -/
def takeCheckIn (p : StayParams) (s : State) : State :=
  if p.stay = 0 then stayReport .checkInRefused false s
  else
    match s.stay.room with
    | .starting => beginStay p s
    | .vacant => beginStay p s
    | .occupied => if p.stay = s.stay.stay then updateStay p s else changeOver p s
    | .closing =>
      if p.stay = s.stay.stay then stayReport .checkInRefused false s
      else stayReport .checkInHeld false (s.setStay { s.stay with pendingCheckIn := some p })

/-- A CHECK_OUT (R112, R116, R117). -/
def takeCheckOut (s : State) : State :=
  match s.stay.room with
  | .starting => checkOutStarting s
  | .vacant => stayReport .checkOutIgnored false s
  | .occupied => checkOutOccupied s
  | .closing => s

/-- A vacate-now, in any room state (R118). -/
def takeVacate (s : State) : State :=
  let s1 := s.setStay { s.stay with
    room := .vacant, stay := 0, pendingCheckIn := none, closureQueued := false, startTimer := none }
  let s2 := gateVacant (s1.setFolio (vacateFolio s1.folio))
  emitSnapshot (stayReport .vacated false s2)

/-- The start-up timer runs out in STARTING (R119). -/
def startTimeout (s : State) : State :=
  if s.stay.room = .starting ∧ s.stay.startTimer.isSome then
    stayReport .startTimeout false (s.setStay { s.stay with room := .vacant, startTimer := none })
  else s

/-- CHECK_IN (R109 to R111, R113, R116, R152). -/
def execCheckIn (s : State) : Host.Outcome State Fault Refusal :=
  .next (serveMessage (fun
    | .guestStatus true false p => some (takeCheckIn p)
    | _ => none) s)

/-- CHECK_OUT (R112, R116, R117, R152). -/
def execCheckOut (s : State) : Host.Outcome State Fault Refusal :=
  .next (serveMessage (fun
    | .guestStatus false false _ => some takeCheckOut
    | _ => none) s)

/-- VACATE_NOW (R118, R152). -/
def execVacateNow (s : State) : Host.Outcome State Fault Refusal :=
  .next (serveMessage (fun
    | .guestStatus _ true _ => some takeVacate
    | _ => none) s)

/-- START_TIMEOUT (R119). -/
def execStartTimeout (s : State) : Host.Outcome State Fault Refusal := .next (startTimeout s)

/-! ### The House Clock (section 7.8) -/

/-- 60 s in µs. -/
def minuteMicros : Nat := 60000000

/-- A change of the house minute is signalled to the Rating Gate and to the Folio Unit, in the order
given (R124). -/
def signalMinute (folioFirst : Bool) (s : State) : State :=
  let m := s.clock.minute
  if folioFirst then gateMinute m (folioMinute m s) else folioMinute m (gateMinute m s)

/-- A TIME message reaches the clock (R122). -/
def takeTime (folioFirst : Bool) (minute : Nat) (s : State) : State :=
  signalMinute folioFirst (s.setClock
    { set := true, minute := min minute lastMinute, elapsed := some minuteMicros })

/-- The elapsed time reaches 60 s (R123). -/
def advanceMinute (folioFirst : Bool) (s : State) : State :=
  if s.clock.set then
    if s.clock.minute < lastMinute then
      signalMinute folioFirst (s.setClock
        { s.clock with minute := s.clock.minute + 1, elapsed := some minuteMicros })
    else s.setClock { s.clock with elapsed := some minuteMicros }
  else s

/-- TIME (R122, R124, R155). -/
def execTime (folioFirst : Bool) (s : State) : Host.Outcome State Fault Refusal :=
  .next (serveMessage (fun
    | .time minute => some (takeTime folioFirst minute)
    | _ => none) s)

/-- MINUTE_ADVANCE (R123, R124). -/
def execMinuteAdvance (folioFirst : Bool) (s : State) : Host.Outcome State Fault Refusal :=
  .next (advanceMinute folioFirst s)

end Sys2Proof.Machine
end

