-- ==== Sys2Proof/Machine/Loop.lean ====
section
/-! DEFINITION. The Loop Station (chapter 8): its requests, its turn with the token, the successor
search, the rebuild, the inbox, and the events of the line. A packet of another station comes about
in two steps: LOOP_ACTIVITY at its start, with its characters, and then, for a packet the station acts
on, the command that names its end (notes/assumptions/9.md). -/

namespace Sys2Proof.Machine

/-! ### Timers and sending (sections 8.1 and 8.2) -/

/-- 30 ms in µs: the idle timer (R127). -/
def idleMicros : Nat := 30000

/-- The station is in its own turn: in one of the turn phases, or with the passing step still to be
taken. -/
def inTurn (l : LoopStation) : Bool := l.phase != .none || l.passDeferred

/-- The idle timer restarts, in MEMBER and ALONE while the station is not in its own turn (R127). -/
def restartIdle (l : LoopStation) : LoopStation :=
  if (l.state = .member ∨ l.state = .alone) ∧ inTurn l = false then
    { l with idleTimer := some idleMicros }
  else l

/-- A packet is put behind those the station is sending, and the station drives the line (R127,
notes/assumptions/25.md). -/
def send (p : LoopPacket) (expects : Option Window) (s : State) : State :=
  s.setLoop { s.loop with sending := s.loop.sending ++ [⟨p, expects⟩], lde := true }

/-- The turn ends: the phase becomes none and the idle timer restarts (R138, R139). -/
def endTurn (s : State) : State :=
  s.setLoop { s.loop with
    phase := .none, exchange := none, refreshTurn := false, rebuildTurn := false
    passDeferred := false, candidate := none, idleTimer := some idleMicros }

/-! ### The successor search (R139) -/

/-- The candidate is probed. -/
def probe (candidate : Nat) (s : State) : State :=
  let s' := s.setLoop { s.loop with phase := .probing, candidate := some candidate }
  send (.token candidate) (some .probing) s'

/-- Every candidate has been probed without an answer: ALONE, with a report when a successor was
known. -/
def searchFails (s : State) : State :=
  let s' := endTurn (s.setLoop { s.loop with state := .alone, successor := none })
  if s.loop.successor.isSome then loopReport .successor s' else s'

/-- The candidate has taken the token; it is reported when it differs from the successor held. -/
def searchFinds (candidate : Nat) (s : State) : State :=
  let s' := endTurn (s.setLoop { s.loop with successor := some candidate })
  if s.loop.successor = some candidate then s' else loopReport .successor s'

/-- The search goes on at an address, and stops before the station's own. -/
def searchFrom (address : Nat) (s : State) : State :=
  if address = s.loop.address then searchFails s else probe address s

/-! ### The passing step (R138) -/

/-- The token is passed, or a successor searched for. -/
def passToken (s : State) : State :=
  let s' := s.setLoop { s.loop with passDeferred := false, exchange := none }
  if s.loop.refreshTurn || s.loop.rebuildTurn then searchFrom (addressAfter s.loop.address) s'
  else
    match s.loop.successor with
    | none => searchFrom (addressAfter s.loop.address) s'
    | some d => send (.token d) (some .passing) (s'.setLoop { s'.loop with phase := .passing })

/-- The passing step is due: it is taken once no reservation made in the turn is open. -/
def passingStep (s : State) : State :=
  if (reservedBufferIx s.loop).isSome then s.setLoop { s.loop with passDeferred := true }
  else passToken s

/-- A passing step that waited is taken once the reservation has been filled or released. -/
def resumePass (s : State) : State := if s.loop.passDeferred then passingStep s else s

/-! ### The turn (R133, R134) -/

/-- The data step: the matter of the turn's one DATA is chosen and an ENQUIRY sent, or the token is
passed (R134). -/
def dataStep (s : State) : State :=
  let enquire (x : Exchange) : State :=
    send (.enquiry 255 s.loop.address) (some .enquiring)
      (s.setLoop { s.loop with phase := .enquiring, exchange := some x })
  if s.loop.pendingReply then enquire (.roomReport false)
  else
    match s.folio.queue with
    | r :: _ => enquire (.record r s.stay.stay)
    | [] => passingStep s

/-- The turn count, raised: at 64 it returns to 0 and the turn is marked for refresh (R133). -/
def countTurn (l : LoopStation) : LoopStation :=
  if l.turnCount + 1 ≥ 64 then { l with turnCount := 0, refreshTurn := true }
  else { l with turnCount := l.turnCount + 1 }

/-- A turn begins with a TOKEN taken from another station (R133). -/
def beginTurn (s : State) : State :=
  dataStep (s.setLoop (countTurn { s.loop with
    state := .member, ownRebuild := false, idleTimer := none, rebuildWait := none }))

/-- The station remakes the token and begins a turn as its holder (R142). -/
def remakeToken (s : State) : State :=
  let s1 := s.setLoop { s.loop with state := .member, rebuildWait := none, idleTimer := none }
  let s2 :=
    if s.loop.ownRebuild then s1
    else loopReport .rebuilt (s1.setLoop { s1.loop with
      ownRebuild := true, rebuildCount := satInc s1.loop.rebuildCount })
  dataStep (s2.setLoop { countTurn s2.loop with rebuildTurn := true })

/-- The exchange ends without a DATA_ACK: a retry is counted and the passing step is due (R135,
R136). -/
def failExchange (s : State) : State :=
  s.setLoop { s.loop with
    retryCount := satInc s.loop.retryCount, exchange := none, passDeferred := true }

/-- The exchange that the packet was the first to answer in a window: absent once the turn has left the
phase of the window's name. -/
def answered (w : Window) (phase : TurnPhase) (h : HeardPacket) (l : LoopStation) : Option Exchange :=
  if h.windows.contains w ∧ l.phase = phase then l.exchange else none

/-- The packet decides the turn's exchange. -/
def answersExchange (h : HeardPacket) (l : LoopStation) : Bool :=
  (answered .enquiring .enquiring h l).isSome || (answered .posting .posting h l).isSome

/-- The first packet of an exchange's window was not the one wanted (R135, R136). -/
def failIfAnswering (h : HeardPacket) (s : State) : State :=
  if answersExchange h s.loop then failExchange s else s

/-! ### The inbox (section 8.7) -/

/-- A packet being sent expects an answer in this window no longer. -/
def dropExpected (w : Window) (p : SentPacket) : SentPacket :=
  { p with expects := p.expects.filter (· != w) }

/-- A RESERVED buffer is released to FREE, and nothing waits for its DATA any longer (R143). -/
def releaseReservation (l : LoopStation) : LoopStation :=
  match reservedBufferIx l with
  | some ix =>
    { setBuffer l ix .free with
      windows := l.windows.filter (· != .reservation)
      sending := l.sending.map (dropExpected .reservation)
      heard := l.heard.map fun h => { h with windows := h.windows.filter (· != .reservation) } }
  | none => l

/-- A buffer is filled; the other one, if FILLED, was filled before it (R149). -/
def fillBuffer (ix : BufferIx) (m : InboxMessage) (l : LoopStation) : LoopStation :=
  { setBuffer l ix (.filled m) with older := otherBuffer ix }

/-- A DATA that finds no buffer is dropped and counted (R144, R145). -/
def dropData (l : LoopStation) : LoopStation := { l with inboxDrops := satInc l.inboxDrops }

/-- An ENQUIRY from the desk station: an earlier reservation is released, and a FREE buffer is
reserved and answered ACCEPT, or the answer is DECLINE (R143). -/
def answerEnquiry (s : State) : State :=
  let l := releaseReservation s.loop
  match freeBufferIx l with
  | some ix => send (.accept 255) (some .reservation) (s.setLoop (setBuffer l ix .reserved))
  | none => send (.decline 255) none (s.setLoop l)

/-! ### The start of a packet (R127) -/

/-- The packet has an end the station acts on: it is faulty, or valid and addressed to the station,
or a DATA with destination 0 (R126). -/
def hasEnd (address : Nat) : Option LoopPacket → Bool
  | none => true
  | some p => actedOn address p

/-- The packet is the DATA a reservation waits for (R143, R144). -/
def fillsReservation (address : Nat) : Option LoopPacket → Bool
  | some (.data d src _) => d == address && src == 255
  | _ => false

/-- The activity's own effect on the loop state and the idle timer (R127, R141). -/
def noteActivity (s : State) : State :=
  if s.loop.state = .rebuilding then
    s.setLoop (restartIdle { s.loop with state := .member, rebuildWait := none })
  else s.setLoop (restartIdle s.loop)

/-- Activity within an open window (R127). -/
def answerWindow (w : Window) (p : Option LoopPacket) (s : State) : State :=
  match w with
  | .passing => endTurn s
  | .probing =>
    match s.loop.candidate with
    | some c => searchFinds c s
    | none => endTurn s
  | .duplicate =>
    if s.loop.duplicateSeen then s
    else loopReport .duplicateSeen (s.setLoop { s.loop with duplicateSeen := true })
  | .reservation =>
    if fillsReservation s.loop.address p then s else s.setLoop (releaseReservation s.loop)
  | .enquiring => if hasEnd s.loop.address p then s else failExchange s
  | .posting => if hasEnd s.loop.address p then s else failExchange s

/-- A window that the end of the packet decides: an exchange's, and a reservation's when the packet is
its DATA. -/
def decidedAtEnd (address : Nat) (p : Option LoopPacket) : Window → Bool
  | .enquiring => true
  | .posting => true
  | .reservation => fillsReservation address p
  | _ => false

/-- A packet of another station starts: it is the first packet of every window that is open (R127). In
OFF the station judges nothing. While a packet is being heard no other can start. Whether a packet is
the station's is judged by its address now, at the packet's start: DEDUCED
(notes/assumptions/24.md). A passing step whose reservation this packet's start releases is taken here
when the packet has no end of its own, and else at that end: DESIGN CHOICE (notes/assumptions/34.md). -/
def hearStart (chars : List Byte) (s : State) : State :=
  if s.loop.state = .off ∨ s.loop.heard.isSome then s
  else
    let p := judgePacket chars
    let ws := s.loop.windows
    let s1 := noteActivity s
    let s2 := ws.foldl (fun s w => answerWindow w p s) (s1.setLoop { s1.loop with windows := [] })
    if hasEnd s2.loop.address p then
      s2.setLoop { s2.loop with
        heard := some ⟨p, ws.filter (decidedAtEnd s2.loop.address p), inTurn s.loop⟩ }
    else resumePass s2

/-! ### The end of a packet -/

/-- A packet's end: when the packet being heard is the one the command names, it is acted on, and a
passing step that waited is taken, one whose reservation was released at the packet's start included:
DESIGN CHOICE (notes/assumptions/34.md). Otherwise nothing comes about. -/
def hearEnd (select : Option LoopPacket → Option (HeardPacket → State → State)) (s : State) : State :=
  match s.loop.heard with
  | some h =>
    match select h.packet with
    | some act => resumePass (act h (s.setLoop { s.loop with heard := none }))
    | none => s
  | none => s

/-- A faulty packet is ignored and counted (R126). -/
def endFaulty (h : HeardPacket) (s : State) : State :=
  failIfAnswering h (s.setLoop { s.loop with packetFaults := satInc s.loop.packetFaults })

/-- A TOKEN to the own address (R132, R133): one that began within the station's own turn is not taken,
whatever it answered. -/
def endToken (h : HeardPacket) (s : State) : State :=
  match s.loop.state with
  | .off => s
  | .listening => s.setLoop { s.loop with windows := s.loop.windows ++ [.duplicate] }
  | _ => if h.inTurn ∨ inTurn s.loop then failIfAnswering h s else beginTurn s

/-- An ENQUIRY to the own address; one whose source is not 255 is ignored without an answer (R143). -/
def endEnquiry (source : Nat) (h : HeardPacket) (s : State) : State :=
  let s' := failIfAnswering h s
  if source = 255 then answerEnquiry s' else s'

/-- The DATA of an exchange: the ROOM_REPORT, formed now, or the record copy (R136). -/
def exchangeBody (x : Exchange) (s : State) : List Byte :=
  match x with
  | .roomReport _ => roomReportBody s
  | .record r stay => recordBody stay r

/-- An ACCEPT to the own address: answering the station's ENQUIRY, it resets the decline run and the
DATA is sent (R135 to R137); at any other time it is no answer. -/
def endAccept (h : HeardPacket) (s : State) : State :=
  match answered .enquiring .enquiring h s.loop with
  | some x =>
    let s1 := s.setLoop { s.loop with declineCount := 0, busyReported := false, phase := .posting }
    send (.data 255 s.loop.address (exchangeBody x s1)) (some .posting) s1
  | none => failIfAnswering h s

/-- The desk-busy test (R137). -/
def busyTest (s : State) : State :=
  if s.loop.declineLimit ≤ s.loop.declineCount ∧ s.loop.busyReported = false then
    let s' := loopReport .deskBusy s
    s'.setLoop { s'.loop with busyReported := true }
  else s

/-- A DECLINE to the own address: answering the station's ENQUIRY, it raises the decline count and
ends the exchange; the retry count is unchanged (R135, R137). -/
def endDecline (h : HeardPacket) (s : State) : State :=
  match answered .enquiring .enquiring h s.loop with
  | some _ =>
    busyTest (s.setLoop { s.loop with
      declineCount := satInc63 s.loop.declineCount, exchange := none, passDeferred := true })
  | none => failIfAnswering h s

/-- A DATA_ACK to the own address: answering the station's DATA, it posts the record or the
ROOM_REPORT (R136); at any other time it is loop activity and nothing more. -/
def endDataAck (h : HeardPacket) (s : State) : State :=
  match answered .posting .posting h s.loop with
  | some x =>
    let s1 := s.setLoop { s.loop with retryCount := 0, exchange := none, passDeferred := true }
    match x with
    | .roomReport again => s1.setLoop { s1.loop with pendingReply := again }
    | .record r stay => acknowledgeRecord r.serial stay s1
  | none => failIfAnswering h s

/-- A DATA to the own address: the first packet of a reservation's window, from 255, fills the
RESERVED buffer and is acknowledged; any other is dropped and counted (R144). One from 255 that started
before the reservation's window had opened, its ACCEPT not yet sent, is dropped and counted too, and the
reservation stays: DESIGN CHOICE (notes/assumptions/35.md). -/
def endData (source : Nat) (body : List Byte) (h : HeardPacket) (s : State) : State :=
  let s' := failIfAnswering h s
  match reservedBufferIx s'.loop with
  | some ix =>
    if source = 255 ∧ h.windows.contains .reservation then
      send (.dataAck 255) none (s'.setLoop (fillBuffer ix ⟨false, body⟩ s'.loop))
    else s'.setLoop (dropData s'.loop)
  | none => s'.setLoop (dropData s'.loop)

/-- A DATA with destination 0: from 255 it fills a FREE buffer, without an answer; otherwise it is
dropped and counted (R145). -/
def endBroadcast (source : Nat) (body : List Byte) (h : HeardPacket) (s : State) : State :=
  let s' := failIfAnswering h s
  match freeBufferIx s'.loop with
  | some ix =>
    if source = 255 then s'.setLoop (fillBuffer ix ⟨true, body⟩ s'.loop)
    else s'.setLoop (dropData s'.loop)
  | none => s'.setLoop (dropData s'.loop)

/-! ### Windows, timers and the station's own packets -/

/-- A window ends with no answer (R127, R135, R136, R138, R139, R143). -/
def expireWindow (w : Window) (s : State) : State :=
  match w with
  | .enquiring => resumePass (failExchange s)
  | .posting => resumePass (failExchange s)
  | .passing =>
    match s.loop.successor with
    | some d => searchFrom (addressAfter d) s
    | none => searchFrom (addressAfter s.loop.address) s
  | .probing =>
    match s.loop.candidate with
    | some c => searchFrom (addressAfter c) s
    | none => s
  | .reservation => resumePass (s.setLoop (releaseReservation s.loop))
  | .duplicate => s

/-- The last character of the packet on the line has left it: the idle timer restarts and the
response window opens when the packet expects an answer; LDE stays asserted while characters of a further
packet stand on LTX (R125, R127). -/
def packetSent (s : State) : State :=
  match s.loop.sending with
  | [] => s
  | p :: rest =>
    s.setLoop (restartIdle { s.loop with
      sending := rest, lde := !(ltxCharacters rest).isEmpty
      windows := s.loop.windows ++ p.expects.toList })

/-- The rebuild wait of an address: its address × 120 µs (R141). -/
def rebuildMicros (address : Nat) : Nat := address * 120

/-- The idle timer runs out in MEMBER outside a turn, or in ALONE (R141). -/
def idleExpires (s : State) : State :=
  if (s.loop.state = .member ∨ s.loop.state = .alone) ∧ inTurn s.loop = false ∧
      s.loop.idleTimer.isSome then
    s.setLoop { s.loop with
      state := .rebuilding, idleTimer := none, rebuildWait := some (rebuildMicros s.loop.address) }
  else s

/-- The rebuild wait runs out (R142). -/
def rebuildWaitExpires (s : State) : State :=
  if s.loop.state = .rebuilding ∧ s.loop.rebuildWait.isSome then remakeToken s else s

/-! ### The requests (section 8.3) -/

/-- The packets being sent expect no answer for the turn any longer; a reservation still does. -/
def abandonAnswers (ps : List SentPacket) : List SentPacket :=
  ps.map fun p => { p with expects := p.expects.filter (· == .reservation) }

/-- The station enters OFF or LISTENING with an address (R129). The packets it has still to send are
sent, and an ACCEPT among them opens no window, since its buffer is released: DEDUCED
(notes/assumptions/24.md). -/
def stationAt (address : Nat) (l : LoopStation) : LoopStation :=
  let l := releaseReservation l
  { l with
    state := if address = 0 then .off else .listening
    address := address, successor := none, duplicateSeen := false
    windows := l.windows.filter fun w => w == .duplicate && address == l.address
    heard := l.heard.filter fun h => address != 0 && hasEnd address h.packet }

/-- The Loop Station serves a SET_STATION (R129). -/
def serveSetStation (f : Frame) (s : State) : State :=
  let address := byteAt f.body 1
  if address = 255 then answer f .badRequest .codeOnly s
  else if s.loop.state = .off ∨ s.loop.state = .listening then
    let s' := s.setLoop (stationAt address s.loop)
    answer f .ok (.station s'.loop.address s'.loop.state) s'
  else answer f .stationActive .codeOnly s

/-- The Loop Station serves a JOIN (R130); outside LISTENING it makes no duplicate watch (R132). -/
def serveJoin (f : Frame) (s : State) : State :=
  match s.loop.state with
  | .off => answer f .badRequest .codeOnly s
  | .listening =>
    if s.loop.duplicateSeen then answer f .duplicateAddress .codeOnly s
    else answer f .ok .codeOnly (s.setLoop { s.loop with
      state := .member, successor := none, declineCount := 0, retryCount := 0, turnCount := 0
      busyReported := false, ownRebuild := false, pendingReply := true
      idleTimer := some idleMicros
      windows := s.loop.windows.filter (· != .duplicate) })
  | _ => answer f .already .codeOnly s

/-- The TOKEN that LEAVE sends first: to a known successor, from a turn that has sent none yet, in
ENQUIRING or POSTING (R131). -/
def leavingToken (l : LoopStation) : List SentPacket :=
  if inTurn l ∧ l.phase ≠ .passing ∧ l.phase ≠ .probing then
    match l.successor with
    | some d => [⟨.token d, none⟩]
    | none => []
  else []

/-- The station leaves the ring (R131). -/
def leaveRing (l : LoopStation) : LoopStation :=
  { l with
    state := .listening, successor := none, ownRebuild := false, idleTimer := none
    rebuildWait := none, phase := .none, exchange := none, refreshTurn := false
    rebuildTurn := false, passDeferred := false, candidate := none
    windows := l.windows.filter (· == .reservation)
    heard := l.heard.map fun h => { h with windows := h.windows.filter (· == .reservation) }
    sending := abandonAnswers l.sending ++ leavingToken l
    lde := l.lde || !(leavingToken l).isEmpty }

/-- The Loop Station serves a LEAVE (R131). -/
def serveLeave (f : Frame) (s : State) : State :=
  match s.loop.state with
  | .off => answer f .already .codeOnly s
  | .listening => answer f .already .codeOnly s
  | _ => answer f .ok .codeOnly (s.setLoop (leaveRing s.loop))

/-- The Loop Station serves a LOOP_CONFIG (R137). -/
def serveLoopConfig (f : Frame) (s : State) : State :=
  let limit := clampTo 1 63 (byteAt f.body 1)
  answer f .ok (.loopConfig limit s.loop.declineCount)
    (s.setLoop { s.loop with declineLimit := limit })

/-! ### The commands -/

/-- SET_STATION (R129). -/
def execSetStation (s : State) : Host.Outcome State Fault Refusal :=
  .next (serveRequest 0x0C serveSetStation s)

/-- JOIN (R130). -/
def execJoin (s : State) : Host.Outcome State Fault Refusal := .next (serveRequest 0x0D serveJoin s)

/-- LEAVE (R131). -/
def execLeave (s : State) : Host.Outcome State Fault Refusal := .next (serveRequest 0x0E serveLeave s)

/-- LOOP_CONFIG (R137). -/
def execLoopConfig (s : State) : Host.Outcome State Fault Refusal :=
  .next (serveRequest 0x0F serveLoopConfig s)

/-- LOOP_ACTIVITY (R125, R127). -/
def execLoopActivity (chars : List Byte) (s : State) : Host.Outcome State Fault Refusal :=
  .next (hearStart chars s)

/-- FAULTY_PACKET (R126). -/
def execFaultyPacket (s : State) : Host.Outcome State Fault Refusal :=
  .next (hearEnd (fun
    | none => some endFaulty
    | _ => none) s)

/-- TOKEN_RECEIVED (R133). -/
def execTokenReceived (s : State) : Host.Outcome State Fault Refusal :=
  .next (hearEnd (fun
    | some (.token _) => some endToken
    | _ => none) s)

/-- ENQUIRY_RECEIVED (R143). -/
def execEnquiryReceived (s : State) : Host.Outcome State Fault Refusal :=
  .next (hearEnd (fun
    | some (.enquiry _ source) => some (endEnquiry source)
    | _ => none) s)

/-- ACCEPT_RECEIVED (R135). -/
def execAcceptReceived (s : State) : Host.Outcome State Fault Refusal :=
  .next (hearEnd (fun
    | some (.accept _) => some endAccept
    | _ => none) s)

/-- DECLINE_RECEIVED (R135). -/
def execDeclineReceived (s : State) : Host.Outcome State Fault Refusal :=
  .next (hearEnd (fun
    | some (.decline _) => some endDecline
    | _ => none) s)

/-- DATA_ACK_RECEIVED (R136). -/
def execDataAckReceived (s : State) : Host.Outcome State Fault Refusal :=
  .next (hearEnd (fun
    | some (.dataAck _) => some endDataAck
    | _ => none) s)

/-- DATA_RECEIVED (R144). -/
def execDataReceived (s : State) : Host.Outcome State Fault Refusal :=
  .next (hearEnd (fun
    | some (.data (_ + 1) source body) => some (endData source body)
    | _ => none) s)

/-- BROADCAST_RECEIVED (R145). -/
def execBroadcastReceived (s : State) : Host.Outcome State Fault Refusal :=
  .next (hearEnd (fun
    | some (.data 0 source body) => some (endBroadcast source body)
    | _ => none) s)

/-- RESPONSE_WINDOW_EXPIRY (R127): the window opened first ends; with none open nothing comes about. -/
def execResponseWindowExpiry (s : State) : Host.Outcome State Fault Refusal :=
  .next (match s.loop.windows with
    | w :: rest => expireWindow w (s.setLoop { s.loop with windows := rest })
    | [] => s)

/-- IDLE_TIMER_EXPIRY (R141). -/
def execIdleTimerExpiry (s : State) : Host.Outcome State Fault Refusal := .next (idleExpires s)

/-- REBUILD_WAIT_EXPIRY (R142). -/
def execRebuildWaitExpiry (s : State) : Host.Outcome State Fault Refusal :=
  .next (rebuildWaitExpires s)

/-- LOOP_PACKET_SENT (R127). -/
def execLoopPacketSent (s : State) : Host.Outcome State Fault Refusal := .next (packetSent s)

end Sys2Proof.Machine
end

