-- ==== Sys2Proof/Machine/Reset.lean ====
section
/-! DEFINITION. POWER_ON_RESET: every block at its power-on values (R2, R16, R34, R51, R69, R90, R94,
R101, R108, R122, R128, R149, R161, R173). -/

namespace Sys2Proof.Machine

/-- The part with every block at its power-on values, the rate chosen by the straps as sampled (R160).
The level of SRDY and the commands that wait are outside the part's reset. -/
def powerOn (srate1 srate0 : Bool) (s : State) : State :=
  { State.reset with
    link := SetLink.reset srate1 srate0 s.link.srdy
    pending := s.pending }

/-- POWER_ON_RESET (R2, R160). -/
def execPowerOnReset (srate1 srate0 : Bool) (s : State) : Host.Outcome State Fault Refusal :=
  .next (powerOn srate1 srate0 s)

end Sys2Proof.Machine
end

