-- ==== Sys2Proof/Machine/Restore.lean ====
section
/-! DEFINITION. RESTORE (sections 11.3 and 12.4): the checks of a snapshot and its acceptance. -/

namespace Sys2Proof.Machine

/-! ### The checks (R175, R180) -/

/-- An entitlement of a snapshot is well formed. -/
def snapEntryOk (e : SnapEntry) : Bool :=
  1 ≤ e.state && e.state ≤ 3 && validFilm e.film && e.price ≤ 60000

/-- A record of a snapshot is well formed. -/
def snapRecordOk (r : SnapRecord) : Bool :=
  r.kind != 0 && r.spare == 0 && 1 ≤ r.serial && (if r.kind = 3 then r.film == 0 else r.film != 0)

/-- Serials follow one another, with 1 after 65,535, and the next serial follows the last. -/
def serialsFollow (serials : List Nat) (next : Nat) : Bool :=
  (serials.zip (serials.tail ++ [next])).all fun p => p.2 == serialAfter p.1

/-- A STAY_CLOSED record, if any, is the last one, and stands only under the closing mark. -/
def closureOk (x : Snapshot) : Bool :=
  x.records.dropLast.all (fun r => r.kind != 3) &&
    (x.closing == 1 || x.records.all fun r => r.kind != 3)

/-- The contents are well formed (R175, check 5, and R180). -/
def contentOk (x : Snapshot) : Bool :=
  x.closing ≤ 1 && pinWellFormed true x.digits &&
    x.entries.all snapEntryOk && decide ((x.entries.map (·.film)).Nodup) && x.total ≤ maxTotal &&
    x.records.all snapRecordOk && 1 ≤ x.nextSerial && x.nextSerial ≤ 65535 &&
    serialsFollow (x.records.map (·.serial)) x.nextSerial && closureOk x &&
    (x.closing == 0 || x.entries.all fun e => e.state == 3)

/-- The BOUGHT entitlements of a snapshot. -/
def snapBought (x : Snapshot) : List SnapEntry := x.entries.filter fun e => e.state == 1

/-- The checks of a RESTORE in order: the cause of the first that fails (R175). -/
def restoreCause (room : RoomState) (body : List Byte) : Option RestoreCause :=
  let x := parseSnapshot body
  if room ≠ .starting then some .notStarting
  else if !snapshotCheckOk body then some .badCheck
  else if x.stay = 0 then some .noStay
  else if 8 < x.entries.length ∨ 10 < x.records.length then some .overCapacity
  else if !contentOk x then some .badContent
  else if 10 < x.records.length + (snapBought x).length then some .queueLaw
  else if min x.cap maxTotal < x.total + ((snapBought x).map (·.price)).sum then some .overCap
  else none

/-! ### Acceptance (R176, R177) -/

/-- The stay parameters a snapshot carries. -/
def restoreParams (x : Snapshot) : StayParams :=
  { stay := x.stay, cap := x.cap, roomCeiling := x.roomCeiling, hardCeiling := x.hardCeiling
    pin := pinOf x.digits, unlockDuration := x.unlockDuration, lockoutLength := x.lockoutLength
    previewAllowance := x.previewAllowance, grace := x.grace, quality := x.quality }

/-- The entitlement state of a snapshot's code (section 12.4). -/
def entryStateOf (code : Nat) : EntryState :=
  match code with
  | 1 => .bought
  | 2 => .charged
  | _ => .settling

/-- The record kind of a snapshot's code (section 12.4). -/
def recordKindOf (code : Nat) : RecordKind :=
  match code with
  | 1 => .charge
  | 2 => .credit
  | _ => .stayClosed

/-- A record as restored (R176, step 3). -/
def restoredRecord (r : SnapRecord) : Record :=
  { serial := r.serial, kind := recordKindOf r.kind, film := r.film, amount := r.amount
    minute := r.minute }

/-- An entitlement as restored (R176, steps 4 and 5): a SETTLING one has its credit amount computed
with the restored Q. -/
def restoredEntry (second allowance quality : Nat) (e : SnapEntry) : Entry :=
  { film := e.film, state := entryStateOf e.state, previewUsed := allowance, price := some e.price
    clear := e.clear, impaired := e.impaired, windowEnd := some e.windowEnd
    lastPresented := second, seenClear := false, seenFail := false, chargeSerial := none
    credit := if entryStateOf e.state = .settling then
        some (creditAmount e.price e.clear e.impaired quality) else none }

/-- The entitlement table as restored: places 0 upward, the others free. -/
def restoredTable (second allowance quality : Nat) (es : List SnapEntry) : List (Option Entry) :=
  es.map (fun e => some (restoredEntry second allowance quality e)) ++
    List.replicate (8 - es.length) none

/-- The Folio Unit's share of an accepted RESTORE (R176, steps 3 and 4). -/
def restoreFolio (x : Snapshot) (allowance : Nat) (f : Folio) : Folio :=
  let q := clampTo 1 100 x.quality
  let es := restoredTable f.feedSecond allowance q x.entries
  { f with
    total := x.total, cap := min x.cap maxTotal, quality := q, nextSerial := x.nextSerial
    queue := x.records.map restoredRecord, entries := es, reserved := boughtSum es }

/-- Steps 1 to 6 of an accepted RESTORE (R176). -/
def restoreBlocks (x : Snapshot) (s : State) : State :=
  let s1 := gateBegin (restoreParams x) (openStay (restoreParams x) s)
  let s2 := settleWaiting (s1.setFolio (restoreFolio x s1.stay.previewAllowance s1.folio))
  if s2.folio.queue.any (fun r => r.kind == .stayClosed) then
    s2.setStay { s2.stay with closureQueued := true }
  else s2

/-- A RESTORE is accepted (R176); under the closing mark the room goes on closing (R177). -/
def acceptRestore (x : Snapshot) (s : State) : State :=
  let s1 := restoreBlocks x s
  let s2 := if x.closing = 1 then closeStay s1 else s1
  emitSnapshot (stayReport .restored false s2)

/-- The reply to an accepted RESTORE, with the values after the event (R176). -/
def answerRestored (f : Frame) (s : State) : State :=
  answer f .ok (.restored s.stay.room s.stay.stay s.folio.total s.folio.reserved s.folio.cap
    (liveEntries s.folio.entries).length s.folio.queue.length) s

/-- The Stay Controller serves a RESTORE (R175, R176). -/
def serveRestore (f : Frame) (s : State) : State :=
  match restoreCause s.stay.room f.body with
  | some cause => answer f .restoreRefused (.refusedFor cause) s
  | none => answerRestored f (acceptRestore (parseSnapshot f.body) s)

/-- RESTORE (R175 to R177). -/
def execRestore (s : State) : Host.Outcome State Fault Refusal :=
  .next (serveRequest 0x11 serveRestore s)

end Sys2Proof.Machine
end

