-- ==== Sys2Proof/Machine/Dispatch.lean ====
section
/-! DEFINITION. One arm for each command, each one direct call of its meaning. -/

namespace Sys2Proof.Machine

/-- The command's effect on everything but the queue of waiting commands. -/
def exec (i : Instr) (s : State) : Host.Outcome State Fault Refusal :=
  match i with
  | .powerOnReset srate1 srate0 => Sys2Proof.Machine.execPowerOnReset srate1 srate0 s
  | .feedByte b => Sys2Proof.Machine.execFeedByte b s
  | .frameMark fslt => Sys2Proof.Machine.execFrameMark fslt s
  | .slotMark => Sys2Proof.Machine.execSlotMark s
  | .feedLossTimerExpiry insetFirst => Sys2Proof.Machine.execFeedLossTimerExpiry insetFirst s
  | .cellArrival => Sys2Proof.Machine.execCellArrival s
  | .cellVerdict order => Sys2Proof.Machine.execCellVerdict order s
  | .decoderRequest => Sys2Proof.Machine.execDecoderRequest s
  | .itemDeliveryComplete => Sys2Proof.Machine.execItemDeliveryComplete s
  | .feedSecondClose => Sys2Proof.Machine.execFeedSecondClose s
  | .setLinkByteReceived b parityBit stopBit => Sys2Proof.Machine.execSetLinkByteReceived b parityBit stopBit s
  | .assemblerByte => Sys2Proof.Machine.execAssemblerByte s
  | .interByteTimeout => Sys2Proof.Machine.execInterByteTimeout s
  | .unknownKind => Sys2Proof.Machine.execUnknownKind s
  | .status => Sys2Proof.Machine.execStatus s
  | .tune => Sys2Proof.Machine.execTune s
  | .untune => Sys2Proof.Machine.execUntune s
  | .tuningAfterCell => Sys2Proof.Machine.execTuningAfterCell s
  | .setOutput => Sys2Proof.Machine.execSetOutput s
  | .purchase => Sys2Proof.Machine.execPurchase s
  | .cancel => Sys2Proof.Machine.execCancel s
  | .filmQuery => Sys2Proof.Machine.execFilmQuery s
  | .unlock => Sys2Proof.Machine.execUnlock s
  | .relock => Sys2Proof.Machine.execRelock s
  | .setPin => Sys2Proof.Machine.execSetPin s
  | .setCeiling => Sys2Proof.Machine.execSetCeiling s
  | .setStation => Sys2Proof.Machine.execSetStation s
  | .join => Sys2Proof.Machine.execJoin s
  | .leave => Sys2Proof.Machine.execLeave s
  | .loopConfig => Sys2Proof.Machine.execLoopConfig s
  | .guide => Sys2Proof.Machine.execGuide s
  | .restore => Sys2Proof.Machine.execRestore s
  | .softReset => Sys2Proof.Machine.execSoftReset s
  | .transmitChoice srdy => Sys2Proof.Machine.execTransmitChoice srdy s
  | .frameSent => Sys2Proof.Machine.execFrameSent s
  | .deskNoteEntersQueue => Sys2Proof.Machine.execDeskNoteEntersQueue s
  | .loopActivity chars => Sys2Proof.Machine.execLoopActivity chars s
  | .faultyPacket => Sys2Proof.Machine.execFaultyPacket s
  | .tokenReceived => Sys2Proof.Machine.execTokenReceived s
  | .enquiryReceived => Sys2Proof.Machine.execEnquiryReceived s
  | .acceptReceived => Sys2Proof.Machine.execAcceptReceived s
  | .declineReceived => Sys2Proof.Machine.execDeclineReceived s
  | .dataAckReceived => Sys2Proof.Machine.execDataAckReceived s
  | .dataReceived => Sys2Proof.Machine.execDataReceived s
  | .broadcastReceived => Sys2Proof.Machine.execBroadcastReceived s
  | .responseWindowExpiry => Sys2Proof.Machine.execResponseWindowExpiry s
  | .idleTimerExpiry => Sys2Proof.Machine.execIdleTimerExpiry s
  | .rebuildWaitExpiry => Sys2Proof.Machine.execRebuildWaitExpiry s
  | .malformedMessage => Sys2Proof.Machine.execMalformedMessage s
  | .checkIn => Sys2Proof.Machine.execCheckIn s
  | .checkOut => Sys2Proof.Machine.execCheckOut s
  | .vacateNow => Sys2Proof.Machine.execVacateNow s
  | .keyDelivery => Sys2Proof.Machine.execKeyDelivery s
  | .keyWithdrawal => Sys2Proof.Machine.execKeyWithdrawal s
  | .tariffSet => Sys2Proof.Machine.execTariffSet s
  | .tariffRemove => Sys2Proof.Machine.execTariffRemove s
  | .time folioFirst => Sys2Proof.Machine.execTime folioFirst s
  | .deskNote => Sys2Proof.Machine.execDeskNote s
  | .roomQuery => Sys2Proof.Machine.execRoomQuery s
  | .minuteAdvance folioFirst => Sys2Proof.Machine.execMinuteAdvance folioFirst s
  | .startTimeout => Sys2Proof.Machine.execStartTimeout s
  | .loopPacketSent => Sys2Proof.Machine.execLoopPacketSent s

end Sys2Proof.Machine
end

