-- ==== Sys2Proof/Safety.lean ====
section
/-! DEFINITION. What a sound state of the part is, block by block: the ranges of sections 1.3 to 10.2
and the laws the rules state over whole runs. -/

namespace Sys2Proof.Machine

/-- A saturating count of 0 to 65,535 (section 5.3 of 00_scope.md). -/
def isCount (n : Nat) : Bool := n ≤ 65535

/-! ### The picture path -/

/-- The Feed Tracker: section 1.3; the feed-loss timer is stopped exactly in NO_FEED (R2 to R4), and a
slot is open exactly in LOCKED (R3 to R6). -/
def feedOk (t : FeedTracker) : Bool :=
  t.slot ≤ 47 && t.frameCount ≤ 499 && t.mismatchRun ≤ 2 &&
    (t.lossTimer.isSome == (t.state != .noFeed)) && (t.cell.isSome == (t.state == .locked)) &&
    ((t.cell.getD []).length ≤ 140) &&
    isCount t.counts.headerFaults && isCount t.counts.runts && isCount t.counts.slotMismatches &&
    isCount t.counts.frameOverruns && isCount t.counts.feedLosses

/-- A group's active slot is LOADED (R19, R20). -/
def groupOk (g : KeyGroup) : Bool :=
  match g.active with
  | some p => (keySlot g p).isSome
  | none => true

/-- The Key Table: sixteen groups, each with its active slot LOADED, and the counts (section 2.1). -/
def keysOk (t : KeyTable) : Bool :=
  t.groups.length == 16 && t.groups.all groupOk &&
    isCount t.counts.loads && isCount t.counts.withdrawals && isCount t.counts.refusals &&
    isCount t.counts.repeats

/-- No two markers of one reason stand next to each other (section 3.3). -/
def noTwins : List Item → Bool
  | a :: b :: rest => !(collapsesInto (some a) b) && noTwins (b :: rest)
  | _ => true

/-- An output by its state (section 3.1, R34, R44, R45): IDLE holds nothing, FILLING holds fewer items
than its threshold, RUNNING holds at least one. -/
def stateOk (o : Output) : Bool :=
  match o.state with
  | .idle => o.service.isNone && o.queue.isEmpty && !o.gapOwed && o.expected.isNone
  | .filling => o.service.isSome && o.queue.length < o.threshold
  | .running => o.service.isSome && !o.queue.isEmpty

/-- One output: 0 to 8 items, no twin markers, and the ranges of section 3.1. -/
def outputOk (o : Output) : Bool :=
  o.queue.length ≤ 8 && noTwins o.queue && stateOk o && o.service != some 0 &&
    1 ≤ o.threshold && o.threshold ≤ 8 && o.priority ≤ 3 && isCount o.overflows &&
    isCount o.underruns

/-- The Output Stage: a request waits only while neither output is eligible or an item is in delivery
(R46, R47), and the port presents the item in delivery (R48). -/
def outputsOk (x : OutputStage) : Bool :=
  outputOk x.main && outputOk x.inset &&
    (x.port == match x.delivering with
      | some (ix, item) => portBytes ix item
      | none => []) &&
    (!x.requestHeld || x.delivering.isSome || (!eligible x.main && !eligible x.inset))

/-! ### The room -/

/-- A PIN is absent or 4 to 8 digits, each 0 to 9 (section 4.1). -/
def pinOk (pin : Option (List Nat)) : Bool :=
  match pin with
  | some digits => pinWellFormed false digits
  | none => true

/-- The Rating Gate: F ≤ H ≤ 7 (R53) and the ranges of section 4.1. -/
def gateOk (g : RatingGate) : Bool :=
  g.roomCeiling ≤ g.hardCeiling && g.hardCeiling ≤ 7 && pinOk g.pin && g.failures ≤ 2 &&
    1 ≤ g.unlockDuration && g.unlockDuration ≤ 240 && 1 ≤ g.lockoutLength && g.lockoutLength ≤ 255

/-- The gate's vacant values (R52). -/
def gateIsVacant (g : RatingGate) : Bool :=
  g.roomCeiling == 7 && g.hardCeiling == 7 && g.pin.isNone && g.unlockExpiry.isNone &&
    g.lockoutExpiry.isNone && g.failures == 0

/-- The fields of an entitlement by its state (section 5.1). -/
def entryOk (e : Entry) : Bool :=
  validFilm e.film && e.previewUsed ≤ 600 && isCount e.clear && isCount e.impaired &&
    e.price.getD 0 ≤ 60000 && e.windowEnd.getD 0 ≤ lastMinute &&
    (match e.state with
     | .preview => e.price.isNone && e.windowEnd.isNone && e.clear == 0 && e.impaired == 0 &&
         e.credit.isNone
     | .settling => e.price.isSome && e.windowEnd.isSome &&
         1 ≤ e.credit.getD 0 && e.credit.getD 0 ≤ e.price.getD 0
     | _ => e.price.isSome && e.windowEnd.isSome && e.credit.isNone)

/-- The entitlement table: eight places, no film twice (R68). -/
def tableOk (es : List (Option Entry)) : Bool :=
  es.length == 8 && decide (((liveEntries es).map (·.film)).Nodup) && (liveEntries es).all entryOk

/-- One tariff in its ranges (section 6.1). -/
def tariffOk (t : Tariff) : Bool :=
  validFilm t.film && t.price ≤ 60000 && 1 ≤ t.window && t.window ≤ 2880 && t.rating ≤ 7

/-- The tariff table: 64 places, no film twice (R90). -/
def tariffsOk (ts : List (Option Tariff)) : Bool :=
  ts.length == 64 && decide (((ts.filterMap id).map (·.film)).Nodup) && (ts.filterMap id).all tariffOk

/-- The queue's serials are consecutive and lead up to the next serial, 1 to 65,535 (R103). -/
def serialsOk (f : Folio) : Bool :=
  1 ≤ f.nextSerial && f.nextSerial ≤ 65535 && serialsFollow (f.queue.map (·.serial)) f.nextSerial

/-- A record is a STAY_CLOSED. -/
def isClosure (r : Record) : Bool := r.kind == .stayClosed

/-- One record in its ranges (R102). -/
def recordOk (r : Record) : Bool :=
  1 ≤ r.serial && r.serial ≤ 65535 && r.amount ≤ 16777215 && r.minute ≤ lastMinute &&
    (if isClosure r then r.film == 0 else validFilm r.film)

/-- The laws of the Folio Unit that hold in every room state: R is the sum of P over the BOUGHT
entries (R95), records and BOUGHT entries number at most 10 (R101), a credit waits only while no place
is unreserved (R100), and the serials are consecutive (R103). -/
def folioOk (f : Folio) : Bool :=
  tableOk f.entries && tariffsOk f.tariffs && f.reserved == boughtSum f.entries &&
    f.queue.length + boughtCount f.entries ≤ 10 &&
    (!anySettling f.entries || !unreservedPlace f) && serialsOk f && f.queue.all recordOk &&
    f.total ≤ maxTotal && f.cap ≤ maxTotal && 1 ≤ f.quality && f.quality ≤ 100 &&
    f.snapshotSeconds ≤ 59 && isCount f.tariffFull

/-- The room holds no films and no records (R110). -/
def folioEmpty (f : Folio) : Bool := f.entries.all (·.isNone) && f.queue.isEmpty

/-- The laws of the room state: STARTING and VACANT hold no stay, films or records (R110); OCCUPIED
keeps T + R within K (R96) and queues no closure; CLOSING holds SETTLING entries alone (R88), none of
them behind a queued closure, which is the last record (R114), and its T stays within K. -/
def roomOk (s : State) : Bool :=
  match s.stay.room with
  | .occupied => s.stay.stay != 0 && !s.stay.closureQueued && s.stay.pendingCheckIn.isNone &&
      s.folio.queue.all (fun r => !isClosure r) && s.folio.total + s.folio.reserved ≤ s.folio.cap
  | .closing => s.stay.stay != 0 &&
      (liveEntries s.folio.entries).all (fun e => e.state == .settling) &&
      s.folio.queue.dropLast.all (fun r => !isClosure r) &&
      (s.stay.closureQueued == s.folio.queue.any isClosure) &&
      (!s.stay.closureQueued || !anySettling s.folio.entries) && s.folio.total ≤ s.folio.cap
  | _ => s.stay.stay == 0 && !s.stay.closureQueued && s.stay.pendingCheckIn.isNone &&
      folioEmpty s.folio

/-- The Stay Controller's own ranges (section 7.1, R119); a pending check-in names a stay, and its PIN
has the form the handler checked (R116, R150). -/
def stayOk (c : StayController) : Bool :=
  c.stay ≤ 65535 && c.previewAllowance ≤ 600 && c.grace ≤ 900 &&
    (c.startTimer.isSome == (c.room == .starting)) &&
    (match c.pendingCheckIn with
     | some p => p.stay != 0 && p.stay ≤ 65535 && pinOk p.pin
     | none => true)

/-- The House Clock: section 7.8. -/
def clockOk (c : HouseClock) : Bool :=
  c.minute ≤ lastMinute && (c.elapsed.isSome == c.set) && (c.set || c.minute == 0)

/-- The cell in judging has its answer and waits for its verdict (R27). -/
def awaitsVerdict (d : Descrambler) : Bool := d.judging.any (·.answered)

/-- At most one entry is marked as the one the Cell Descrambler keeps a reference to, and none while no
answered cell waits for its verdict (R27, R75). -/
def referenceOk (s : State) : Bool :=
  (liveEntries s.folio.entries).countP (·.answered) ≤ (if awaitsVerdict s.descrambler then 1 else 0)

/-- The boundaries signalled before a SOFT_RESET are among those not yet closed (R69, R76). -/
def closesOk (f : Folio) : Bool := f.closesBeforeReset ≤ f.closesDue

/-- The billing of the room: the Rating Gate, the Folio Unit, the Stay Controller and the House Clock
together. -/
def billingOk (s : State) : Bool :=
  gateOk s.gate && (s.stay.room == .occupied || gateIsVacant s.gate) && folioOk s.folio &&
    closesOk s.folio && referenceOk s && stayOk s.stay && roomOk s && clockOk s.clock

/-- A film ID of a cell lies in 0 to 4095, as its twelve bits spell it (section 1.2). -/
def cellOk (c : Cell) : Bool := c.film ≤ 4095

/-- The cells on their way through the Cell Descrambler; only a film cell whose second has not closed can
have its answer and wait for its verdict (R27, R76). -/
def descramblerOk (d : Descrambler) : Bool :=
  d.handedOn.all (fun h => cellOk h.cell) &&
    (match d.judging with
     | some j => cellOk j.cell && (!j.answered || (j.cell.film != 0 && j.closesAhead == 0))
     | none => true)

/-- The held request is no RESTORE of a snapshot with a STAY_CLOSED record and entitlements both. The
part emits no such snapshot, since the closure is queued when no SETTLING entry remains (R114); the
checks of R175 and R180 let one through (notes/assumptions/26.md). -/
def restoreSound (s : State) : Bool :=
  match heldRequest 0x11 s with
  | some f =>
    let x := parseSnapshot f.body
    x.entries.isEmpty || x.records.all fun r => r.kind != 3
  | none => true

/-! ### The loop and the set link -/

/-- Not both inbox buffers are RESERVED (R143). -/
def oneReservation (l : LoopStation) : Bool := l.buffer0 != .reserved || l.buffer1 != .reserved

/-- A window the station's turn opens, to be answered by another station's packet. -/
def turnWindow : Window → Bool
  | .enquiring => true
  | .posting => true
  | .passing => true
  | .probing => true
  | _ => false

/-- A turn window stands only in the turn phase of its name (section 8.4), and the duplicate watch only
in LISTENING (R132). -/
def windowFits (l : LoopStation) (w : Window) : Bool :=
  match w with
  | .enquiring => l.phase == .enquiring
  | .posting => l.phase == .posting
  | .passing => l.phase == .passing
  | .probing => l.phase == .probing
  | .duplicate => l.state == .listening
  | .reservation => true

/-- The windows that are still to give an answer: the open ones, those that packets yet to be sent will
open, and those the packet being heard is still to decide. -/
def awaited (l : LoopStation) : List Window :=
  l.windows ++ l.sending.filterMap (·.expects) ++ (l.heard.map (·.windows)).getD []

/-- The turn waits for one answer, exactly while it is in a phase and its passing step is not due; one
DATA is waited for exactly while a buffer is RESERVED; and every window fits its phase (sections 8.4 and
8.7). So no turn and no reservation is left with nothing to end it. -/
def windowsOk (l : LoopStation) : Bool :=
  (awaited l).all (windowFits l) &&
    (awaited l).countP turnWindow == (if l.phase != .none && !l.passDeferred then 1 else 0) &&
    (awaited l).count .reservation == (if (reservedBufferIx l).isSome then 1 else 0)

/-- The packet being heard: none is heard in OFF, it has an end the station acts on (R126), and the
windows it is still to answer are those its end decides (R135, R136, R143). -/
def heardOk (l : LoopStation) : Bool :=
  match l.heard with
  | some h =>
    l.state != .off && hasEnd l.address h.packet && h.windows.all (decidedAtEnd l.address h.packet)
  | none => true

/-- The Loop Station: address 0 exactly in OFF (section 8.2), a turn only in MEMBER, the idle timer
running exactly in MEMBER and ALONE outside a turn (R127), the rebuild wait exactly in REBUILDING
(R141), a candidate exactly in PROBING (R139), an exchange exactly in ENQUIRING and POSTING until the
passing step is due, no passing step due once it has been taken (R138), the line driven exactly while
characters stand on LTX (R125, R127), and the ranges of section 8.2. -/
def loopOk (l : LoopStation) : Bool :=
  l.address ≤ 254 && ((l.address == 0) == (l.state == .off)) &&
    (!inTurn l || l.state == .member) &&
    (l.idleTimer.isSome == ((l.state == .member || l.state == .alone) && !inTurn l)) &&
    (l.rebuildWait.isSome == (l.state == .rebuilding)) &&
    (l.candidate.isSome == (l.phase == .probing)) &&
    (l.exchange.isSome == ((l.phase == .enquiring || l.phase == .posting) && !l.passDeferred)) &&
    (!l.passDeferred || (l.phase != .passing && l.phase != .probing)) &&
    (l.lde == !(ltxCharacters l.sending).isEmpty) && oneReservation l && windowsOk l && heardOk l &&
    l.turnCount ≤ 63 && l.declineCount ≤ 63 && 1 ≤ l.declineLimit && l.declineLimit ≤ 63 &&
    isCount l.retryCount && isCount l.rebuildCount && isCount l.packetFaults && isCount l.inboxDrops

/-- A report of the kinds of which the queue holds at most one (R168). -/
def singleKind (r : Report) : Bool := sameSingleKind r r

/-- The queue holds at most one SNAPSHOT and at most one FEED_STATE (R168). -/
def singlesOk : List Report → Bool
  | r :: rest => rest.all (fun x => !sameSingleKind x r) && singlesOk rest
  | [] => true

/-- The assembler's phase with the inter-byte timer (R165): it runs exactly in ASSEMBLING, whose bytes
are fewer than the length byte calls for. -/
def assemblerOk (l : SetLink) : Bool :=
  match l.assembler with
  | .assembling bytes _ => l.interByteTimer.isSome && 1 ≤ bytes.length &&
      (bytes.length == 1 || (byteAt bytes 2 ≤ 253 && bytes.length < byteAt bytes 2 + 5))
  | .holding f => l.interByteTimer.isNone && f.body.length ≤ 253
  | .hunting => l.interByteTimer.isNone

/-- The Set Link Port: the FIFO with CTS by its hysteresis (R162), the report queue (R168), the reply
slot in step with the transmitter (R167), which has begun one to all of the bytes of a frame on STX, and
the counts. -/
def linkOk (l : SetLink) : Bool :=
  l.fifo.length ≤ 64 && (17 ≤ l.fifo.length || l.cts) && (l.fifo.length ≤ 47 || !l.cts) &&
    assemblerOk l && l.reports.length ≤ 16 && singlesOk l.reports && l.reportSeq ≤ 255 &&
    ((l.slot == .sending) == (match l.transmitter with
      | .reply _ => true
      | _ => false)) &&
    (match l.transmitter with
      | .idle => l.begun == 0
      | t => 1 ≤ l.begun && l.begun ≤ (stxCharacters t).length) &&
    isCount l.lostReports && isCount l.counts.overrun && isCount l.counts.framing &&
    isCount l.counts.parity && isCount l.counts.length && isCount l.counts.check &&
    isCount l.counts.timeout

/-! ### The words the statements use -/

/-- A request of this kind is held and will be taken, with a body of the length its kind calls for
(R166). -/
abbrev requested (kind : Nat) (f : Frame) (s : State) : Prop :=
  s.link.assembler = .holding f ∧ s.link.slot = .empty ∧ f.kind.toNat = kind ∧ lengthMatches f = true

/-- The port once it has taken the held request and formed its reply: the assembler HUNTING, the slot
READY with the request's kind plus 0x80 and its tag (R166). -/
def replied (f : Frame) (code : ResultCode) (body : ReplyBody) (l : SetLink) : SetLink :=
  { l with assembler := .hunting, slot := .ready ⟨f.kind + 0x80#8, f.tag, code, body⟩ }

/-- The message is the one the handler takes next: the FILLED buffer that was filled earliest, with the
handler handling none (R149). -/
abbrev atHandler (ix : BufferIx) (m : InboxMessage) (s : State) : Prop :=
  s.desk.handling = none ∧ oldestFilled s.loop = some (ix, m)

/-- The entry of a film may show a cell: BOUGHT or CHARGED, or PREVIEW with preview used below the
allowance and the cell not barred (R72). -/
def entryShows (allowance : Nat) (barred : Bool) (e : Entry) : Bool :=
  match e.state with
  | .bought => true
  | .charged => true
  | .preview => e.previewUsed < allowance && !barred
  | .settling => false

/-- The room may show a film's cell: it is OCCUPIED, and the film's entry may show it, or the film has
none, one can be made, and a fresh preview may show it (R71 to R73). -/
def mayShow (s : State) (c : Cell) : Bool :=
  s.stay.room == .occupied &&
    (match (liveEntries s.folio.entries).find? (fun e => e.film == c.film) with
     | some e => entryShows s.stay.previewAllowance c.barred e
     | none => (newPlace s.folio.entries).isSome && 0 < s.stay.previewAllowance && !c.barred)

/-- What the desk is owed for an entry's failures: the credit amount it waits with, or, of a CHARGED
entry, the one it has when it enters SETTLING (R98). -/
def creditDue (quality : Nat) (e : Entry) : Nat :=
  match e.state with
  | .settling => e.credit.getD 0
  | .charged => creditAmount (e.price.getD 0) e.clear e.impaired quality
  | _ => 0

/-- Records created one after another from a serial on, at a house minute: each takes the serial that
comes next, with 1 after 65,535, and `next` is the serial they leave for the one after them (R102,
R103). -/
def recordsFollow (minute : Nat) : Nat → List Record → Nat → Prop
  | first, [], next => next = first
  | first, r :: rest, next => r.serial = first ∧ r.minute = minute ∧
      recordsFollow minute (if 65535 ≤ first then 1 else first + 1) rest next

/-- A report of settlement: ENDED for an entry that has gone, with the credit due to it (R87, R99). -/
def endedTold (quality : Nat) (e : Entry) : Report :=
  .filmEvent e.film .ended none e.price e.windowEnd e.clear e.impaired e.previewUsed
    (some (creditDue quality e))

/-- The films and the amounts of the entries that went with a credit due, one CREDIT record for each
(R99). -/
def creditsOf (quality : Nat) (gone : List Entry) : List (Nat × Nat) :=
  (gone.filter fun e => decide (0 < creditDue quality e)).map fun e => (e.film, creditDue quality e)

/-- A report that is no SNAPSHOT. -/
def noSnapshot (r : Report) : Bool := reportKindByte r != 0x47

/-- What settlement leaves of an entry's place: the entry waiting in SETTLING with the credit due to it,
or nothing, and then a credit due stands in a CREDIT record (R99, R100). -/
def settledInto (quality : Nat) (records : List Record) (e : Entry) (after : Option Entry) : Prop :=
  (0 < creditDue quality e ∧
    after = some { e with state := .settling, credit := some (creditDue quality e) }) ∨
  (after = none ∧ (0 < creditDue quality e → ∃ r, r ∈ records ∧ r.kind = .credit ∧ r.film = e.film ∧
    r.amount = creditDue quality e))

/-- A SNAPSHOT report of the blocks as they stand (R173, R174). -/
def snapshotTold (t : State) : Report := .snapshot (snapshotBytes (snapshotOf t))

/-- A STAY_STATE report of the values as they stand (R120). -/
def stayTold (cause : StayCause) (capClamped : Bool) (t : State) : Report :=
  .stayState cause t.stay.room t.stay.stay (t.stay.pendingCheckIn.map (·.stay)) t.stay.closureQueued
    t.folio.total t.folio.reserved t.folio.cap capClamped t.folio.queue.length
    (liveEntries t.folio.entries).length

/-- A state with a LOCK_STATE report of a stay change, and then with reports of its own, queued (R64). -/
def stayChangeTold (more : List Report) (t : State) : State :=
  let reports := .lockState .stayChange none (lockSummary t.gate) :: more
  { t with link := reports.foldl (fun l r => queueReport r l) t.link }

/-- A gate with the values of a stay, each brought into its range (R54). -/
def gateFor (p : StayParams) : RatingGate :=
  { roomCeiling := min p.roomCeiling (min p.hardCeiling 7), hardCeiling := min p.hardCeiling 7
    pin := p.pin, unlockExpiry := none, lockoutExpiry := none, failures := 0
    unlockDuration := max 1 (min p.unlockDuration 240)
    lockoutLength := max 1 (min p.lockoutLength 255) }

/-- A gate with the vacant values (R52, R56). -/
def gateVacated (g : RatingGate) : RatingGate :=
  { g with roomCeiling := 7, hardCeiling := 7, pin := none, unlockExpiry := none, lockoutExpiry := none
           failures := 0 }

/-- The state in which a stay has begun: its values in their ranges, T, R and the serials anew, with the
LOCK_STATE and STAY_STATE reports and the snapshot (R54, R70, R94, R110). -/
def stayBegun (p : StayParams) (s : State) : State :=
  let t : State := { s with
    stay := { s.stay with
      room := .occupied, stay := p.stay, previewAllowance := min p.previewAllowance 600
      grace := min p.grace 900, startTimer := none }
    gate := gateFor p
    folio := { s.folio with
      cap := min p.cap 9999999, quality := max 1 (min p.quality 100), total := 0, reserved := 0
      nextSerial := 1, snapshotSeconds := 0 } }
  stayChangeTold [stayTold .checkIn false t, snapshotTold t] t

/-- The state in which the closure has been queued: a STAY_CLOSED record of T at the tail, with the
STAY_STATE report and the snapshot (R114). -/
def closureQueuedState (s : State) : State :=
  let t : State := { s with
    stay := { s.stay with closureQueued := true }
    folio := { s.folio with
      queue := s.folio.queue ++ [⟨s.folio.nextSerial, .stayClosed, 0, s.folio.total,
        if s.clock.set then s.clock.minute else 0⟩]
      nextSerial := if 65535 ≤ s.folio.nextSerial then 1 else s.folio.nextSerial + 1
      snapshotSeconds := 0 } }
  { t with link := queueReport (snapshotTold t) (queueReport (stayTold .closureQueued false t) s.link) }

/-- A closure is due: CLOSING with none queued, no entry waiting and a place in the queue (R114). -/
abbrev closes (s : State) : Prop :=
  s.stay.room = .closing ∧ s.stay.closureQueued = false ∧ anySettling s.folio.entries = false ∧
    s.folio.queue.length < 10

/-- No cell in judging named the output, so a TUNE or UNTUNE of it need not wait (R38). -/
def unjudged (ix : OutputIx) (s : State) : Prop :=
  ∀ j, s.descrambler.judging = some j → judgedFor j ix = false

/-- An output tuned to a service (R35): flushed and FILLING; in NO_FEED it then holds the one NO_SIGNAL
marker of R13, which fills a threshold of 1 (R44). -/
def tunedBy (service : Nat) (noFeed : Bool) (o : Output) : Output :=
  { o with
    queue := if noFeed then [.marker .noSignal] else []
    gapOwed := false, expected := none, service := some service
    state := if noFeed ∧ o.threshold ≤ 1 then .running else .filling }

/-- An output untuned (R36). -/
def untunedOutput (o : Output) : Output :=
  { o with queue := [], gapOwed := false, expected := none, service := none, state := .idle }

/-- An output whose head item the arbiter has taken, leaving `rest`: a RUNNING one left empty is
FILLING with an underrun more (R45). -/
def headTaken (rest : List Item) (o : Output) : Output :=
  if o.state = .running ∧ rest = [] then
    { o with queue := [], state := .filling, underruns := satInc o.underruns }
  else { o with queue := rest }

/-- The stage once the item of an output has been granted (R46). -/
def granted (ix : OutputIx) (item : Item) (o : Output) (x : OutputStage) : OutputStage :=
  { setOutputAt x ix o with
    requestHeld := false, delivering := some (ix, item), port := portBytes ix item }

/-- What a cell's continuity value leaves of an output it named, and nothing at an IDLE one (R25, R42). -/
def checkedAt (j : Judging) (ix : OutputIx) (o : Output) : Output :=
  if judgedFor j ix = true ∧ o.state ≠ .idle then takeContinuity j.cell.continuity o else o

/-- What a cell's verdict item leaves of an output it named: the continuity check and then admission of
the item, and nothing at an IDLE output (R31, R42). -/
def shownAt (j : Judging) (item : Item) (ix : OutputIx) (o : Output) : Output :=
  if judgedFor j ix = true ∧ o.state ≠ .idle then
    admitItem item j.cell.continuity (takeContinuity j.cell.continuity o)
  else o

/-- No request waits for an item to be granted. -/
abbrev nothingToGrant (x : OutputStage) : Prop := x.requestHeld = false ∨ x.delivering ≠ none

/-- What the verdict item alone leaves of an output the cell named, and nothing at an IDLE one (R31). -/
def givenAt (j : Judging) (item : Item) (ix : OutputIx) (o : Output) : Output :=
  if judgedFor j ix = true ∧ o.state ≠ .idle then admitItem item j.cell.continuity o else o

/-- A request waits for an item, and neither output has one to offer (R47). -/
abbrev requestWaits (x : OutputStage) : Prop :=
  x.requestHeld = true ∧ x.delivering = none ∧ eligible x.main = false ∧ eligible x.inset = false

/-- The output an event at MAIN and INSET makes eligible first, in the order in which it reaches them
(R47); `after` says what it leaves of each. -/
def eligibleFirst (insetFirst : Bool) (after : OutputIx → Output) (ix : OutputIx) : Prop :=
  eligible (after ix) = true ∧
    ∀ k, k ≠ ix → eligible (after k) = true → insetFirst = (ix == .inset)

/-- The stage with each output as `after` says. -/
def stageAfter (after : OutputIx → Output) (x : OutputStage) : OutputStage :=
  { x with main := after .main, inset := after .inset }

/-- An event at MAIN and INSET while a request waits: the output it makes eligible first is granted its
head item, and the other is as the event leaves it; with neither eligible the request waits on (R47). -/
def answersWaiting (insetFirst : Bool) (after : OutputIx → Output) (x outs : OutputStage) : Prop :=
  (∀ ix item rest, eligibleFirst insetFirst after ix → (after ix).queue = item :: rest →
    outs = granted ix item (headTaken rest (after ix)) (stageAfter after x)) ∧
  ((∀ ix, eligible (after ix) = false) → outs = stageAfter after x)

/-- The cell in judging has been judged with this item, and with these entitlements after it: both
outputs it named take the continuity value and then the item (R25, R31, R39). While a request waits, an
output that the continuity value makes eligible is granted its head item, and takes the verdict item
after that; otherwise the verdict item answers the request (R47). -/
def judgedAs (order : VerdictOrder) (s : State) (j : Judging) (item : Item)
    (entries : List (Option Entry)) : Prop :=
  let checked (ix : OutputIx) := checkedAt j ix (outputAt s.outputs ix)
  let shown (ix : OutputIx) := shownAt j item ix (outputAt s.outputs ix)
  ∃ outs, exec (.cellVerdict order) s = .next { s with
      descrambler := { s.descrambler with judging := none }
      folio := { s.folio with entries := entries }
      outputs := outs } ∧
    (nothingToGrant s.outputs → outs = stageAfter shown s.outputs) ∧
    (requestWaits s.outputs →
      (∀ ix head rest, eligibleFirst order.gapInsetFirst checked ix →
        (checked ix).queue = head :: rest →
        outs = granted ix head
          (admitItem item j.cell.continuity (headTaken rest (checked ix)))
          (stageAfter shown s.outputs)) ∧
      ((∀ ix, eligible (checked ix) = false) →
        answersWaiting order.insetFirst shown s.outputs outs))

/-- An event at MAIN and INSET leaves each output as `after` says, and answers a request that waits (R39,
R47). -/
def stageBecomes (insetFirst : Bool) (after : OutputIx → Output) (x outs : OutputStage) : Prop :=
  (nothingToGrant x → outs = stageAfter after x) ∧
  (requestWaits x → answersWaiting insetFirst after x outs)

/-- The film cell in judging has been answered presentable and waits for its verdict, with these
entitlements: both outputs it named have taken the continuity value and no item (R25, R27). -/
def answeredWith (order : VerdictOrder) (s : State) (j : Judging) (entries : List (Option Entry)) : Prop :=
  ∃ outs, exec (.cellVerdict order) s = .next { s with
      descrambler := { s.descrambler with judging := some { j with answered := true } }
      folio := { s.folio with entries := entries }
      outputs := outs } ∧
    stageBecomes order.gapInsetFirst (fun ix => checkedAt j ix (outputAt s.outputs ix)) s.outputs outs

/-- The answered cell in judging has its verdict, with this item and these entitlements: both outputs it
named take the item (R31, R39). -/
def finishedAs (order : VerdictOrder) (s : State) (j : Judging) (item : Item)
    (entries : List (Option Entry)) : Prop :=
  ∃ outs, exec (.cellVerdict order) s = .next { s with
      descrambler := { s.descrambler with judging := none }
      folio := { s.folio with entries := entries }
      outputs := outs } ∧
    stageBecomes order.insetFirst (fun ix => givenAt j item ix (outputAt s.outputs ix)) s.outputs outs

/-- A packet's fields fit their bytes, and a DATA carries 1 to 64 of them (sections 8.1 and 12.2). -/
def packetFits : LoopPacket → Bool
  | .token d => d ≤ 255
  | .enquiry d src => d ≤ 255 && src ≤ 255
  | .accept d => d ≤ 255
  | .decline d => d ≤ 255
  | .dataAck d => d ≤ 255
  | .data d src body => d ≤ 255 && src ≤ 255 && 1 ≤ body.length && body.length ≤ 64

/-- An entitlement's fields fit their bytes (section 12.4). -/
def snapEntryFits (e : SnapEntry) : Bool :=
  e.film ≤ 65535 && e.state ≤ 255 && e.price ≤ 65535 && e.clear ≤ 65535 && e.impaired ≤ 65535 &&
    e.windowEnd ≤ 16777215

/-- A record's fields fit their bytes (section 12.4). -/
def snapRecordFits (r : SnapRecord) : Bool :=
  r.serial ≤ 65535 && r.kind ≤ 3 && r.spare ≤ 3 && r.film ≤ 4095 && r.amount ≤ 16777215 &&
    r.minute ≤ 16777215

/-- A snapshot's fields fit their bytes (section 12.4). -/
def snapshotFits (x : Snapshot) : Bool :=
  x.stay ≤ 65535 && x.closing ≤ 255 && x.total ≤ 16777215 && x.cap ≤ 16777215 && x.quality ≤ 255 &&
    x.nextSerial ≤ 65535 && x.roomCeiling ≤ 15 && x.hardCeiling ≤ 15 && x.grace ≤ 65535 &&
    x.previewAllowance ≤ 65535 && x.unlockDuration ≤ 255 && x.lockoutLength ≤ 255 &&
    x.digits.length ≤ 255 && x.digits.all (· ≤ 255) &&
    x.entries.length ≤ 255 && x.entries.all snapEntryFits &&
    x.records.length ≤ 255 && x.records.all snapRecordFits

/-- A sound state: every block sound. -/
def sound (s : State) : Bool :=
  feedOk s.feed && keysOk s.keys && descramblerOk s.descrambler && outputsOk s.outputs &&
    billingOk s && loopOk s.loop && linkOk s.link

end Sys2Proof.Machine
end

