-- ==== Sys2Proof/Certificates/Slice0/Obligations.lean ====
section
/-! DEFINITION. The statements for the provers. Where a statement says what a command does, its next
state is written out as an update of the state before it, so that everything the update does not name
is unchanged. -/

open Sys2Proof Sys2Proof.Machine

/-! ### The queue of commands and power-on -/

/-- One step is the command at the front of the queue, carried out on the state with the queue's rest;
with no command waiting it changes nothing (the model's choice, notes/assumptions/5.md). -/
def Obligations.stepRunsTheFrontCommand : Prop :=
  (∀ (s : State) (c : Instr) (rest : List Instr), s.pending = c :: rest →
    step s = exec c { s with pending := rest }) ∧
  (∀ s : State, s.pending = [] → step s = .next s)

/-- Every command completes from every state, and none touches the queue of waiting commands. A command
whose step is not enabled (no byte, frame, message, packet, cell, window or running timer of its kind)
changes nothing, which is the model's choice (notes/assumptions/6.md). -/
def Obligations.everyCommandCompletes : Prop :=
  (∀ (c : Instr) (s : State), ∃ t, exec c s = .next t ∧ t.pending = s.pending) ∧
  (∀ (s : State) (a : Bool) (order : VerdictOrder),
    let idle (c : Instr) := exec c s = .next s
    let holds (f : Frame) := s.link.assembler = .holding f ∧ s.link.slot = .empty
    let awaited (j : Judging) := j.cell.film ≠ 0 ∧ j.closesAhead = 0
    (s.feed.lossTimer = none → idle (.feedLossTimerExpiry a)) ∧
    (s.descrambler.handedOn = [] ∨ s.descrambler.judging ≠ none ∨ s.feed.state = .noFeed ∨
        (∃ f, s.link.slot = .serving f) →
      idle .cellArrival) ∧
    (s.descrambler.judging = none → idle (.cellVerdict order)) ∧
    (∀ j, s.descrambler.judging = some j → j.cell.film ≠ 0 → j.closesAhead ≠ 0 →
      idle (.cellVerdict order)) ∧
    (s.outputs.delivering = none → idle .itemDeliveryComplete) ∧
    (s.folio.closesDue = 0 ∨
        (∃ h, h ∈ s.descrambler.handedOn ∧ h.cell.film ≠ 0 ∧ h.closesAhead = 0) ∨
        (∃ j, s.descrambler.judging = some j ∧ awaited j) →
      idle .feedSecondClose) ∧
    (s.link.fifo = [] ∨ (∃ f, s.link.assembler = .holding f) → idle .assemblerByte) ∧
    (s.link.fifo ≠ [] ∨ s.link.interByteTimer = none ∨
        (∀ bytes fault, s.link.assembler ≠ .assembling bytes fault) → idle .interByteTimeout) ∧
    ((∀ f, holds f → 1 ≤ f.kind.toNat ∧ f.kind.toNat ≤ 0x12) → idle .unknownKind) ∧
    (∀ x : Instr × Nat, x ∈ [(.status, 0x01), (.tune, 0x02), (.untune, 0x03), (.setOutput, 0x04),
        (.purchase, 0x05), (.cancel, 0x06), (.filmQuery, 0x07), (.unlock, 0x08), (.relock, 0x09),
        (.setPin, 0x0A), (.setCeiling, 0x0B), (.setStation, 0x0C), (.join, 0x0D), (.leave, 0x0E),
        (.loopConfig, 0x0F), (.guide, 0x10), (.restore, 0x11), (.softReset, 0x12)] →
      (∀ f, holds f → f.kind.toNat ≠ x.2) → idle x.1) ∧
    (s.link.transmitter = .idle ∨ s.link.begun ≠ (stxCharacters s.link.transmitter).length →
      idle .frameSent) ∧
    ((∀ f, s.link.slot ≠ .serving f) → idle .tuningAfterCell) ∧
    (∀ f ix, s.link.slot = .serving f → outputIxOf (byteAt f.body 1) = some ix → ¬ unjudged ix s →
      idle .tuningAfterCell) ∧
    (s.desk.handling = none → idle .deskNoteEntersQueue) ∧
    (let taken (c : Instr) (d : Option DeskMessage) : Bool := match c, d with
      | .malformedMessage, none => true
      | .checkIn, some (.guestStatus true false _) => true
      | .checkOut, some (.guestStatus false false _) => true
      | .vacateNow, some (.guestStatus _ true _) => true
      | .keyDelivery, some (.keyDelivery ..) => true
      | .keyWithdrawal, some (.keyWithdrawal ..) => true
      | .tariffSet, some (.tariffSet ..) => true
      | .tariffRemove, some (.tariffRemove _) => true
      | .time _, some (.time _) => true
      | .deskNote, some (.deskNote _) => true
      | .roomQuery, some .roomQuery => true
      | _, _ => false
    ∀ c, c ∈ [.malformedMessage, .checkIn, .checkOut, .vacateNow, .keyDelivery, .keyWithdrawal,
        .tariffSet, .tariffRemove, .time a, .deskNote, .roomQuery] →
      (s.desk.handling ≠ none ∨ oldestFilled s.loop = none → idle c) ∧
      (∀ ix m, atHandler ix m s → taken c (parseDesk m) = false → idle c)) ∧
    (let ends (c : Instr) (p : Option LoopPacket) : Bool := match c, p with
      | .faultyPacket, none => true
      | .tokenReceived, some (.token _) => true
      | .enquiryReceived, some (.enquiry ..) => true
      | .acceptReceived, some (.accept _) => true
      | .declineReceived, some (.decline _) => true
      | .dataAckReceived, some (.dataAck _) => true
      | .dataReceived, some (.data d _ _) => d != 0
      | .broadcastReceived, some (.data d _ _) => d == 0
      | _, _ => false
    ∀ c, c ∈ [.faultyPacket, .tokenReceived, .enquiryReceived, .acceptReceived, .declineReceived,
        .dataAckReceived, .dataReceived, .broadcastReceived] →
      (s.loop.heard = none → idle c) ∧
      (∀ h, s.loop.heard = some h → ends c h.packet = false → idle c)) ∧
    (s.loop.windows = [] → idle .responseWindowExpiry) ∧
    (s.loop.idleTimer = none ∨ inTurn s.loop = true ∨
        (s.loop.state ≠ .member ∧ s.loop.state ≠ .alone) → idle .idleTimerExpiry) ∧
    (s.loop.rebuildWait = none ∨ s.loop.state ≠ .rebuilding → idle .rebuildWaitExpiry) ∧
    (s.loop.sending = [] → idle .loopPacketSent) ∧
    (s.clock.set = false → idle (.minuteAdvance a)) ∧
    (s.stay.room ≠ .starting ∨ s.stay.startTimer = none → idle .startTimeout))

/-- POWER_ON_RESET: the power-on values of every block (R2, R16, R34, R51, R69, R90, R94, R101, R108,
R122, R128, R149, R161), the rate by the straps (R160). That SRDY keeps its level, and the values of the
fields that no rule gives a reset value, are the model's choice (notes/assumptions/28.md and 29.md). -/
def Obligations.powerOnResetGivesThePowerOnValues : Prop :=
  ∀ (srate1 srate0 : Bool) (s : State), ∃ t, exec (.powerOnReset srate1 srate0) s = .next t ∧
    t.feed = { state := .noFeed, slot := 0, frameCount := 0, mismatchRun := 0, lossTimer := none
               cell := none, counts := ⟨0, 0, 0, 0, 0⟩ } ∧
    t.keys = { groups := List.replicate 16 ⟨none, none, none⟩, counts := ⟨0, 0, 0, 0⟩ } ∧
    t.descrambler = { handedOn := [], judging := none } ∧
    (∀ ix, outputAt t.outputs ix =
      { state := .idle, service := none, queue := [], threshold := 2
        priority := if ix = .main then 2 else 1, expected := none, gapOwed := false
        overflows := 0, underruns := 0 }) ∧
    t.outputs.requestHeld = false ∧ t.outputs.delivering = none ∧ t.outputs.port = [] ∧
    t.gate = { roomCeiling := 7, hardCeiling := 7, pin := none, unlockExpiry := none
               lockoutExpiry := none, failures := 0, unlockDuration := 60, lockoutLength := 15 } ∧
    t.folio = { entries := List.replicate 8 none, feedSecond := 0, closesDue := 0, closesBeforeReset := 0
                tariffs := List.replicate 64 none, tariffFull := 0, total := 0, reserved := 0
                cap := 0, quality := 100, nextSerial := 1, queue := [], snapshotSeconds := 0 } ∧
    t.stay = { room := .starting, stay := 0, previewAllowance := 0, grace := 0
               pendingCheckIn := none, closureQueued := false, startTimer := some 120000000 } ∧
    t.clock = { set := false, minute := 0, elapsed := none } ∧
    t.loop.state = .off ∧ t.loop.address = 0 ∧ t.loop.successor = none ∧ t.loop.phase = .none ∧
    t.loop.exchange = none ∧ t.loop.pendingReply = false ∧ t.loop.duplicateSeen = false ∧
    t.loop.ownRebuild = false ∧ t.loop.busyReported = false ∧ t.loop.turnCount = 0 ∧
    t.loop.declineCount = 0 ∧ t.loop.retryCount = 0 ∧ t.loop.rebuildCount = 0 ∧
    t.loop.packetFaults = 0 ∧ t.loop.inboxDrops = 0 ∧ t.loop.declineLimit = 8 ∧
    t.loop.buffer0 = .free ∧ t.loop.buffer1 = .free ∧ t.loop.idleTimer = none ∧
    t.loop.rebuildWait = none ∧ t.loop.windows = [] ∧ t.loop.sending = [] ∧ t.loop.lde = false ∧
    t.loop.heard = none ∧
    t.desk = { malformed := 0, handling := none } ∧
    t.link = { fifo := [], lossPending := false, cts := true, assembler := .hunting
               interByteTimer := none, slot := .empty, reports := [], reportSeq := 0
               transmitter := .idle, begun := 0, guide := false, lostReports := 0
               counts := ⟨0, 0, 0, 0, 0, 0⟩
               rate := if srate1 then (if srate0 then .r460800 else .r230400)
                 else (if srate0 then .r115200 else .r57600)
               srdy := s.link.srdy } ∧
    t.pending = s.pending

/-- The state after reset is sound: every block has the laws of Safety.lean, whose reset values are the
spec's and those of notes/assumptions/29.md. -/
def Obligations.resetIsSound : Prop := sound State.reset = true

/-! ### The laws every step keeps -/

/-- Every step keeps the laws of the Feed Tracker: its ranges, the feed-loss timer stopped exactly in
NO_FEED, a slot open exactly in LOCKED. -/
def Obligations.everyStepKeepsTheFeedLaws : Prop :=
  ∀ s t : State, feedOk s.feed = true → step s = .next t → feedOk t.feed = true

/-- Every step keeps the law that a group's active slot is LOADED (R19), and the Key Table's shape. -/
def Obligations.everyStepKeepsTheKeyLaws : Prop :=
  ∀ s t : State, keysOk s.keys = true → step s = .next t → keysOk t.keys = true

/-- Every step keeps the laws of the Output Stage: 0 to 8 items with no twin markers, IDLE empty,
FILLING below its threshold, RUNNING not empty, a request waiting only while nothing is eligible, and the
port presenting the item in delivery. -/
def Obligations.everyStepKeepsTheOutputLaws : Prop :=
  ∀ s t : State, outputsOk s.outputs = true → step s = .next t → outputsOk t.outputs = true

/-- Every step keeps the billing laws, from every state in which they hold: F ≤ H, R the sum of P over
the BOUGHT entries, records and BOUGHT entries at most 10, T + R ≤ K in OCCUPIED, no film twice,
consecutive serials, no films and records in STARTING and VACANT, no entry marked but the one that
answered for the cell in judging (R27, R75), and the boundaries a soft reset followed among those not yet
closed (R69). The one step left out is a RESTORE of a snapshot with a STAY_CLOSED record and entitlements
both, which the part never emits (notes/assumptions/26.md). -/
def Obligations.everyStepKeepsTheBillingLaws : Prop :=
  ∀ s t : State, billingOk s = true → descramblerOk s.descrambler = true →
    (∀ rest, s.pending = .restore :: rest → restoreSound s = true) →
    step s = .next t → billingOk t = true ∧ descramblerOk t.descrambler = true

/-- Every step keeps the laws of the Loop Station: address 0 exactly in OFF, a turn only in MEMBER, the
timers with the states they belong to, one reservation at most, every window in the phase of its name. So
no turn phase and no RESERVED buffer is ever without the one window that ends it, open, on its way or
being answered (sections 8.4 and 8.7). LDE asserted exactly while a packet is queued to be sent is the
model's choice (notes/assumptions/25.md), and so are the phase and the exchange while the passing step is
due (notes/assumptions/10.md). -/
def Obligations.everyStepKeepsTheLoopLaws : Prop :=
  ∀ s t : State, loopOk s.loop = true → step s = .next t → loopOk t.loop = true

/-- Every step keeps the laws of the Set Link Port: the FIFO's 64 bytes with CTS by its hysteresis, the
report queue's 16 places with one SNAPSHOT and one FEED_STATE at most, the slot SENDING exactly while
a reply is on the line, the inter-byte timer armed exactly in ASSEMBLING, where it runs out only with the
FIFO empty (R165). That one to all of the bytes of a frame on STX have begun rests on the choice of a frame
and its first byte being one step, which is the model's (notes/assumptions/27.md). -/
def Obligations.everyStepKeepsTheLinkLaws : Prop :=
  ∀ s t : State, linkOk s.link = true → step s = .next t → linkOk t.link = true

/-! ### Layouts and RESTORE -/

/-- A packet's bytes are judged to be that packet, whatever characters follow them before the line
falls idle (R125, R126, section 12.2). On LTX each byte of the packet being sent is a character of 10 bits,
back to back: a start bit, the data bits with the least significant first, and one stop bit (R125). The
body of a posting record is 13 bytes and that of a ROOM_REPORT
32, each with its fields where section 12.2 places them, most significant byte first (R158, R159). -/
def Obligations.packetsReadBackAsSent : Prop :=
  (∀ (p : LoopPacket) (rest : List Byte), packetFits p = true →
    judgePacket (packetBytes p ++ rest) = some p) ∧
  (∀ p rest, ltxCharacters (p :: rest) = (packetBytes p.packet).map fun b =>
    [false, b.getLsbD 0, b.getLsbD 1, b.getLsbD 2, b.getLsbD 3, b.getLsbD 4, b.getLsbD 5, b.getLsbD 6,
      b.getLsbD 7, true]) ∧
  (∀ (stay : Nat) (r : Record),
    let b := recordBody stay r
    let carries (first count value : Nat) := value < 256 ^ count → field b first count = value
    b.length = 13 ∧
    carries 1 1 (match r.kind with
      | .charge => 0x20
      | .credit => 0x21
      | .stayClosed => 0x22) ∧
    carries 2 2 stay ∧ carries 4 2 r.serial ∧ carries 6 2 r.film ∧ carries 8 3 r.amount ∧
    carries 11 3 r.minute) ∧
  (∀ s : State,
    let b := roomReportBody s
    let carries (first count value : Nat) := value < 256 ^ count → field b first count = value
    b.length = 32 ∧ carries 1 1 0x23 ∧ carries 2 1 s.loop.address ∧
    carries 3 1 (match s.stay.room with
      | .starting => 0
      | .vacant => 1
      | .occupied => 2
      | .closing => 3) ∧
    carries 4 2 s.stay.stay ∧
    carries 6 2 (match s.stay.pendingCheckIn with
      | some p => p.stay
      | none => 0) ∧
    carries 8 3 s.folio.total ∧ carries 11 3 s.folio.reserved ∧ carries 14 3 s.folio.cap ∧
    carries 17 1 s.folio.queue.length ∧ carries 18 1 (liveEntries s.folio.entries).length ∧
    carries 19 1 s.gate.roomCeiling ∧ carries 20 1 s.gate.hardCeiling ∧
    carries 21 1 ((if s.gate.unlockExpiry = none then 0 else 4) +
      (if s.gate.lockoutExpiry = none then 0 else 2) + (if s.gate.pin = none then 0 else 1)) ∧
    carries 22 1 (if s.clock.set then 1 else 0) ∧
    carries 23 3 (if s.clock.set then s.clock.minute else 0) ∧
    carries 26 1 (match s.feed.state with
      | .noFeed => 0
      | .searching => 1
      | .locked => 2) ∧
    carries 27 2 s.loop.rebuildCount ∧ carries 29 2 s.folio.tariffFull ∧ carries 31 2 s.desk.malformed)

/-- A snapshot's bytes lie where section 12.4 places them, most significant byte first, read back as its
fields, their check sum matches, and their number is the one that R179 calls for. -/
def Obligations.snapshotsReadBackAsWritten : Prop :=
  ∀ x : Snapshot, snapshotFits x = true →
    parseSnapshot (snapshotBytes x) = x ∧ snapshotCheckOk (snapshotBytes x) = true ∧
      (snapshotBytes x).length = 24 + x.digits.length + 12 * x.entries.length + 10 * x.records.length ∧
      lengthCalledFor 0x11 (snapshotBytes x) = some (snapshotBytes x).length ∧
      (let b := snapshotBytes x
       let n := x.digits.length
       let lies (first count value : Nat) := field b first count = value
       lies 1 2 x.stay ∧ lies 3 1 x.closing ∧ lies 4 3 x.total ∧ lies 7 3 x.cap ∧ lies 10 1 x.quality ∧
       lies 11 2 x.nextSerial ∧ lies 13 1 (16 * x.roomCeiling + x.hardCeiling) ∧ lies 14 2 x.grace ∧
       lies 16 2 x.previewAllowance ∧ lies 18 1 x.unlockDuration ∧ lies 19 1 x.lockoutLength ∧
       lies 20 1 x.entries.length ∧ lies 21 1 x.records.length ∧ lies 22 1 n ∧
       (∀ (i : Nat) d, x.digits[i]? = some d → lies (23 + i) 1 d) ∧
       (∀ (i : Nat) e, x.entries[i]? = some e →
         let first := 23 + n + 12 * i
         lies first 2 e.film ∧ lies (first + 2) 1 e.state ∧ lies (first + 3) 2 e.price ∧
         lies (first + 5) 2 e.clear ∧ lies (first + 7) 2 e.impaired ∧ lies (first + 9) 3 e.windowEnd) ∧
       (∀ (i : Nat) r, x.records[i]? = some r →
         let first := 23 + n + 12 * x.entries.length + 10 * i
         lies first 2 r.serial ∧ lies (first + 2) 2 (16384 * r.kind + 4096 * r.spare + r.film) ∧
         lies (first + 4) 3 r.amount ∧ lies (first + 7) 3 r.minute) ∧
       lies (b.length - 1) 2 (byteSum (b.take (b.length - 2)) % 65536))

/-- RESTORE's checks: the seven of R175, in their order, with the contents' form as R175 and R180 list
it; the first that fails is answered with its cause, and a refused RESTORE changes only the reply. A
snapshot the part emits with a stay number other than 0 passes them all in a room that is STARTING. -/
def Obligations.anEmittedSnapshotIsAccepted : Prop :=
  (∀ s : State, billingOk s = true → s.stay.stay ≠ 0 →
    restoreCause .starting (snapshotBytes (snapshotOf s)) = none) ∧
  (∀ (s : State) (f : Frame), requested 0x11 f s →
    let x := parseSnapshot f.body
    let n := f.body.length
    let refused (cause : RestoreCause) := exec .restore s = .next { s with
      link := replied f .restoreRefused (.refusedFor cause) s.link }
    let sums := field f.body (n - 1) 2 = byteSum (f.body.take (n - 2)) % 65536
    let formed := x.closing ≤ 1 ∧
      (x.digits = [] ∨ (4 ≤ x.digits.length ∧ x.digits.length ≤ 8)) ∧ (∀ d, d ∈ x.digits → d ≤ 9) ∧
      (∀ e, e ∈ x.entries → 1 ≤ e.state ∧ e.state ≤ 3 ∧ 1 ≤ e.film ∧ e.film ≤ 4095 ∧ e.price ≤ 60000) ∧
      (x.entries.map (·.film)).Nodup ∧ x.total ≤ 9999999 ∧
      (∀ r, r ∈ x.records → r.kind ≠ 0 ∧ r.spare = 0 ∧ 1 ≤ r.serial ∧ (r.kind = 3 ↔ r.film = 0)) ∧
      1 ≤ x.nextSerial ∧ x.nextSerial ≤ 65535 ∧
      (∀ i r, x.records[i]? = some r →
        (match x.records[i + 1]? with
          | some r' => r'.serial
          | none => x.nextSerial) = (if 65535 ≤ r.serial then 1 else r.serial + 1)) ∧
      (∀ i r, x.records[i]? = some r → r.kind = 3 → i + 1 = x.records.length ∧ x.closing = 1) ∧
      (x.closing = 1 → ∀ e, e ∈ x.entries → e.state = 3)
    let bought := x.entries.filter fun e => e.state == 1
    let owed := x.total + (bought.map (·.price)).sum
    (s.stay.room ≠ .starting → refused .notStarting) ∧
    (s.stay.room = .starting → (¬ sums → refused .badCheck) ∧
      (sums → (x.stay = 0 → refused .noStay) ∧
        (x.stay ≠ 0 → (8 < x.entries.length ∨ 10 < x.records.length → refused .overCapacity) ∧
          (x.entries.length ≤ 8 → x.records.length ≤ 10 → (¬ formed → refused .badContent) ∧
            (formed → (10 < x.records.length + bought.length → refused .queueLaw) ∧
              (x.records.length + bought.length ≤ 10 →
                (min x.cap 9999999 < owed → refused .overCap) ∧
                (owed ≤ min x.cap 9999999 → restoreCause s.stay.room f.body = none))))))))

/-- RESTORE of a snapshot that passes every check (R176): the blocks take its values, each brought into
its range, the records in its order and the entitlements in places 0 upward, of which those in SETTLING
have their credit computed anew and settle in place order; under the closing mark the room goes on
closing (R177). Reports, a snapshot and the reply follow, and nothing else changes. So a snapshot emitted
in OCCUPIED with no entry in SETTLING brings back the stay, the amounts, the queue, the paid films and the
lock values it was taken from. -/
def Obligations.restoreBringsBackTheBilling : Prop :=
  (∀ (t : State) (f : Frame), requested 0x11 f t → restoreCause t.stay.room f.body = none →
    let x := parseSnapshot f.body
    let p : StayParams := {
      stay := x.stay, cap := x.cap, roomCeiling := x.roomCeiling, hardCeiling := x.hardCeiling
      pin := if x.digits = [] then none else some x.digits, unlockDuration := x.unlockDuration
      lockoutLength := x.lockoutLength, previewAllowance := x.previewAllowance, grace := x.grace
      quality := x.quality }
    let quality := max 1 (min x.quality 100)
    let entry (e : SnapEntry) : Entry := {
      film := e.film
      state := if e.state = 1 then .bought else if e.state = 2 then .charged else .settling
      previewUsed := min x.previewAllowance 600, price := some e.price, clear := e.clear
      impaired := e.impaired, windowEnd := some e.windowEnd, lastPresented := t.folio.feedSecond
      seenClear := false, seenFail := false, chargeSerial := none
      credit := if e.state = 3 then some (creditAmount e.price e.clear e.impaired quality) else none }
    let record (r : SnapRecord) : Record := {
      serial := r.serial, kind := if r.kind = 1 then .charge else if r.kind = 2 then .credit else .stayClosed
      film := r.film, amount := r.amount, minute := r.minute }
    let placed := stayChangeTold [] { t with
      stay := { t.stay with
        room := .occupied, stay := x.stay, previewAllowance := min x.previewAllowance 600
        grace := min x.grace 900, startTimer := none }
      gate := gateFor p
      folio := { t.folio with
        total := x.total, cap := min x.cap 9999999, quality := quality, nextSerial := x.nextSerial
        queue := x.records.map record
        entries := x.entries.map (some ∘ entry) ++ List.replicate (8 - x.entries.length) none
        reserved := ((x.entries.filter fun e => e.state == 1).map (·.price)).sum } }
    let settled := settleWaiting placed
    let resumed : State := { settled with
      stay := { settled.stay with closureQueued := t.stay.closureQueued ||
        (x.records.any fun r => r.kind == 3) } }
    let shut := stayChangeTold [] { resumed with
      stay := { resumed.stay with room := .closing }, gate := gateVacated resumed.gate }
    let ends (u : State) :=
      let v : State := { u with folio := { u.folio with snapshotSeconds := 0 } }
      exec .restore t = .next { v with
        link := replied f .ok (.restored v.stay.room x.stay v.folio.total v.folio.reserved v.folio.cap
            (liveEntries v.folio.entries).length v.folio.queue.length)
          (queueReport (snapshotTold v) (queueReport (stayTold .restored false v) v.link)) }
    (x.closing ≠ 1 → ends resumed) ∧
    (x.closing = 1 → (closes shut → ends (closureQueuedState shut)) ∧ (¬ closes shut → ends shut)) ∧
    ((∀ e, e ∈ x.entries → e.state ≠ 3) → settled = placed)) ∧
  (∀ (s t : State) (f : Frame), billingOk s = true → s.stay.room = .occupied →
    anySettling s.folio.entries = false → billingOk t = true → t.stay.room = .starting →
    requested 0x11 f t → f.body = snapshotBytes (snapshotOf s) →
    ∃ u, exec .restore t = .next u ∧
      u.stay = { room := .occupied, stay := s.stay.stay, previewAllowance := s.stay.previewAllowance
                 grace := s.stay.grace, pendingCheckIn := none, closureQueued := false
                 startTimer := none } ∧
      u.gate = { s.gate with unlockExpiry := none, lockoutExpiry := none, failures := 0 } ∧
      u.folio.total = s.folio.total ∧ u.folio.reserved = s.folio.reserved ∧
      u.folio.cap = s.folio.cap ∧ u.folio.quality = s.folio.quality ∧
      u.folio.nextSerial = s.folio.nextSerial ∧ u.folio.queue = s.folio.queue ∧
      liveEntries u.folio.entries =
        ((liveEntries s.folio.entries).filter fun e => e.state != .preview).map (fun e =>
          { e with previewUsed := s.stay.previewAllowance, lastPresented := t.folio.feedSecond
                   seenClear := false, seenFail := false, chargeSerial := none, answered := false }))

/-! ### Rules of the whole part -/

/-- No cell whose rating exceeds the effective ceiling when it is judged (R53), and no film cell that
the film's entitlement does not allow (R72), is placed in an output queue as a cell: the CELL items of
each queue after the verdict were all there before it. A cell whose answer stands already got it from a
CELL_VERDICT at which the ceiling and the entitlement allowed it (R26, R27). -/
def Obligations.noForbiddenCellIsQueued : Prop :=
  (∀ (order : VerdictOrder) (s t : State) (j : Judging), s.descrambler.judging = some j →
    j.answered = false → exec (.cellVerdict order) s = .next t →
    (effectiveCeiling s.gate < j.cell.rating ∨ (j.cell.film ≠ 0 ∧ mayShow s j.cell = false)) →
    ∀ ix, ((outputAt t.outputs ix).queue.filter isIntact).Sublist
      ((outputAt s.outputs ix).queue.filter isIntact)) ∧
  (∀ (c : Instr) (s t : State) (j : Judging), exec c s = .next t → t.descrambler.judging = some j →
    j.answered = true → ∃ before, s.descrambler.judging = some before ∧ before.cell = j.cell ∧
      (before.answered = true ∨
        ((∃ order, c = .cellVerdict order) ∧ j.cell.rating ≤ effectiveCeiling s.gate ∧
          j.cell.film ≠ 0 ∧ mayShow s j.cell = true)))

/-- A key delivery or withdrawal never changes the slot whose parity is its group's active parity, nor
the active parity (R19). -/
def Obligations.theActiveKeyNeverChanges : Prop :=
  ∀ (c : Instr) (s t : State), (c = .keyDelivery ∨ c = .keyWithdrawal) → exec c s = .next t →
    ∀ (i : Nat) (p : Parity), (keyGroup s.keys i).active = some p →
      keySlot (keyGroup t.keys i) p = keySlot (keyGroup s.keys i) p ∧
        (keyGroup t.keys i).active = some p

/-- The keys and the tariffs belong to the television and not to the stay (R16, R90): no command but
KEY_DELIVERY, KEY_WITHDRAWAL and POWER_ON_RESET changes a key slot, and no command but TARIFF_SET,
TARIFF_REMOVE and POWER_ON_RESET changes the tariff table or its count. -/
def Obligations.keysAndTariffsBelongToTheTelevision : Prop :=
  ∀ (c : Instr) (s t : State), exec c s = .next t → (∀ a b, c ≠ .powerOnReset a b) →
    (c ≠ .keyDelivery → c ≠ .keyWithdrawal → ∀ (i : Nat) (p : Parity),
      keySlot (keyGroup t.keys i) p = keySlot (keyGroup s.keys i) p) ∧
    (c ≠ .tariffSet → c ≠ .tariffRemove →
      t.folio.tariffs = s.folio.tariffs ∧ t.folio.tariffFull = s.folio.tariffFull)

/-- A record leaves the posting queue only on the desk's acknowledgement, on vacate-now or at power-on
reset (R105): after any other command the queue begins with the records it held, in their order. -/
def Obligations.recordsLeaveOnlyOnAcknowledgement : Prop :=
  ∀ (c : Instr) (s t : State), billingOk s = true → exec c s = .next t →
    c ≠ .dataAckReceived → c ≠ .vacateNow → (∀ a b, c ≠ .powerOnReset a b) →
    s.folio.queue <+: t.folio.queue

/-- An unlock begins only by UNLOCK with the room's PIN, in OCCUPIED, with the House Clock SET and no
lockout in force (R58). -/
def Obligations.onlyTheRoomsPinUnlocks : Prop :=
  ∀ (c : Instr) (s t : State), exec c s = .next t → s.gate.unlockExpiry = none →
    t.gate.unlockExpiry.isSome = true →
    c = .unlock ∧ s.stay.room = .occupied ∧ s.clock.set = true ∧ s.gate.lockoutExpiry = none ∧
      ∃ f, heldRequest 0x08 s = some f ∧ s.gate.pin = some (bodyPin f.body 1)

/-! ### The programme feed -/

/-- FEED_BYTE: outside LOCKED, and after the 140th byte of a slot, it is discarded (R4, R5, R7); before
the last byte it joins the cell in progress. -/
def Obligations.aByteJoinsTheOpenSlot : Prop :=
  ∀ (b : Byte) (s : State),
    (s.feed.state ≠ .locked → exec (.feedByte b) s = .next s) ∧
    (∀ bs, s.feed.state = .locked → s.feed.cell = some bs → 140 ≤ bs.length →
      exec (.feedByte b) s = .next s) ∧
    (∀ bs, s.feed.state = .locked → s.feed.cell = some bs → bs.length < 139 →
      exec (.feedByte b) s = .next { s with feed := { s.feed with cell := some (bs ++ [b]) } })

/-- FEED_BYTE, the 140th of a slot: the cell is judged at once. A header fault (R8) is counted; a cell
of another slot number (R9) is counted, and the third in a row costs the lock; any other cell is
accepted, a guide cell into a GUIDE_DATA report when subscribed (R11), the rest to the Cell Descrambler
(R10). The cell's fields are those section 12.1 places in its bytes. A cell handed on carries the count of the feed seconds that close before it, which is the model's
way of ordering them (notes/assumptions/8.md). -/
def Obligations.theLastByteJudgesTheCell : Prop :=
  ∀ (b : Byte) (s : State) (bs : List Byte), s.feed.state = .locked → s.feed.cell = some bs →
    bs.length = 139 →
    let c := parseCell (bs ++ [b])
    let byte (i : Nat) := (bs ++ [b]).getD (i - 1) 0
    let feed := { s.feed with cell := some (bs ++ [b]) }
    let fault := c.headerXor ≠ c.headerCheck ∨ c.mode = .invalid ∨ c.spare ≠ 0 ∨
      (c.service = 0 ∧ c.film ≠ 0)
    let missed := { s.feed.counts with slotMismatches := satInc s.feed.counts.slotMismatches }
    ((byte 1).toNat = c.slot ∧ (byte 2).toNat = c.service ∧
      (byte 3).toNat = c.film / 16 ∧
      (byte 4).toNat = 16 * (c.film % 16) + 2 * c.rating + (if c.barred then 1 else 0) ∧ c.rating ≤ 7 ∧
      (byte 5).toNat = 16 * c.group + 4 * (match c.mode with
        | .clear => 0
        | .even => 1
        | .odd => 2
        | .invalid => 3) + c.spare ∧ c.spare ≤ 3 ∧
      (byte 6).toNat = c.frameSeq ∧ (byte 7).toNat = c.continuity ∧ byte 8 = c.headerCheck ∧
      c.headerXor = byte 1 ^^^ byte 2 ^^^ byte 3 ^^^ byte 4 ^^^ byte 5 ^^^ byte 6 ^^^ byte 7 ∧
      c.payload.length = 128 ∧ (∀ i, i < 128 → c.payload.getD i 0 = byte (9 + i)) ∧
      c.check = byte 137 ++ byte 138 ++ byte 139 ++ byte 140) ∧
    (fault → exec (.feedByte b) s = .next { s with feed := { feed with
      counts := { s.feed.counts with headerFaults := satInc s.feed.counts.headerFaults } } }) ∧
    (¬ fault → c.slot ≠ s.feed.slot → s.feed.mismatchRun < 2 →
      exec (.feedByte b) s = .next { s with feed := { feed with
        mismatchRun := s.feed.mismatchRun + 1, counts := missed } }) ∧
    (¬ fault → c.slot ≠ s.feed.slot → 2 ≤ s.feed.mismatchRun →
      exec (.feedByte b) s = .next { s with
        feed := { feed with state := .searching, mismatchRun := 0, cell := none, counts := missed }
        link := queueReport (.feedState .searching .slotMismatch missed) s.link }) ∧
    (¬ fault → c.slot = s.feed.slot → c.service ≠ 0 →
      exec (.feedByte b) s = .next { s with
        feed := { feed with mismatchRun := 0 }
        descrambler := { s.descrambler with
          handedOn := s.descrambler.handedOn ++ [⟨c, s.folio.closesDue⟩] } }) ∧
    (¬ fault → c.slot = s.feed.slot → c.service = 0 →
      exec (.feedByte b) s = .next { s with
        feed := { feed with mismatchRun := 0 }
        link := if s.link.guide then
            queueReport (.guideData c.frameSeq c.continuity c.payload c.check) s.link
          else s.link })

/-- FRAME_MARK and SLOT_MARK in the three states: out of NO_FEED (R4), alignment (R5), and in LOCKED the
runt count, the slot counter, the frame overrun and the feed second (R6, R7, R12). -/
def Obligations.marksKeepTheSlots : Prop :=
  ∀ (s : State) (fslt : Bool) (c : Instr), (c = .frameMark fslt ∨ c = .slotMark) →
    let running := some 10000
    (s.feed.state = .noFeed → exec c s = .next { s with
      feed := { s.feed with state := .searching, lossTimer := running, cell := none }
      link := queueReport (.feedState .searching .markSeen s.feed.counts) s.link }) ∧
    (s.feed.state = .searching → c = .slotMark →
      exec c s = .next { s with feed := { s.feed with lossTimer := running } }) ∧
    (s.feed.state = .searching → c = .frameMark fslt → exec c s = .next { s with
      feed := { s.feed with state := .locked, lossTimer := running, slot := 0, cell := some [] }
      link := queueReport (.feedState .locked .frameAligned s.feed.counts) s.link }) ∧
    (∀ bs, s.feed.state = .locked → s.feed.cell = some bs →
      let counts := if 1 ≤ bs.length ∧ bs.length ≤ 139 then
          { s.feed.counts with runts := satInc s.feed.counts.runts } else s.feed.counts
      let opened := { s.feed with counts := counts, cell := some [], lossTimer := running }
      let overrun := { counts with frameOverruns := satInc counts.frameOverruns }
      (c = .frameMark fslt → s.feed.frameCount < 499 → exec c s = .next { s with
        feed := { opened with slot := 0, frameCount := s.feed.frameCount + 1 } }) ∧
      (c = .frameMark fslt → 499 ≤ s.feed.frameCount → exec c s = .next { s with
        feed := { opened with slot := 0, frameCount := 0 }
        folio := { s.folio with closesDue := s.folio.closesDue + 1 } }) ∧
      (c = .slotMark → s.feed.slot < 47 → exec c s = .next { s with
        feed := { opened with slot := s.feed.slot + 1 } }) ∧
      (c = .slotMark → 47 ≤ s.feed.slot → exec c s = .next { s with
        feed := { opened with state := .searching, mismatchRun := 0, cell := none, counts := overrun }
        link := queueReport (.feedState .searching .frameOverrun overrun) s.link }))

/-- FEED_LOSS_TIMER_EXPIRY (R3): NO_FEED, the cell discarded and the run 0, the loss counted and
reported; one NO_SIGNAL marker to each tuned output, by its admission, which answers a request that waits
at the output it makes eligible first (R39, R47), in the order R39 leaves open (notes/assumptions/7.md).
With gap owed set the grant comes after both items of the pair (notes/assumptions/11.md). While the tracker
is in NO_FEED no command hands a cell on and none makes one reach the Cell Descrambler (R3). -/
def Obligations.theFeedIsLost : Prop :=
  (∀ (insetFirst : Bool) (s : State) (d : Nat), s.feed.lossTimer = some d →
    let counts := { s.feed.counts with feedLosses := satInc s.feed.counts.feedLosses }
    let marked (ix : OutputIx) :=
      if (outputAt s.outputs ix).state = .idle then outputAt s.outputs ix
      else admitItem (.marker .noSignal) 0 (outputAt s.outputs ix)
    ∃ outs, exec (.feedLossTimerExpiry insetFirst) s = .next { s with
        feed := { s.feed with
          state := .noFeed, lossTimer := none, cell := none, mismatchRun := 0, counts := counts }
        outputs := outs
        link := queueReport (.feedState .noFeed .feedLost counts) s.link } ∧
      (∀ ix, (outputAt s.outputs ix).state = .idle → outputAt outs ix = outputAt s.outputs ix) ∧
      (nothingToGrant s.outputs → outs = stageAfter marked s.outputs) ∧
      (requestWaits s.outputs → answersWaiting insetFirst marked s.outputs outs)) ∧
  (∀ (c : Instr) (s t : State), s.feed.state = .noFeed → exec c s = .next t →
    (∀ j, t.descrambler.judging = some j →
      ∃ before, s.descrambler.judging = some before ∧ before.cell = j.cell) ∧
    (t.descrambler.handedOn = [] ∨
      t.descrambler.handedOn.map (·.cell) = s.descrambler.handedOn.map (·.cell)))

/-! ### Keys and descrambling -/

/-- CELL_ARRIVAL outside NO_FEED (R3, R20, R24): the oldest cell handed on reaches the descrambler with a
copy of the slot its header names; a LOADED slot of the parity not active makes its parity active, with a
KEY_EVENT SWITCHED; the outputs tuned to its service are decided, and with neither the cell is dropped.
The order of arrivals and waiting requests is that of notes/assumptions/8.md. -/
def Obligations.aCellArrives : Prop :=
  ∀ (s : State) (h : HandedCell) (rest : List HandedCell), s.descrambler.handedOn = h :: rest →
    s.descrambler.judging = none → s.feed.state ≠ .noFeed → (∀ f, s.link.slot ≠ .serving f) →
    let c := h.cell
    let g := keyGroup s.keys c.group
    let key := match c.mode with
      | .even => g.even
      | .odd => g.odd
      | _ => none
    let tuned (ix : OutputIx) := (outputAt s.outputs ix).state != .idle &&
      (outputAt s.outputs ix).service == some c.service
    let descrambler : Descrambler := {
      handedOn := rest
      judging := if tuned .main || tuned .inset then
        some ⟨c, h.closesAhead, key, tuned .main, tuned .inset, false⟩ else none }
    let stays := exec .cellArrival s = .next { s with descrambler := descrambler }
    let switches (p : Parity) (k : LoadedKey) := exec .cellArrival s = .next { s with
      descrambler := descrambler
      keys := { s.keys with groups := s.keys.groups.set c.group { g with active := some p } }
      link := queueReport (.keyEvent c.group (if p = .even then 0 else 1) .switched k.epoch (some p)
        s.keys.counts) s.link }
    (key = none → stays) ∧
    (∀ k, key = some k → c.mode = .even → if g.active = some .even then stays else switches .even k) ∧
    (∀ k, key = some k → c.mode = .odd → if g.active = some .odd then stays else switches .odd k)

/-- The keystream and the clear words (R29): thirty-two words, each from the one before it, the first
from U XOR the mix; a clear word is the received word XOR its keystream word, and is written back to the
payload with its first byte most significant; a CLEAR cell's words are as received. The cell is CELL where
the clear words' XOR is the check word, and CHECK_FAIL elsewhere (R30). -/
def Obligations.theKeystreamIsR29 : Prop :=
  ∀ (k : LoadedKey) (c : Cell),
    let mix := BitVec.ofNat 32 (c.service * 65536 + c.frameSeq * 256 + c.slot)
    let word (n : Nat) : Word := if n = 0 then k.upper ^^^ mix else (keystream k c).getD (n - 1) 0
    (keystream k c).length = 32 ∧
    (∀ n, n < 32 → word (n + 1) = word n * 3740067437#32 + (k.lower ||| 1#32)) ∧
    (1 ≤ c.service → c.service ≤ 255 → c.frameSeq ≤ 255 → c.slot ≤ 47 →
      65536 ≤ mix.toNat ∧ mix.toNat ≤ 16777007) ∧
    (c.mode = .clear → clearWords c (some k) = some (wordsOf c.payload)) ∧
    (c.payload.length = 128 → c.mode = .even ∨ c.mode = .odd → ∃ ws, clearWords c (some k) = some ws ∧
      ws.length = 32 ∧ (bytesOf ws).length = 128 ∧
      (∀ n, n < 32 →
        ws.getD n 0 = bytesWord ((c.payload.drop (4 * n)).take 4) ^^^ word (n + 1) ∧
        ws.getD n 0 = bytesWord (((bytesOf ws).drop (4 * n)).take 4)) ∧
      descramble c (some k) =
        if xorWords ws = c.check then .cell c.service c.film (bytesOf ws) else .marker .checkFail)

/-- CELL_VERDICT, of a cell above the ceiling or of no film: the verdict is LOCKED (R26), KEY_MISSING
(R28), the CELL where the clear words match the check word or CHECK_FAIL (R30); it reaches every output
the cell named and the Folio Unit hears nothing of it (R31, R32). A CLEAR cell thus joins a RUNNING
output's queue, which expects the next continuity value (R40, R42). While a request waits, an item that the
continuity check makes available is granted before any verdict item, and otherwise the verdict item answers
it at the output made eligible first (R25, R47), in the orders R25 and R31 leave open
(notes/assumptions/7.md). With gap owed set the grant comes after both items of the pair
(notes/assumptions/11.md). -/
def Obligations.aClearCellReachesItsOutput : Prop :=
  (∀ (order : VerdictOrder) (s : State) (j : Judging), s.descrambler.judging = some j →
    j.answered = false → (j.cell.film = 0 ∨ j.closesAhead = 0) →
    let reaches (item : Item) := judgedAs order s j item s.folio.entries
    (effectiveCeiling s.gate < j.cell.rating → reaches (.marker .locked)) ∧
    (j.cell.rating ≤ effectiveCeiling s.gate → j.cell.film = 0 →
      ((j.cell.mode = .even ∨ j.cell.mode = .odd) → j.key = none → reaches (.marker .keyMissing)) ∧
      (∀ ws, clearWords j.cell j.key = some ws →
        (xorWords ws = j.cell.check → reaches (.cell j.cell.service 0 (bytesOf ws))) ∧
        (xorWords ws ≠ j.cell.check → reaches (.marker .checkFail))))) ∧
  (∀ (order : VerdictOrder) (s : State) (j : Judging) (ix : OutputIx),
    s.descrambler.judging = some j → j.answered = false → j.cell.film = 0 →
    j.cell.rating ≤ effectiveCeiling s.gate → j.cell.mode = .clear → j.cell.payload.length = 128 →
    xorWords (wordsOf j.cell.payload) = j.cell.check →
    (j.toMain = (ix == .main) ∧ j.toInset = (ix == .inset)) →
    (outputAt s.outputs ix).state = .running → (outputAt s.outputs ix).gapOwed = false →
    (outputAt s.outputs ix).queue.length < 8 → s.outputs.requestHeld = false →
    ((outputAt s.outputs ix).expected = none ∨
      (outputAt s.outputs ix).expected = some j.cell.continuity) →
    exec (.cellVerdict order) s = .next { s with
      descrambler := { s.descrambler with judging := none }
      outputs := setOutputAt s.outputs ix { outputAt s.outputs ix with
        queue := (outputAt s.outputs ix).queue ++ [.cell j.cell.service 0 j.cell.payload]
        expected := some ((j.cell.continuity + 1) % 256) } }) ∧
  (∀ (order : VerdictOrder) (s t : State) (j : Judging) (ix other : OutputIx),
    s.descrambler.judging = some j → j.answered = false → (j.cell.film = 0 ∨ j.closesAhead = 0) →
    exec (.cellVerdict order) s = .next t →
    s.outputs.requestHeld = true → s.outputs.delivering = none → ix ≠ other →
    eligible s.outputs.main = false → eligible s.outputs.inset = false →
    let checked (i : OutputIx) := takeContinuity j.cell.continuity (outputAt s.outputs i)
    let offers (i : OutputIx) := judgedFor j i = true ∧ (outputAt s.outputs i).state ≠ .idle ∧
      eligible (checked i) = true
    offers ix → ¬ offers other →
    ∃ item, (checked ix).queue.head? = some item ∧ t.outputs.delivering = some (ix, item) ∧
      t.outputs.port = portBytes ix item ∧ t.outputs.requestHeld = false)

/-- CELL_VERDICT of a film cell within the ceiling: with an entry that may show it, the verdict sets one
flag of that entry, seen-clear when the clear words match the check word and seen-fail when they do not
or the key is missing (R32, R72, R75); with one that may not, it is PREVIEW_ENDED or NOT_ENTITLED and no
entry changes (R72); a film with no entry gets a PREVIEW entry in the lowest free place (R73), else in the
place of the evictable entry presented longest ago (R74), else NOT_ENTITLED, as in any room that is not
OCCUPIED (R71). The verdict item reaches the outputs the cell named (R31), and answers a request that waits
as R47 says, in the orders R25 and R31 leave open (notes/assumptions/7.md); with gap owed set the grant
comes after both items of the pair (notes/assumptions/11.md). Where other events come between the answer
and the verdict (notes/assumptions/7.md), the answer marks the entry, and the verdict sets the flag of the
entry so marked in whatever state it is; once that entry has been removed the report is discarded, and the
item reaches the outputs all the same (R27, R32, R75). -/
def Obligations.aFilmVerdictSetsOneFlag : Prop :=
  (∀ (order : VerdictOrder) (s : State) (j : Judging),
    s.descrambler.judging = some j → j.answered = false → j.cell.film ≠ 0 → j.closesAhead = 0 →
    j.cell.rating ≤ effectiveCeiling s.gate →
    let es := s.folio.entries
    let reaches (item : Item) (entries : List (Option Entry)) :=
      judgedAs order s j item entries
    let shows (i : Nat) (e : Entry) :=
      let clear := es.set i (some { e with seenClear := true })
      let failed := es.set i (some { e with seenFail := true })
      (order.pausesAfterAnswer = true →
        answeredWith order s j (es.set i (some { e with answered := true }))) ∧
      (order.pausesAfterAnswer = false → (j.cell.mode = .even ∨ j.cell.mode = .odd) → j.key = none →
        reaches (.marker .keyMissing) failed) ∧
      (∀ ws, order.pausesAfterAnswer = false → clearWords j.cell j.key = some ws →
        (xorWords ws = j.cell.check →
          reaches (.cell j.cell.service j.cell.film (bytesOf ws)) clear) ∧
        (xorWords ws ≠ j.cell.check → reaches (.marker .checkFail) failed))
    let fresh : Entry := {
      film := j.cell.film, state := .preview, previewUsed := 0, price := none, clear := 0
      impaired := 0, windowEnd := none, lastPresented := s.folio.feedSecond, seenClear := false
      seenFail := false, chargeSerial := none, credit := none }
    let begins (i : Nat) :=
      (s.stay.previewAllowance = 0 → reaches (.marker .previewEnded) (es.set i (some fresh))) ∧
      (0 < s.stay.previewAllowance → j.cell.barred = true →
        reaches (.marker .notEntitled) (es.set i (some fresh))) ∧
      (0 < s.stay.previewAllowance → j.cell.barred = false → shows i fresh)
    let evictableAt (i second : Nat) := ∃ e, es[i]? = some (some e) ∧ e.state = .preview ∧
      e.seenClear = false ∧ e.seenFail = false ∧ e.lastPresented = second
    (s.stay.room ≠ .occupied → reaches (.marker .notEntitled) es) ∧
    (s.stay.room = .occupied →
      (∀ i e, placeOf es j.cell.film = some i → entryAt s.folio i = some e →
        (entryShows s.stay.previewAllowance j.cell.barred e = true → shows i e) ∧
        (e.state = .preview → s.stay.previewAllowance ≤ e.previewUsed →
          reaches (.marker .previewEnded) es) ∧
        (e.state = .preview → e.previewUsed < s.stay.previewAllowance → j.cell.barred = true →
          reaches (.marker .notEntitled) es) ∧
        (e.state = .settling → reaches (.marker .notEntitled) es)) ∧
      (placeOf es j.cell.film = none →
        (∀ i, es[i]? = some none → (∀ k : Nat, k < i → es[k]? ≠ some none) → begins i) ∧
        ((∀ k : Nat, es[k]? ≠ some none) →
          (∀ i second, evictableAt i second → (∀ k other, evictableAt k other → second ≤ other) →
            (∀ k, k < i → ¬ evictableAt k second) → begins i) ∧
          ((∀ k second, ¬ evictableAt k second) → reaches (.marker .notEntitled) es))))) ∧
  (∀ (order : VerdictOrder) (s : State) (j : Judging),
    s.descrambler.judging = some j → j.answered = true → (j.cell.film = 0 ∨ j.closesAhead = 0) →
    let es := s.folio.entries
    let ends (item : Item) (intact : Bool) :=
      (∀ (i : Nat) e, es[i]? = some (some e) → e.answered = true →
        (∀ (k : Nat) e', k < i → es[k]? = some (some e') → e'.answered = false) →
        finishedAs order s j item (es.set i (some { e with
          answered := false, seenClear := e.seenClear || intact
          seenFail := e.seenFail || !intact }))) ∧
      ((∀ (k : Nat) e, es[k]? = some (some e) → e.answered = false) → finishedAs order s j item es)
    ((j.cell.mode = .even ∨ j.cell.mode = .odd) → j.key = none → ends (.marker .keyMissing) false) ∧
    (∀ ws, clearWords j.cell j.key = some ws →
      (xorWords ws = j.cell.check → ends (.cell j.cell.service j.cell.film (bytesOf ws)) true) ∧
      (xorWords ws ≠ j.cell.check → ends (.marker .checkFail) false)))

/-! ### The outputs and the decoder port -/

/-- Admission of an item. With gap owed clear (R40) it is collapsed into a tail marker of its reason,
appended where one of the 8 places is free, or dropped; with gap owed set (R41) an owed GAP goes before
it, and both are appended where both fit, or neither. -/
def Obligations.anItemIsAdmitted : Prop :=
  ∀ (item : Item) (value : Nat) (o : Output),
    let joined (items : List Item) (o : Output) := { o with
      queue := o.queue ++ items
      state := if items ≠ [] ∧ o.state = .filling ∧ o.threshold ≤ (o.queue ++ items).length
        then .running else o.state }
    let overflowed := { o with
      overflows := satInc o.overflows, gapOwed := true, expected := some value }
    let twin := ∃ r, item = .marker r ∧ o.queue.getLast? = some (.marker r)
    let owed := (if o.queue.getLast? = some (.marker .gap) then [] else [.marker .gap]) ++
      (if item = .marker .gap then [] else [item])
    (o.gapOwed = false → twin → admitItem item value o = o) ∧
    (o.gapOwed = false → ¬ twin → o.queue.length < 8 → admitItem item value o = joined [item] o) ∧
    (o.gapOwed = false → ¬ twin → 8 ≤ o.queue.length →
      (∀ r, item = .marker r → admitItem item value o = o) ∧
      (∀ service film clear, item = .cell service film clear →
        admitItem item value o = overflowed)) ∧
    (o.gapOwed = true → o.queue.length + owed.length ≤ 8 →
      admitItem item value o = joined owed { o with gapOwed := false }) ∧
    (o.gapOwed = true → 8 < o.queue.length + owed.length →
      (∀ r, item = .marker r → admitItem item value o = o) ∧
      (∀ service film clear, item = .cell service film clear → admitItem item value o = overflowed))

/-- The continuity check (R42): a GAP is put through admission exactly when the value differs from a
known expectation, and the value after it is expected next, with 0 after 255. -/
def Obligations.continuityGivesTheGaps : Prop :=
  ∀ (value : Nat) (o : Output), value ≤ 255 →
    let next := some (if value = 255 then 0 else value + 1)
    ((o.expected = none ∨ o.expected = some value) →
      takeContinuity value o = { o with expected := next }) ∧
    (∀ e, o.expected = some e → e ≠ value →
      takeContinuity value o = { admitItem (.marker .gap) value o with expected := next })

/-- DECODER_REQUEST and ITEM_DELIVERY_COMPLETE: a request taken with no item in delivery is granted to
the eligible output, to the one of higher priority and to MAIN at equal priorities, or held (R46, R47);
one made during a delivery is taken when that completes (R48). The port presents an item's bytes, a CELL's
service, film ID and payload or a MARKER's reason after their kind, with DSTART at the first byte alone
and DOUTX at the output's index (R48, section 12.1). A second request while one is held is absorbed
(notes/assumptions/11.md). -/
def Obligations.theDecoderIsServed : Prop :=
  (∀ (s : State) (c : Instr),
    let offers (ix : OutputIx) :=
      ((outputAt s.outputs ix).state = .running ∧ (outputAt s.outputs ix).queue ≠ []) ∨
      ((outputAt s.outputs ix).state = .filling ∧
        ∃ r, (outputAt s.outputs ix).queue.head? = some (.marker r))
    let grants (ix : OutputIx) := ∃ item rest, (outputAt s.outputs ix).queue = item :: rest ∧
      exec c s = .next { s with
        outputs := granted ix item (headTaken rest (outputAt s.outputs ix)) s.outputs }
    ((c = .decoderRequest ∧ s.outputs.delivering = none) ∨
        (c = .itemDeliveryComplete ∧ s.outputs.delivering ≠ none ∧ s.outputs.requestHeld = true) →
      (offers .main → ¬ offers .inset → grants .main) ∧
      (offers .inset → ¬ offers .main → grants .inset) ∧
      (offers .main → offers .inset →
        if s.outputs.main.priority < s.outputs.inset.priority then grants .inset else grants .main) ∧
      (¬ offers .main → ¬ offers .inset → exec c s = .next { s with
        outputs := { s.outputs with
          requestHeld := true, delivering := none
          port := if c = .decoderRequest then s.outputs.port else [] } })) ∧
    (c = .decoderRequest → s.outputs.delivering ≠ none →
      exec c s = .next { s with outputs := { s.outputs with requestHeld := true } }) ∧
    (c = .itemDeliveryComplete → s.outputs.delivering ≠ none → s.outputs.requestHeld = false →
      exec c s = .next { s with outputs := { s.outputs with delivering := none, port := [] } })) ∧
  (∀ (ix : OutputIx) (item : Item),
    let presented := portBytes ix item
    presented.map (·.dstart) = true :: List.replicate (presented.length - 1) false ∧
    (∀ b, b ∈ presented → b.doutx = (ix == .inset)) ∧
    (∀ service film clear, item = .cell service film clear → presented.map (·.value) =
      [1#8, BitVec.ofNat 8 service, BitVec.ofNat 8 (film / 256), BitVec.ofNat 8 film] ++ clear) ∧
    (∀ r, item = .marker r → ∃ code, code ∈ [(MarkerReason.noSignal, 1#8), (.locked, 2#8),
        (.notEntitled, 3#8), (.previewEnded, 4#8), (.keyMissing, 5#8), (.checkFail, 6#8), (.gap, 7#8)] ∧
      code.1 = r ∧ presented.map (·.value) = [2#8, code.2]))

/-- TUNE (R35): the output is flushed and takes the service, with a NO_SIGNAL marker in NO_FEED (R13)
that answers a held request at once (R47). A bad index or a service of 0 is refused; a request for an
output that the cell in judging named keeps the slot SERVING (R38); that a request with service 0
waits too is the model's choice (notes/assumptions/18.md). -/
def Obligations.tuneFlushesAndTakesTheService : Prop :=
  ∀ (s : State) (f : Frame), requested 0x02 f s →
    (outputIxOf (byteAt f.body 1) = none ∨ byteAt f.body 2 = 0 →
      (∀ ix, outputIxOf (byteAt f.body 1) = some ix → unjudged ix s) →
      exec .tune s = .next { s with link := replied f .badRequest .codeOnly s.link }) ∧
    (∀ ix, outputIxOf (byteAt f.body 1) = some ix → byteAt f.body 2 ≠ 0 → unjudged ix s →
      let o := outputAt s.outputs ix
      let tuned := tunedBy (byteAt f.body 2) (s.feed.state == .noFeed) o
      (s.feed.state ≠ .noFeed ∨ s.outputs.requestHeld = false ∨ s.outputs.delivering ≠ none →
        exec .tune s = .next { s with
          outputs := setOutputAt s.outputs ix tuned, link := replied f .ok .codeOnly s.link }) ∧
      (s.feed.state = .noFeed → s.outputs.requestHeld = true → s.outputs.delivering = none →
        exec .tune s = .next { s with
          outputs := granted ix (.marker .noSignal) (headTaken [] tuned) s.outputs
          link := replied f .ok .codeOnly s.link })) ∧
    (∀ ix, outputIxOf (byteAt f.body 1) = some ix → ¬ unjudged ix s →
      exec .tune s = .next { s with
        link := { s.link with assembler := .hunting, slot := .serving f } })

/-- UNTUNE (R36): a FILLING or RUNNING output is flushed and IDLE; an IDLE one answers ALREADY; it waits
for a cell as TUNE does (R38), an IDLE output too (notes/assumptions/18.md). No command gives items to
an output that is IDLE after it. -/
def Obligations.untuneLeavesTheOutputIdle : Prop :=
  (∀ (s : State) (f : Frame), requested 0x03 f s →
    (outputIxOf (byteAt f.body 1) = none →
      exec .untune s = .next { s with link := replied f .badRequest .codeOnly s.link }) ∧
    (∀ ix, outputIxOf (byteAt f.body 1) = some ix → unjudged ix s →
      ((outputAt s.outputs ix).state = .idle →
        exec .untune s = .next { s with link := replied f .already .codeOnly s.link }) ∧
      ((outputAt s.outputs ix).state ≠ .idle →
        exec .untune s = .next { s with
          outputs := setOutputAt s.outputs ix (untunedOutput (outputAt s.outputs ix))
          link := replied f .ok .codeOnly s.link })) ∧
    (∀ ix, outputIxOf (byteAt f.body 1) = some ix → ¬ unjudged ix s →
      exec .untune s = .next { s with
        link := { s.link with assembler := .hunting, slot := .serving f } })) ∧
  (∀ (c : Instr) (s t : State) (ix : OutputIx), exec c s = .next t →
    (outputAt s.outputs ix).state = .idle → (outputAt t.outputs ix).state = .idle →
    (outputAt t.outputs ix).queue = (outputAt s.outputs ix).queue ∨
      (outputAt t.outputs ix).queue = [])

/-- TUNING_AFTER_CELL (R38): once no cell in judging names the output, the TUNE or UNTUNE kept in the
slot is carried out and answered, as R35 and R36 say; in NO_FEED the NO_SIGNAL marker of R13 answers a
held request at once (R47). That a TUNE of service 0 and an UNTUNE of an IDLE output have waited, and are
then refused, is the model's choice (notes/assumptions/18.md), and so is reading the feed state when the
request is carried out (notes/assumptions/30.md). -/
def Obligations.aWaitingTuningIsCarriedOut : Prop :=
  ∀ (s : State) (f : Frame) (ix : OutputIx), s.link.slot = .serving f →
    outputIxOf (byteAt f.body 1) = some ix → unjudged ix s →
    let o := outputAt s.outputs ix
    let tuned := tunedBy (byteAt f.body 2) (s.feed.state == .noFeed) o
    let answers (code : ResultCode) (outputs : OutputStage) := exec .tuningAfterCell s = .next { s with
      outputs := outputs
      link := { s.link with slot := .ready ⟨f.kind + 0x80#8, f.tag, code, .codeOnly⟩ } }
    (f.kind = 0x02#8 → byteAt f.body 2 ≠ 0 →
      (s.feed.state ≠ .noFeed ∨ nothingToGrant s.outputs →
        answers .ok (setOutputAt s.outputs ix tuned)) ∧
      (s.feed.state = .noFeed → ¬ nothingToGrant s.outputs →
        answers .ok (granted ix (.marker .noSignal) (headTaken [] tuned) s.outputs))) ∧
    (f.kind = 0x02#8 → byteAt f.body 2 = 0 → answers .badRequest s.outputs) ∧
    (f.kind = 0x03#8 → o.state ≠ .idle → answers .ok (setOutputAt s.outputs ix (untunedOutput o))) ∧
    (f.kind = 0x03#8 → o.state = .idle → answers .already s.outputs)

/-- SET_OUTPUT (R37): a priority above 3 is stored as 3, a threshold below 1 or above 8 as 1 or 8; a
FILLING output that holds the new threshold becomes RUNNING and answers a held request at once (R47). -/
def Obligations.setOutputStoresPriorityAndThreshold : Prop :=
  ∀ (s : State) (f : Frame), requested 0x04 f s →
    (outputIxOf (byteAt f.body 1) = none →
      exec .setOutput s = .next { s with link := replied f .badRequest .codeOnly s.link }) ∧
    (∀ ix, outputIxOf (byteAt f.body 1) = some ix →
      let o := outputAt s.outputs ix
      let priority := if 3 < byteAt f.body 2 then 3 else byteAt f.body 2
      let threshold := if byteAt f.body 3 = 0 then 1 else if 8 < byteAt f.body 3 then 8
        else byteAt f.body 3
      let o' := { o with
        priority := priority, threshold := threshold
        state := if o.state = .filling ∧ threshold ≤ o.queue.length then .running else o.state }
      let link := replied f .ok (.output priority threshold) s.link
      (s.outputs.requestHeld = false ∨ s.outputs.delivering ≠ none ∨ eligible o' = false →
        exec .setOutput s = .next { s with outputs := setOutputAt s.outputs ix o', link := link }) ∧
      (∀ item rest, s.outputs.requestHeld = true → s.outputs.delivering = none → eligible o' = true →
        o.queue = item :: rest →
        exec .setOutput s = .next { s with
          outputs := granted ix item (headTaken rest o') s.outputs, link := link }))

/-! ### Entitlements, purchases and tariffs -/

/-- FEED_SECOND_CLOSE, once every film cell of the second is judged: an entry with a flag set counts the
second by its state and flags, both flags are cleared (R76), a preview that reaches the allowance is
reported ENDED, and a BOUGHT entry at the grace is CHARGED, reported and emitted (R77, R78); T + R and the
places of records and reservations together stay as they are, T having taken the price of each entry that
commits and R having lost it (R78). The CHARGE records stand in place order
and take the next serials (R77, R103). With an allowance of 0 no preview second is counted (R77), and the
flags are cleared as ever (notes/assumptions/33.md). The snapshot second count rises while
an entry is BOUGHT or CHARGED and emits a snapshot at 60; any emission, and no such entry, make it 0
(R173). The close of a boundary signalled before a SOFT_RESET counts and clears no flag: those set since
belong to the feed second that follows the reset (R69); that such a close still comes is the reading of
notes/assumptions/15.md. Which cells a close waits for is counted as notes/assumptions/8.md says, and the PREVIEW_ENDED
reports before the commits are the order of notes/assumptions/13.md. -/
def Obligations.theFeedSecondIsCounted : Prop :=
  ∀ s : State, 0 < s.folio.closesDue →
    (∀ h, h ∈ s.descrambler.handedOn → h.cell.film ≠ 0 → h.closesAhead ≠ 0) →
    (∀ j, s.descrambler.judging = some j → j.cell.film ≠ 0 → j.closesAhead ≠ 0) →
    let counts := s.folio.closesBeforeReset == 0
    let seen (e : Entry) := counts && (e.seenClear || e.seenFail)
    let paid (e : Entry) := e.state == .bought || e.state == .charged
    let clear (e : Entry) := if paid e && seen e && !e.seenFail then satInc e.clear else e.clear
    let impaired (e : Entry) := if paid e && seen e && e.seenFail then satInc e.impaired else e.impaired
    let used (e : Entry) :=
      if e.state == .preview && seen e && s.stay.previewAllowance != 0 then min (e.previewUsed + 1) 600
      else e.previewUsed
    let commits (e : Entry) := e.state == .bought && decide (s.stay.grace ≤ clear e)
    let told (select : Entry → Option Report) :=
      (List.range 8).filterMap fun i => (entryAt s.folio i).bind select
    let previews := told fun e =>
      if e.state = .preview ∧ e.previewUsed < s.stay.previewAllowance ∧
          used e = s.stay.previewAllowance then
        some (.filmEvent e.film .previewEnded (some .preview) e.price e.windowEnd e.clear e.impaired
          (used e) none)
      else none
    let commitments := told fun e =>
      if commits e then
        some (.filmEvent e.film .committed (some .charged) e.price e.windowEnd (clear e) (impaired e)
          e.previewUsed none)
      else none
    let committing := (List.range 8).filterMap fun i => (entryAt s.folio i).filter commits
    let priced := (committing.map (·.price.getD 0)).sum
    ∃ (entries : List (Option Entry)) (charged : Nat → Option Nat) (total reserved serial : Nat)
      (queue : List Record) (seconds : Nat) (reports : List Report) (t : State),
      exec .feedSecondClose s = .next t ∧
      t = { s with
        descrambler := {
          handedOn := s.descrambler.handedOn.map fun h => { h with closesAhead := h.closesAhead - 1 }
          judging := s.descrambler.judging.map fun j => { j with closesAhead := j.closesAhead - 1 } }
        folio := { s.folio with
          closesDue := s.folio.closesDue - 1, closesBeforeReset := s.folio.closesBeforeReset - 1
          feedSecond := min (s.folio.feedSecond + 1) 4294967295
          entries := entries, total := total, reserved := reserved, nextSerial := serial
          queue := s.folio.queue ++ queue, snapshotSeconds := seconds }
        link := reports.foldl (fun l r => queueReport r l) s.link } ∧
      entries.length = s.folio.entries.length ∧
      (∀ i, i < 8 → entryAt s.folio i = none → entries.getD i none = none) ∧
      (∀ i e, i < 8 → entryAt s.folio i = some e →
        entries.getD i none = some { e with
          previewUsed := used e, clear := clear e, impaired := impaired e
          seenClear := e.seenClear && !counts, seenFail := e.seenFail && !counts
          lastPresented := if seen e then s.folio.feedSecond else e.lastPresented
          state := if commits e then .charged else e.state
          chargeSerial := if commits e then charged i else e.chargeSerial } ∧
        (commits e = true → ∃ r, r ∈ queue ∧ charged i = some r.serial ∧ r.film = e.film ∧
          r.amount = e.price.getD 0)) ∧
      total = s.folio.total + priced ∧ reserved = s.folio.reserved - priced ∧
      queue.map (fun r => (r.kind, r.film, r.amount)) =
        committing.map (fun e => (.charge, e.film, e.price.getD 0)) ∧
      recordsFollow (if s.clock.set then s.clock.minute else 0) s.folio.nextSerial queue serial ∧
      (folioOk s.folio = true → total + reserved = s.folio.total + s.folio.reserved ∧
        queue.length + boughtCount entries = boughtCount s.folio.entries) ∧
      reports.filter (fun r => reportKindByte r != 0x47) = previews ++ commitments ∧
      (let begun := if commitments = [] then s.folio.snapshotSeconds else 0
       let due := anyPaid entries && decide (60 ≤ begun + 1)
       seconds = (if anyPaid entries && !due then begun + 1 else 0) ∧
       (commitments = [] → reports = previews ++ if due then [snapshotTold t] else []) ∧
       (commitments ≠ [] → reports.getLast? = some (snapshotTold t)))

/-- PURCHASE: the eleven checks of R79 to R81 in their order give the result code, and a purchase that
is not accepted changes nothing but the reply. -/
def Obligations.aPurchaseIsChecked : Prop :=
  ∀ (s : State) (f : Frame), requested 0x05 f s →
    let film := field f.body 1 2
    let entry := filmEntry s film
    let paid := s.folio.queue.length + boughtCount s.folio.entries
    let place := entry.isSome ∨ (newPlace s.folio.entries).isSome
    ∃ (t : State) (body : ReplyBody), exec .purchase s = .next t ∧
      let code (t? : Option Tariff) : ResultCode :=
        if film = 0 ∨ 4095 < film then .badRequest
        else if s.stay.room ≠ .occupied then .roomState
        else if s.clock.set = false then .clockUnset
        else match t? with
          | none => .noTariff
          | some x =>
            if entry.any (fun e => e.state == .bought || e.state == .charged) then .already
            else if entry.any (fun e => e.state == .settling) then .settling
            else if s.gate.hardCeiling < x.rating then .ratingBarred
            else if effectiveCeiling s.gate < x.rating then .ratingLocked
            else if x.price = 0 then (if place then .ok else .tableFull)
            else if s.folio.cap < s.folio.total + s.folio.reserved + x.price then .capReached
            else if 10 ≤ paid then .queueFull
            else if place then .ok else .tableFull
      let given := code (tariffOf s.folio film)
      t.link.slot = .ready ⟨f.kind + 0x80#8, f.tag, given, body⟩ ∧
      (given ≠ .ok →
        body = .folio film (entry.map (·.state)) (entry.bind (·.price)) (entry.bind (·.windowEnd))
          s.folio.total s.folio.reserved s.folio.cap ∧
        t = { s with link := replied f given body s.link })

/-- PURCHASE accepted (R80, R82): in the film's PREVIEW entry, or in a new one, the film is BOUGHT and
its price reserved; with G at 0 it is CHARGED at once (R77); a free film is CHARGED with no record. -/
def Obligations.aPurchaseBuysTheFilm : Prop :=
  ∀ (s : State) (f : Frame) (tariff : Tariff) (i : Nat) (e : Entry), requested 0x05 f s →
    let film := field f.body 1 2
    1 ≤ film → film ≤ 4095 → s.stay.room = .occupied → s.clock.set = true →
    tariffOf s.folio film = some tariff → tariff.rating ≤ effectiveCeiling s.gate →
    tariff.rating ≤ s.gate.hardCeiling →
    ((placeOf s.folio.entries film = some i ∧ entryAt s.folio i = some e ∧ e.state = .preview) ∨
      (placeOf s.folio.entries film = none ∧ newPlace s.folio.entries = some i ∧
        e = { film := film, state := .preview, previewUsed := 0, price := none, clear := 0
              impaired := 0, windowEnd := none, lastPresented := s.folio.feedSecond
              seenClear := false, seenFail := false, chargeSerial := none, credit := none })) →
    let window := min (s.clock.minute + tariff.window) 16777215
    let e' := { e with
      state := .bought, price := some tariff.price, clear := 0, impaired := 0
      windowEnd := some window }
    let put (state : EntryState) (serial : Option Nat) := s.folio.entries.set i
      (some { e' with state := state, chargeSerial := serial })
    let reply (state : EntryState) (total reserved : Nat) := ReplyBody.folio film (some state)
      (some tariff.price) (some window) total reserved s.folio.cap
    let snap (t : State) := Report.snapshot (snapshotBytes (snapshotOf t))
    let free : State := { s with folio := { s.folio with
      entries := put .charged e.chargeSerial, snapshotSeconds := 0 } }
    let bought : State := { s with folio := { s.folio with
      entries := put .bought e.chargeSerial, reserved := s.folio.reserved + tariff.price
      snapshotSeconds := 0 } }
    let charged : State := { s with folio := { s.folio with
      entries := put .charged (some s.folio.nextSerial)
      total := s.folio.total + tariff.price, nextSerial := serialAfter s.folio.nextSerial
      queue := s.folio.queue ++
        [Record.mk s.folio.nextSerial .charge film tariff.price s.clock.minute]
      snapshotSeconds := 0 } }
    (tariff.price = 0 → exec .purchase s = .next { free with
      link := replied f .ok (reply .charged s.folio.total s.folio.reserved)
        (queueReport (snap free) s.link) }) ∧
    (0 < tariff.price → s.folio.total + s.folio.reserved + tariff.price ≤ s.folio.cap →
      s.folio.queue.length + boughtCount s.folio.entries < 10 →
      (0 < s.stay.grace → exec .purchase s = .next { bought with
        link := replied f .ok (reply .bought s.folio.total (s.folio.reserved + tariff.price))
          (queueReport (snap bought) s.link) }) ∧
      (s.stay.grace = 0 → exec .purchase s = .next { charged with
        link := replied f .ok (reply .charged (s.folio.total + tariff.price) s.folio.reserved)
          (queueReport (snap charged) (queueReport (.filmEvent film .committed (some .charged)
            (some tariff.price) (some window) 0 0 e.previewUsed none)
            (queueReport (snap bought) s.link))) }))

/-- CANCEL (R84): a BOUGHT entry is a PREVIEW again, its price leaves R, a snapshot is emitted, and
the place it held goes to the entries waiting in SETTLING (R100), after the snapshot
(notes/assumptions/13.md); every other request changes only the reply. -/
def Obligations.cancelReturnsAnUnchargedFilm : Prop :=
  ∀ (s : State) (f : Frame), requested 0x06 f s →
    let film := field f.body 1 2
    let entry := filmEntry s film
    let refused (code : ResultCode) := exec .cancel s = .next { s with
      link := replied f code (.folio film (entry.map (·.state)) (entry.bind (·.price))
        (entry.bind (·.windowEnd)) s.folio.total s.folio.reserved s.folio.cap) s.link }
    (film = 0 ∨ 4095 < film → refused .badRequest) ∧
    (1 ≤ film → film ≤ 4095 →
      (entry.all (fun e => e.state == .preview) = true → refused .notFound) ∧
      (entry.any (fun e => e.state == .charged || e.state == .settling) = true →
        refused .alreadyCharged) ∧
      (∀ i e price, placeOf s.folio.entries film = some i → entryAt s.folio i = some e →
        e.state = .bought → e.price = some price →
        let cancelled : State := { s with folio := { s.folio with
          entries := s.folio.entries.set i (some { e with
            state := .preview, price := none, windowEnd := none, clear := 0, impaired := 0 })
          reserved := s.folio.reserved - price, snapshotSeconds := 0 } }
        let link := queueReport (.snapshot (snapshotBytes (snapshotOf cancelled))) s.link
        ∃ u, u = settleWaiting { cancelled with link := link } ∧
          exec .cancel s = .next { u with link := replied f .ok (.folio film (some .preview) none none
            u.folio.total u.folio.reserved u.folio.cap) u.link } ∧
          (anySettling s.folio.entries = false → u = { cancelled with link := link })))

/-- STATUS and FILM_QUERY change nothing but the reply; STATUS carries the values of R171, with
those of R49 for each output and of R147 for the Loop Station, FILM_QUERY the film's tariff and entitlement, or NOT_FOUND when it has neither (R85). -/
def Obligations.queriesChangeOnlyTheReply : Prop :=
  ∀ (s : State) (f : Frame),
    (requested 0x01 f s →
      let shown (o : Output) : OutputStatus := {
        state := o.state, service := o.service.getD 0, priority := o.priority
        threshold := o.threshold, items := o.queue.length, gapOwed := o.gapOwed
        overflows := o.overflows, underruns := o.underruns }
      let filled (b : InboxBuffer) : Nat := match b with
        | .filled _ => 1
        | _ => 0
      exec .status s = .next { s with link := replied f .ok (.status {
        room := s.stay.room, stay := s.stay.stay
        pendingStay := (s.stay.pendingCheckIn.map (·.stay)).getD 0
        clockSet := s.clock.set, minute := if s.clock.set then s.clock.minute else 0
        feed := s.feed.state, feedCounts := s.feed.counts
        main := shown s.outputs.main, inset := shown s.outputs.inset
        entries := s.folio.entries.countP (·.isSome), queueDepth := s.folio.queue.length
        tariffs := s.folio.tariffs.countP (·.isSome)
        loop := {
          state := s.loop.state, address := s.loop.address, successor := s.loop.successor
          phase := s.loop.phase, pendingReply := s.loop.pendingReply
          duplicateSeen := s.loop.duplicateSeen, ownRebuild := s.loop.ownRebuild
          declineCount := s.loop.declineCount, declineLimit := s.loop.declineLimit
          retryCount := s.loop.retryCount, rebuildCount := s.loop.rebuildCount
          packetFaults := s.loop.packetFaults, inboxDrops := s.loop.inboxDrops
          filledBuffers := filled s.loop.buffer0 + filled s.loop.buffer1 }
        malformed := s.desk.malformed, rate := s.link.rate, guide := s.link.guide
        reportDepth := s.link.reports.length, reportSeq := s.link.reportSeq
        lostReports := s.link.lostReports, linkCounts := s.link.counts }) s.link }) ∧
    (requested 0x07 f s →
      let film := field f.body 1 2
      let answers (code : ResultCode) (body : ReplyBody) :=
        exec .filmQuery s = .next { s with link := replied f code body s.link }
      (film = 0 ∨ 4095 < film → answers .badRequest .codeOnly) ∧
      (1 ≤ film → film ≤ 4095 →
        (tariffOf s.folio film = none → placeOf s.folio.entries film = none →
          answers .notFound .codeOnly) ∧
        (∀ x, tariffOf s.folio film = some x → placeOf s.folio.entries film = none →
          answers .ok (.film (some x) none)) ∧
        (∀ i e, placeOf s.folio.entries film = some i → entryAt s.folio i = some e →
          answers .ok (.film (tariffOf s.folio film) (some {
            place := i, state := e.state, previewUsed := e.previewUsed
            previewAllowance := s.stay.previewAllowance, price := e.price
            windowEnd := e.windowEnd, clear := e.clear, impaired := e.impaired
            chargeSerial := e.chargeSerial, credit := e.credit
            presented := e.seenClear || e.seenFail })))))

/-- TARIFF_SET (R91): the values, each brought into its range, replace the film's tariff or take the
lowest free place; a bad film ID and a full table are reported, and the latter counted (R93).
TARIFF_REMOVE (R92): the film's tariff leaves its place, if it has one, with no report. -/
def Obligations.tariffsAreSetAndRemoved : Prop :=
  (∀ (s : State) (ix : BufferIx) (m : InboxMessage) (film price window rating : Nat),
    atHandler ix m s → parseDesk m = some (.tariffSet film price window rating) →
    let ts : List (Option Tariff) := s.folio.tariffs
    let lacks (i : Nat) := ∀ x : Tariff, ts[i]? = some (some x) → x.film ≠ film
    let stores (i : Nat) := exec .tariffSet s = .next { s with
      folio := { s.folio with tariffs := ts.set i (some {
        film := film
        price := if 60000 < price then 60000 else price
        window := if window = 0 then 1 else if 2880 < window then 2880 else window
        rating := if 7 < rating then 7 else rating }) }
      loop := setBuffer s.loop ix .free }
    let full := satInc s.folio.tariffFull
    (film = 0 ∨ 4095 < film → exec .tariffSet s = .next { s with
      link := queueReport (.tariffEvent film false (tariffCount s.folio) s.folio.tariffFull) s.link
      loop := setBuffer s.loop ix .free }) ∧
    (1 ≤ film → film ≤ 4095 →
      (∀ i x, ts[i]? = some (some x) → x.film = film → (∀ k, k < i → lacks k) → stores i) ∧
      ((∀ k, lacks k) →
        (∀ i, ts[i]? = some none → (∀ k : Nat, k < i → ts[k]? ≠ some none) → stores i) ∧
        ((∀ k : Nat, ts[k]? ≠ some none) → exec .tariffSet s = .next { s with
          folio := { s.folio with tariffFull := full }
          link := queueReport (.tariffEvent film true (tariffCount s.folio) full) s.link
          loop := setBuffer s.loop ix .free })))) ∧
  (∀ (s : State) (ix : BufferIx) (m : InboxMessage) (film : Nat), atHandler ix m s →
    parseDesk m = some (.tariffRemove film) →
    (tariffOf s.folio film = none →
      exec .tariffRemove s = .next { s with loop := setBuffer s.loop ix .free }) ∧
    (tariffsOk s.folio.tariffs = true → ∀ i x, s.folio.tariffs[i]? = some (some x) → x.film = film →
      ∃ folio, folio = { s.folio with tariffs := s.folio.tariffs.set i none } ∧
        exec .tariffRemove s = .next { s with
          folio := folio, loop := setBuffer s.loop ix .free } ∧
        tariffOf folio film = none))

/-- Settlement: the credit is due by the three conditions of R98 and is P × I divided by C + I, never
above P; a SETTLING entry with none is removed, one with a credit is removed with a CREDIT record and a
lower T where a place is unreserved, and waits where none is (R99). The entries waiting take the
unreserved places in place order, until none waits or none is left (R100); each that is removed has its
ENDED report and a snapshot, and one CREDIT record where it had a credit, under the next serial (R99,
R103). -/
def Obligations.settlementCreditsImpairedFilms : Prop :=
  (∀ price clear impaired quality : Nat,
    let credit := creditAmount price clear impaired quality
    credit ≤ price ∧
    (0 < price → 60 ≤ impaired → (clear + impaired) * quality ≤ impaired * 100 →
      credit = price * impaired / (clear + impaired) ∧ (clear = 0 → credit = price)) ∧
    (price = 0 ∨ impaired < 60 ∨ impaired * 100 < (clear + impaired) * quality → credit = 0)) ∧
  (∀ (s : State) (i : Nat) (e : Entry) (credit : Nat), entryAt s.folio i = some e →
    e.state = .settling → e.credit = some credit →
    let removed := { s.folio with entries := s.folio.entries.set i none, snapshotSeconds := 0 }
    let ends (t : State) := settlePlace i s = { t with
      link := queueReport (snapshotTold t)
        (queueReport (.filmEvent e.film .ended none e.price e.windowEnd e.clear e.impaired
          e.previewUsed (some credit)) s.link) }
    (credit = 0 → ends { s with folio := removed }) ∧
    (0 < credit → s.folio.queue.length + boughtCount s.folio.entries < 10 →
      ends { s with folio := { removed with
        total := s.folio.total - credit
        queue := s.folio.queue ++ [⟨s.folio.nextSerial, .credit, e.film, credit,
          if s.clock.set then s.clock.minute else 0⟩]
        nextSerial := serialAfter s.folio.nextSerial } }) ∧
    (0 < credit → 10 ≤ s.folio.queue.length + boughtCount s.folio.entries → settlePlace i s = s)) ∧
  (∀ s : State, s.folio.entries.length = 8 →
    ∃ entries records serial, ∃ reports : List Report,
      let folio := { s.folio with
        entries := entries, queue := s.folio.queue ++ records, nextSerial := serial
        total := s.folio.total - (records.map (·.amount)).sum
        snapshotSeconds := if reports = [] then s.folio.snapshotSeconds else 0 }
      let t : State := { s with
        folio := folio, link := reports.foldl (fun l r => queueReport r l) s.link }
      let gone := (List.range 8).filterMap fun i => (entryAt s.folio i).filter fun e =>
        e.state == .settling && entryAt folio i == none
      settleWaiting s = t ∧ entries.length = 8 ∧
      reports.filter noSnapshot = gone.map (endedTold s.folio.quality) ∧
      reports.length = 2 * gone.length ∧
      records.map (fun r => (r.film, r.amount)) = creditsOf s.folio.quality gone ∧
      (reports ≠ [] → reports.getLast? = some (snapshotTold t)) ∧
      records.all (fun r => r.kind == .credit) = true ∧
      recordsFollow (if s.clock.set then s.clock.minute else 0) s.folio.nextSerial records serial ∧
      (∀ i, entryAt s.folio i = none → entryAt folio i = none) ∧
      (∀ i e, entryAt s.folio i = some e →
        (e.state ≠ .settling → entryAt folio i = some e) ∧
        (e.state = .settling → settledInto s.folio.quality records e (entryAt folio i))) ∧
      (∀ i k e e', i < k → entryAt folio i = some e → e.state = .settling →
        entryAt s.folio k = some e' → e'.state = .settling → 0 < e'.credit.getD 0 →
        entryAt folio k = some e') ∧
      (anySettling entries = true → 10 ≤ folio.queue.length + boughtCount entries))

/-! ### The Rating Gate -/

/-- UNLOCK, SET_PIN and SET_CEILING with a PIN that is not the room's (R59): the failure count rises,
and the third wrong entry makes it 0 and begins a lockout. -/
def Obligations.threeWrongPinsLockOut : Prop :=
  ∀ (s : State) (f : Frame) (c : Instr) (digits : List Nat),
    ((c = .unlock ∧ requested 0x08 f s ∧ digits = bodyPin f.body 1) ∨
      (c = .setPin ∧ requested 0x0A f s ∧ digits = bodyPin f.body 1 ∧
        pinWellFormed false (bodyPin f.body (2 + byteAt f.body 1)) = true) ∨
      (c = .setCeiling ∧ requested 0x0B f s ∧ digits = bodyPin f.body 2 ∧ byteAt f.body 1 ≤ 7 ∧
        s.gate.roomCeiling < byteAt f.body 1)) →
    pinWellFormed false digits = true → s.stay.room = .occupied → s.clock.set = true →
    s.gate.lockoutExpiry = none → s.gate.pin ≠ none → s.gate.pin ≠ some digits →
    let counted := { s.gate with failures := s.gate.failures + 1 }
    let locked := { s.gate with
      failures := 0
      lockoutExpiry := some (min (s.clock.minute + s.gate.lockoutLength) 16777215) }
    (s.gate.failures < 2 → exec c s = .next { s with
      gate := counted, link := replied f .wrongPin (.lock (lockSummary counted)) s.link }) ∧
    (2 ≤ s.gate.failures → exec c s = .next { s with
      gate := locked
      link := replied f .wrongPin (.lock (lockSummary locked))
        (queueReport (.lockState .lockoutBegun none (lockSummary locked)) s.link) })

/-- RELOCK (R60): an unlock in force ends at once and is reported, leaving the failure count and a
lockout; with none in force the answer is ALREADY. No PIN, room state or lockout bears on it; outside
OCCUPIED no unlock is in force. -/
def Obligations.relockEndsTheUnlock : Prop :=
  ∀ (s : State) (f : Frame), requested 0x09 f s →
    let gate := { s.gate with unlockExpiry := none }
    effectiveCeiling gate = s.gate.roomCeiling ∧
    (s.gate.unlockExpiry ≠ none → exec .relock s = .next { s with
      gate := gate
      link := replied f .ok (.lock (lockSummary gate))
        (queueReport (.lockState .unlockEnded (some .relock) (lockSummary gate)) s.link) }) ∧
    (s.gate.unlockExpiry = none → exec .relock s = .next { s with
      link := replied f .already (.lock (lockSummary s.gate)) s.link }) ∧
    (billingOk s = true → s.stay.room ≠ .occupied → s.gate.unlockExpiry = none)

/-- UNLOCK, SET_PIN and SET_CEILING (R57, R58, R61, R62). Each of their checks that fails gives its
result code, in the order of the rule, and changes only the reply. With the room's PIN, the unlock runs for
the unlock duration and is reported; a first PIN needs no old one and a change needs the room's; a ceiling
is lowered freely, and raised with the PIN, never above the hard ceiling. -/
def Obligations.thePinUnlocksAndSets : Prop :=
  ∀ (s : State) (f : Frame),
    let here := s.stay.room = .occupied
    let free := s.gate.lockoutExpiry = none
    let refuses (c : Instr) (code : ResultCode) :=
      exec c s = .next { s with link := replied f code (.lock (lockSummary s.gate)) s.link }
    let stops (c : Instr) (code : ResultCode) (wrong right : Prop) := (wrong → refuses c code) ∧ right
    (∀ zero digits, pinWellFormed zero digits = true ↔
      ((zero = true ∧ digits = []) ∨ (4 ≤ digits.length ∧ digits.length ≤ 8)) ∧
        ∀ d, d ∈ digits → d ≤ 9) ∧
    (requested 0x08 f s →
      let formed := pinWellFormed false (bodyPin f.body 1) = true
      stops .unlock .badRequest (¬ formed) (formed →
      stops .unlock .roomState (¬ here) (here →
      stops .unlock .clockUnset (s.clock.set = false) (s.clock.set = true →
      stops .unlock .noPin (s.gate.pin = none) (s.gate.pin ≠ none →
      stops .unlock .lockedOut (¬ free) (free → s.gate.pin = some (bodyPin f.body 1) →
      let gate := { s.gate with
        failures := 0, unlockExpiry := some (min (s.clock.minute + s.gate.unlockDuration) 16777215) }
      let cause := if s.gate.unlockExpiry = none then LockCause.unlockBegun else .unlockExtended
      effectiveCeiling gate = s.gate.hardCeiling ∧
      exec .unlock s = .next { s with
        gate := gate
        link := replied f .ok (.lock (lockSummary gate))
          (queueReport (.lockState cause none (lockSummary gate)) s.link) })))))) ∧
    (requested 0x0A f s →
      let old := bodyPin f.body 1
      let new := bodyPin f.body (2 + byteAt f.body 1)
      let formed := pinWellFormed true old = true ∧ pinWellFormed false new = true
      stops .setPin .badRequest (¬ formed) (formed →
      stops .setPin .roomState (¬ here) (here →
      stops .setPin .clockUnset (s.clock.set = false) (s.clock.set = true →
      stops .setPin .lockedOut (¬ free) (free →
      stops .setPin .badRequest (s.gate.pin ≠ none ∧ old = []) (
        (s.gate.pin = none ∨ (old ≠ [] ∧ s.gate.pin = some old)) →
      let gate := { s.gate with pin := some new, failures := 0 }
      exec .setPin s = .next { s with
        gate := gate, link := replied f .ok (.lock (lockSummary gate)) s.link })))))) ∧
    (requested 0x0B f s →
      let value := byteAt f.body 1
      let pin := bodyPin f.body 2
      let formed := value ≤ 7 ∧ pinWellFormed true pin = true
      stops .setCeiling .badRequest (¬ formed) (formed →
      stops .setCeiling .roomState (¬ here) (here →
      (value ≤ s.gate.roomCeiling →
        let gate := { s.gate with roomCeiling := value }
        exec .setCeiling s = .next { s with
          gate := gate, link := replied f .ok (.lock (lockSummary gate)) s.link }) ∧
      (s.gate.roomCeiling < value →
      stops .setCeiling .clockUnset (s.clock.set = false) (s.clock.set = true →
      stops .setCeiling .noPin (s.gate.pin = none) (s.gate.pin ≠ none →
      stops .setCeiling .lockedOut (¬ free) (free →
      stops .setCeiling .badRequest (pin = []) (pin ≠ [] → s.gate.pin = some pin →
        let gate := { s.gate with
          roomCeiling := if value ≤ s.gate.hardCeiling then value else s.gate.hardCeiling
          failures := 0 }
        exec .setCeiling s = .next { s with
          gate := gate, link := replied f .ok (.lock (lockSummary gate)) s.link }))))))))

/-! ### Desk messages -/

/-- KEY_DELIVERY and KEY_WITHDRAWAL: a bad group or parity is refused (R22), the active parity is
refused (R19), an epoch already held and an empty slot are repeats, and otherwise the slot is loaded
(R17) or emptied (R18); every case is counted, and all but the repeats are reported (R21). -/
def Obligations.keysAreDeliveredAndWithdrawn : Prop :=
  ∀ (s : State) (ix : BufferIx) (m : InboxMessage) (c : Instr) (group parity epoch : Nat)
    (key : Option LoadedKey), atHandler ix m s →
    ((c = .keyDelivery ∧ ∃ upper lower, key = some ⟨BitVec.ofNat 32 upper, BitVec.ofNat 32 lower, epoch⟩ ∧
        parseDesk m = some (.keyDelivery group parity epoch upper lower)) ∨
      (c = .keyWithdrawal ∧ key = none ∧ parseDesk m = some (.keyWithdrawal group parity epoch))) →
    let g := keyGroup s.keys group
    let counts := s.keys.counts
    let becomes (keys : KeyTable) (link : SetLink) :=
      exec c s = .next { s with keys := keys, link := link, loop := setBuffer s.loop ix .free }
    let refused := { counts with refusals := satInc counts.refusals }
    let repeated := becomes { s.keys with counts := { counts with repeats := satInc counts.repeats } }
      s.link
    (15 < group ∨ 2 ≤ parity → becomes { s.keys with counts := refused }
      (queueReport (.keyEvent group parity .refusedInvalid epoch none refused) s.link)) ∧
    (∀ p : Parity, group ≤ 15 → parity = (if p = .even then 0 else 1) →
      let held := (keySlot g p).any fun k => k.epoch == epoch
      let loaded := { counts with loads := satInc counts.loads }
      let withdrawn := { counts with withdrawals := satInc counts.withdrawals }
      let groups := s.keys.groups.set group (setKeySlot g p key)
      (c = .keyDelivery → held = true → repeated) ∧
      (g.active = some p → (c = .keyDelivery → held = false) → becomes { s.keys with counts := refused }
        (queueReport (.keyEvent group parity .refusedActive epoch g.active refused) s.link)) ∧
      (g.active ≠ some p →
        (c = .keyDelivery → held = false → becomes { groups := groups, counts := loaded }
          (queueReport (.keyEvent group parity .loaded epoch g.active loaded) s.link)) ∧
        (c = .keyWithdrawal → keySlot g p = none → repeated) ∧
        (c = .keyWithdrawal → keySlot g p ≠ none → becomes { groups := groups, counts := withdrawn }
          (queueReport (.keyEvent group parity .withdrawn epoch g.active withdrawn) s.link))))

/-- The form check (R150, R151): a message is malformed when its kind is none of 0x10 to 0x16, its length
is not the one its kind calls for, or a field holds a value its kind does not allow, and every other has
the fields of section 12.2. Of two FILLED buffers the one that was filled first is the next to be handled,
and it stays the next until it is handled, whatever comes meanwhile (R149); which of the two that is, the
Loop Station holds (notes/assumptions/4.md). MALFORMED_MESSAGE, DESK_NOTE and ROOM_QUERY: a message that fails the form check
is counted and its buffer freed (R150); a note enters the report queue, or with all 16 places taken keeps
its buffer and the handler until DESK_NOTE_ENTERS_QUEUE finds a place (R156); a query sets the pending
reply (R157). -/
def Obligations.theHandlerTakesMessages : Prop :=
  (∀ m : InboxMessage,
    let b := m.body
    let n := b.length
    let kind (k : Nat) := byteAt b 1 = k
    let is (ok : Prop) (d : DeskMessage) :=
      (ok → parseDesk m = some d) ∧ (¬ ok → parseDesk m = none)
    let digits := (b.drop 18).map (·.toNat)
    let chars := b.drop 2
    (byteAt b 1 < 0x10 ∨ 0x16 < byteAt b 1 → parseDesk m = none) ∧
    (kind 0x10 → is (m.broadcast = false ∧ (byteAt b 2 = 1 ∨ byteAt b 2 = 2) ∧ byteAt b 3 ≤ 1 ∧
        (byteAt b 18 = 0 ∨ (4 ≤ byteAt b 18 ∧ byteAt b 18 ≤ 8)) ∧ n = 18 + byteAt b 18 ∧
        ∀ d, d ∈ digits → d ≤ 9)
      (.guestStatus (byteAt b 2 == 1) (byteAt b 3 == 1) {
        stay := field b 4 2, cap := field b 6 3, roomCeiling := byteAt b 9, hardCeiling := byteAt b 10
        unlockDuration := byteAt b 11, lockoutLength := byteAt b 12, previewAllowance := field b 13 2
        grace := field b 15 2, quality := byteAt b 17
        pin := if digits = [] then none else some digits })) ∧
    (kind 0x11 →
      (byteAt b 6 = 0 → is (n = 14) (.keyDelivery (byteAt b 2) (byteAt b 3) (field b 4 2)
        (field b 7 4) (field b 11 4))) ∧
      (byteAt b 6 = 1 → is (n = 6) (.keyWithdrawal (byteAt b 2) (byteAt b 3) (field b 4 2))) ∧
      (2 ≤ byteAt b 6 → parseDesk m = none)) ∧
    (kind 0x12 → is (n = 8)
      (.tariffSet (field b 2 2) (field b 4 2) (field b 6 2) (byteAt b 8))) ∧
    (kind 0x13 → is (n = 3) (.tariffRemove (field b 2 2))) ∧
    (kind 0x14 → is (n = 4) (.time (field b 2 3))) ∧
    (kind 0x15 → is (1 ≤ byteAt b 2 ∧ byteAt b 2 ≤ 48 ∧ n = 2 + byteAt b 2 ∧
        ∀ c, c ∈ chars → 0x20 ≤ c.toNat ∧ c.toNat ≤ 0x7E) (.deskNote chars)) ∧
    (kind 0x16 → is (n = 1) .roomQuery)) ∧
  (∀ (l : LoopStation) (k : BufferIx) (m : InboxMessage), bufferAt l k = .filled m →
    let other : BufferIx := if k = .b0 then .b1 else .b0
    ((∀ m', bufferAt l other ≠ .filled m') → oldestFilled l = some (k, m)) ∧
    (∀ m', bufferAt l other = .filled m' →
      oldestFilled l = if l.older = k then some (k, m) else some (other, m'))) ∧
  (∀ (c : Instr) (s t : State) (k : BufferIx) (m : InboxMessage), exec c s = .next t →
    oldestFilled s.loop = some (k, m) → bufferAt t.loop k = .filled m →
    oldestFilled t.loop = some (k, m)) ∧
  (∀ (s : State) (ix : BufferIx) (m : InboxMessage),
    (atHandler ix m s →
      (parseDesk m = none → exec .malformedMessage s = .next { s with
        desk := { s.desk with malformed := satInc s.desk.malformed }
        loop := setBuffer s.loop ix .free }) ∧
      (∀ chars, parseDesk m = some (.deskNote chars) →
        (s.link.reports.length < 16 → exec .deskNote s = .next { s with
          link := { s.link with reports := s.link.reports ++ [.deskNote chars m.broadcast] }
          loop := setBuffer s.loop ix .free }) ∧
        (16 ≤ s.link.reports.length → exec .deskNote s = .next { s with
          desk := { s.desk with handling := some ix } })) ∧
      (parseDesk m = some .roomQuery →
        let loop (x : Option Exchange) :=
          setBuffer { s.loop with pendingReply := true, exchange := x } ix .free
        (∀ r, s.loop.phase = .posting → s.loop.exchange = some (.roomReport r) →
          exec .roomQuery s = .next { s with loop := loop (some (.roomReport true)) }) ∧
        ((s.loop.phase ≠ .posting ∨ ∀ r, s.loop.exchange ≠ some (.roomReport r)) →
          exec .roomQuery s = .next { s with loop := loop s.loop.exchange }))) ∧
    (∀ chars, s.desk.handling = some ix → bufferAt s.loop ix = .filled m →
      parseDesk m = some (.deskNote chars) →
      (s.link.reports.length < 16 → exec .deskNoteEntersQueue s = .next { s with
        desk := { s.desk with handling := none }
        link := { s.link with reports := s.link.reports ++ [.deskNote chars m.broadcast] }
        loop := setBuffer s.loop ix .free }) ∧
      (16 ≤ s.link.reports.length → exec .deskNoteEntersQueue s = .next s)))

/-! ### The stay and the House Clock -/

/-- CHECK_IN (R110, R111, R116): in STARTING and VACANT the stay begins with its values clamped, and the
gate, the amounts and the serials start anew; in OCCUPIED its own number is an update, whose K is never
below T + R (R96); in CLOSING another stay is held pending; stay 0 is refused. -/
def Obligations.aStayBegins : Prop :=
  ∀ (s : State) (ix : BufferIx) (m : InboxMessage) (p : StayParams), atHandler ix m s →
    parseDesk m = some (.guestStatus true false p) →
    let hard := min p.hardCeiling 7
    let stated (cause : StayCause) := exec .checkIn s = .next { s with
      link := queueReport (stayTold cause false s) s.link, loop := setBuffer s.loop ix .free }
    (p.stay = 0 → stated .checkInRefused) ∧
    (p.stay ≠ 0 → (s.stay.room = .starting ∨ s.stay.room = .vacant) →
      exec .checkIn s = .next { stayBegun p s with loop := setBuffer s.loop ix .free }) ∧
    (p.stay ≠ 0 → s.stay.room = .occupied → p.stay = s.stay.stay →
      let owed := s.folio.total + s.folio.reserved
      let clamped := decide (min p.cap 9999999 < owed)
      let t : State := { s with
        stay := { s.stay with
          previewAllowance := min p.previewAllowance 600, grace := min p.grace 900 }
        gate := { s.gate with
          roomCeiling := min p.roomCeiling hard, hardCeiling := hard
          pin := if p.pin = none then s.gate.pin else p.pin
          unlockDuration := max 1 (min p.unlockDuration 240)
          lockoutLength := max 1 (min p.lockoutLength 255) }
        folio := { s.folio with
          cap := if min p.cap 9999999 < owed then owed else min p.cap 9999999
          quality := max 1 (min p.quality 100), snapshotSeconds := 0 } }
      exec .checkIn s = .next { stayChangeTold [stayTold .update clamped t, snapshotTold t] t with
        loop := setBuffer (if clamped then (requestRoomReport s).loop else s.loop) ix .free }) ∧
    (p.stay ≠ 0 → s.stay.room = .closing →
      (p.stay = s.stay.stay → stated .checkInRefused) ∧
      (p.stay ≠ s.stay.stay →
        let t : State := { s with stay := { s.stay with pendingCheckIn := some p } }
        exec .checkIn s = .next { t with
          link := queueReport (stayTold .checkInHeld false t) s.link
          loop := setBuffer s.loop ix .free }))

/-- CHECK_OUT in OCCUPIED, and CHECK_IN of another stay there (R112, R113): the room is CLOSING with the
gate's vacant values; PREVIEW and BOUGHT entries go and R is 0, CHARGED entries settle with those that
wait already, each credit due (R98) in its CREDIT record or with its entry waiting for a place (R88, R99),
one record for one entry that goes with a credit (R99); the closure is queued, with T, exactly when no entry waits and the queue has a place (R114). The reports
are the LOCK_STATE of the gate's change first (R64), an ENDED with a snapshot for each entry settled (R99),
the STAY_STATE and snapshot of a closure queued (R114), and last of all those of the check-out (R112). -/
def Obligations.aStayCloses : Prop :=
  ∀ (s : State) (ix : BufferIx) (m : InboxMessage) (c : Instr) (pending : Option StayParams),
    atHandler ix m s → billingOk s = true → s.stay.room = .occupied →
    ((c = .checkOut ∧ pending = none ∧ ∃ p, parseDesk m = some (.guestStatus false false p)) ∨
      (c = .checkIn ∧ ∃ p, pending = some p ∧ parseDesk m = some (.guestStatus true false p) ∧
        p.stay ≠ 0 ∧ p.stay ≠ s.stay.stay)) →
    ∃ entries total serial records closes, ∃ settled ends : List Report,
      let folio := { s.folio with
        entries := entries, total := total, reserved := 0, nextSerial := serial
        queue := s.folio.queue ++ records, snapshotSeconds := 0 }
      let t : State := { s with
        stay := { s.stay with
          room := .closing, pendingCheckIn := pending, closureQueued := closes }
        gate := gateVacated s.gate, folio := folio }
      let reports := .lockState .stayChange none (lockSummary (gateVacated s.gate)) :: settled ++
        [stayTold .checkOut false t, snapshotTold t]
      let gone := (List.range 8).filterMap fun i => (entryAt s.folio i).filter fun e =>
        (e.state == .charged || e.state == .settling) && entryAt folio i == none
      let closure :=
        if closes then [stayTold .closureQueued false { t with stay := { t.stay with
          pendingCheckIn := none } }] else []
      exec c s = .next { t with
        loop := setBuffer s.loop ix .free
        link := reports.foldl (fun l r => queueReport r l) s.link } ∧
      settled.filter noSnapshot = ends ++ closure ∧ ends.Perm (gone.map (endedTold s.folio.quality)) ∧
      ((records.filter fun r => r.kind == .credit).map fun r => (r.film, r.amount)).Perm
        (creditsOf s.folio.quality gone) ∧
      settled.length = 2 * (settled.filter noSnapshot).length ∧
      recordsFollow (if s.clock.set then s.clock.minute else 0) s.folio.nextSerial records serial ∧
      entries.length = 8 ∧ (∀ i, entryAt s.folio i = none → entryAt folio i = none) ∧
      (∀ i e, entryAt s.folio i = some e →
        (e.state = .preview ∨ e.state = .bought → entryAt folio i = none) ∧
        (e.state = .charged ∨ e.state = .settling →
          settledInto s.folio.quality records e (entryAt folio i))) ∧
      total = s.folio.total - ((records.filter fun r => r.kind == .credit).map (·.amount)).sum ∧
      (liveEntries entries ≠ [] → 10 ≤ s.folio.queue.length + records.length) ∧
      (closes = true ↔ liveEntries entries = [] ∧
        (records.filter fun r => r.kind == .credit).length + s.folio.queue.length < 10) ∧
      (closes = true → ∃ r, records.getLast? = some r ∧ r.kind = .stayClosed ∧ r.film = 0 ∧
        r.amount = total ∧ r.minute = (if s.clock.set then s.clock.minute else 0)) ∧
      (closes = true → records.dropLast.all (fun r => r.kind == .credit) = true) ∧
      (closes = false → records.all (fun r => r.kind == .credit) = true)

/-- CHECK_OUT in the other room states (R116, R117): STARTING becomes VACANT, VACANT only reports,
CLOSING ignores it. START_TIMEOUT (R119): STARTING becomes VACANT. -/
def Obligations.anEmptyRoomChecksOut : Prop :=
  ∀ s : State,
    let vacant := { s.stay with room := .vacant, startTimer := none }
    (∀ ix m p, atHandler ix m s → parseDesk m = some (.guestStatus false false p) →
      (s.stay.room = .starting →
        let t : State := { s with
          stay := vacant, gate := gateVacated s.gate
          folio := { s.folio with snapshotSeconds := 0 } }
        exec .checkOut s = .next { stayChangeTold [stayTold .checkOut false t, snapshotTold t] t with
          loop := setBuffer s.loop ix .free }) ∧
      (s.stay.room = .vacant → exec .checkOut s = .next { s with
        link := queueReport (stayTold .checkOutIgnored false s) s.link
        loop := setBuffer s.loop ix .free }) ∧
      (s.stay.room = .closing →
        exec .checkOut s = .next { s with loop := setBuffer s.loop ix .free })) ∧
    (∀ d, s.stay.room = .starting → s.stay.startTimer = some d →
      let t : State := { s with stay := vacant }
      exec .startTimeout s = .next { t with
        link := queueReport (stayTold .startTimeout false t) s.link })

/-- VACATE_NOW, in any room state (R118): the room is VACANT with no stay, no pending check-in, no
entitlement and no record, T and R are 0 and the next serial is 1 (R106), the gate has its vacant
values, and the tariffs, the keys and the loop stay. A later DATA_ACK of an old record finds the queue
empty and is ignored. -/
def Obligations.vacateNowEmptiesTheRoom : Prop :=
  ∀ (s : State) (ix : BufferIx) (m : InboxMessage) (checkIn : Bool) (p : StayParams), atHandler ix m s →
    parseDesk m = some (.guestStatus checkIn true p) →
    let t : State := { s with
      stay := { s.stay with
        room := .vacant, stay := 0, pendingCheckIn := none, closureQueued := false
        startTimer := none }
      gate := gateVacated s.gate
      folio := { s.folio with
        entries := List.replicate 8 none, queue := [], total := 0, reserved := 0, nextSerial := 1
        snapshotSeconds := 0 } }
    exec .vacateNow s = .next { stayChangeTold [
        .stayState .vacated .vacant 0 none false 0 0 s.folio.cap false 0 0, snapshotTold t] t with
      loop := setBuffer s.loop ix .free } ∧
    (∀ (u : State) (serial stay : Nat), u.folio.queue = [] → acknowledgeRecord serial stay u = u)

/-- TIME and MINUTE_ADVANCE: the clock takes the minute, clamped, and its elapsed time starts anew
(R122), or rises by one and stops at 16,777,215 (R123); at the change, unlocks and lockouts that are due
end, the unlock before the lockout (R65); a BOUGHT entry whose window is due lapses, its price leaving R, a CHARGED one settles, its
credit due in its CREDIT record or with the entry waiting, and an entry whose window is not due stays
(R86, R98 to R100), one record for one entry that goes with a credit (R99), whichever block acts first (R124, notes/assumptions/7.md). Each expiry, lapse and
settlement has its one report, a lapse and an entry into SETTLING have a snapshot, whether or not the entry
waits then (R86), and the snapshots end with one of the state as it is left. What the
UNLOCK_ENDED report shows of a lockout that ends with it is left open (notes/assumptions/31.md). An unlock extended just
before ends when its new expiry is reached (notes/assumptions/32.md). -/
def Obligations.theMinuteChanges : Prop :=
  ∀ (s : State) (folioFirst : Bool),
    let changes (c : Instr) (minute : Nat) (loop : LoopStation) :=
      ∃ entries reserved records serial seconds, ∃ reports : List Report,
      let gate := { s.gate with
        unlockExpiry := s.gate.unlockExpiry.filter fun e => minute < e
        lockoutExpiry := s.gate.lockoutExpiry.filter fun e => minute < e }
      let folio := { s.folio with
        entries := entries, reserved := reserved, queue := s.folio.queue ++ records
        nextSerial := serial, snapshotSeconds := seconds
        total := s.folio.total - (records.map (·.amount)).sum }
      let due (e : Entry) := e.windowEnd.any fun w => w ≤ minute
      let lapses (e : Entry) := e.state == .bought && due e
      let lapsed (e : Entry) := Report.filmEvent e.film .lapsed none e.price e.windowEnd e.clear
        e.impaired e.previewUsed none
      let settles (e : Entry) := e.state == .settling || (e.state == .charged && due e)
      let gone := (List.range 8).filterMap fun i => (entryAt s.folio i).bind fun e =>
        if lapses e then some (lapsed e)
        else if settles e && entryAt folio i == none then some (endedTold s.folio.quality e)
        else none
      let t : State := { s with
        clock := { set := true, minute := minute, elapsed := some 60000000 }
        gate := gate, folio := folio, loop := loop
        link := reports.foldl (fun l r => queueReport r l) s.link }
      exec c s = .next t ∧
      (∃ summary, reports.filter (fun r => reportKindByte r == 0x43) =
          (if gate.unlockExpiry = s.gate.unlockExpiry then []
            else [.lockState .unlockEnded (some .expired) summary]) ++
          (if gate.lockoutExpiry = s.gate.lockoutExpiry then []
            else [.lockState .lockoutEnded (some .expired) (lockSummary gate)]) ∧
        (gate.lockoutExpiry = s.gate.lockoutExpiry → summary = lockSummary gate)) ∧
      (∀ r, (reports.filter fun r => !noSnapshot r).getLast? = some r → r = snapshotTold t) ∧
      seconds = (if reports.all noSnapshot then s.folio.snapshotSeconds else 0) ∧
      recordsFollow minute s.folio.nextSerial records serial ∧
      (billingOk s = true →
        (reports.filter fun r => reportKindByte r == 0x44).Perm gone ∧
        ((∃ i e, entryAt s.folio i = some e ∧ (e.state = .bought ∨ e.state = .charged) ∧
          due e = true) → ∃ r, r ∈ reports ∧ noSnapshot r = false) ∧
        (records.map fun r => (r.film, r.amount)).Perm (creditsOf s.folio.quality
          ((List.range 8).filterMap fun i => (entryAt s.folio i).filter fun e =>
            settles e && entryAt folio i == none)) ∧
        reports.all (fun r => reportKindByte r == 0x43 || reportKindByte r == 0x44 ||
          reportKindByte r == 0x47) = true ∧
        reserved + (((liveEntries s.folio.entries).filter lapses).map (·.price.getD 0)).sum =
          s.folio.reserved ∧
        records.all (fun r => r.kind == .credit) = true ∧
        (∀ i, entryAt s.folio i = none → entryAt folio i = none) ∧
        (∀ i e, entryAt s.folio i = some e →
          (lapses e = true → entryAt folio i = none ∧ lapsed e ∈ reports) ∧
          (settles e = true →
            settledInto s.folio.quality records e (entryAt folio i) ∧
            (entryAt folio i = none → endedTold s.folio.quality e ∈ reports)) ∧
          (e.state = .preview ∨ (e.state ≠ .settling ∧ due e = false) →
            entryAt folio i = some e))) ∧
      ((∀ e w, e ∈ liveEntries s.folio.entries → e.windowEnd = some w → minute < w) →
        anySettling s.folio.entries = false → folio = s.folio)
    (∀ ix m minute, atHandler ix m s → parseDesk m = some (.time minute) →
      changes (.time folioFirst) (if 16777215 < minute then 16777215 else minute)
        (setBuffer s.loop ix .free)) ∧
    (s.clock.set = true → s.clock.minute < 16777215 →
      changes (.minuteAdvance folioFirst) (s.clock.minute + 1) s.loop) ∧
    (s.clock.set = true → 16777215 ≤ s.clock.minute → exec (.minuteAdvance folioFirst) s =
      .next { s with clock := { s.clock with elapsed := some 60000000 } })

/-! ### The Set Link Port -/

/-- SET_LINK_BYTE_RECEIVED (R160, R162): a byte joins the FIFO with its marks, negates CTS as the 48th,
and restarts the inter-byte timer in ASSEMBLING (R165); with 64 bytes held it is lost, and the next one
to enter carries the overrun mark. The timer is held as 44 bit times (notes/assumptions/22.md). -/
def Obligations.bytesAreReceived : Prop :=
  ∀ (s : State) (b : Byte) (parityBit stopBit : Bool),
    let odd := ((List.range 8).countP (fun i => b.getLsbD i) + (if parityBit then 1 else 0)) % 2 = 1
    (s.link.fifo.length < 64 → exec (.setLinkByteReceived b parityBit stopBit) s = .next { s with
      link := { s.link with
        fifo := s.link.fifo ++ [{ value := b, parity := decide odd, framing := !stopBit
                                  overrun := s.link.lossPending }]
        lossPending := false
        cts := if 47 ≤ s.link.fifo.length then false else s.link.cts
        interByteTimer := match s.link.assembler with
          | .assembling _ _ => some 44
          | _ => s.link.interByteTimer } }) ∧
    (64 ≤ s.link.fifo.length → exec (.setLinkByteReceived b parityBit stopBit) s = .next { s with
      link := { s.link with lossPending := true } })

/-- ASSEMBLER_BYTE: the start byte opens a frame, the length byte is at most 253, and at the check byte
the frame is held with its kind, tag and body when no byte of it was marked and the sum matches; every
other frame is counted by its first cause and reported (R163, R164). A byte taken brings CTS back at 16
(R162). INTER_BYTE_TIMEOUT drops, counts and reports an unfinished frame (R165).
The timer's length and the cause of an overrun before a start byte are those of notes/assumptions/22.md
and 14.md. -/
def Obligations.framesAreAssembled : Prop :=
  (∀ (s : State) (b : FifoByte) (rest : List FifoByte), s.link.fifo = b :: rest →
    let taken := { s.link with
      fifo := rest, cts := if rest.length ≤ 16 then true else s.link.cts }
    let becomes (link : SetLink) := exec .assemblerByte s = .next { s with link := link }
    let marked := b.overrun = true ∨ b.framing = true ∨ b.parity = true
    let mark := if b.overrun then LinkCause.overrun else if b.framing then .framing else .parity
    let bad (cause : LinkCause) (bytes : List Byte) :=
      let counts := countLinkFault cause s.link.counts
      becomes (queueReport (.linkFault cause bytes[2]? bytes[3]? counts) { taken with
        assembler := .hunting, interByteTimer := none, counts := counts })
    (s.link.assembler = .hunting →
      (b.value = 0xA5#8 → ¬ marked → becomes { taken with
        assembler := .assembling [0xA5#8] none, interByteTimer := some 44 }) ∧
      (b.overrun = true → bad .overrun []) ∧
      (b.overrun = false → (b.value ≠ 0xA5#8 ∨ marked) → becomes taken)) ∧
    (∀ start fault, s.link.assembler = .assembling [start] fault →
      (marked → bad mark [start]) ∧
      (¬ marked → 253 < b.value.toNat → bad .length [start]) ∧
      (¬ marked → b.value.toNat ≤ 253 →
        becomes { taken with assembler := .assembling [start, b.value] none })) ∧
    (∀ start length more fault, s.link.assembler = .assembling (start :: length :: more) fault →
      let bytes := start :: length :: more ++ [b.value]
      let cause := if fault = none ∧ marked then some mark else fault
      (more.length + 1 < length.toNat + 3 →
        becomes { taken with assembler := .assembling bytes cause }) ∧
      (∀ x, length.toNat + 3 ≤ more.length + 1 → cause = some x → bad x bytes) ∧
      (∀ kind tag body, more = kind :: tag :: body → length.toNat = body.length → cause = none →
        let sum := BitVec.ofNat 8 (byteSum (length :: more))
        (b.value = sum → becomes { taken with
          assembler := .holding ⟨kind, tag, body⟩, interByteTimer := none }) ∧
        (b.value ≠ sum → bad .check bytes)))) ∧
  (∀ (s : State) (bytes : List Byte) (fault : Option LinkCause) (d : Nat),
    s.link.assembler = .assembling bytes fault → s.link.fifo = [] → s.link.interByteTimer = some d →
    let counts := { s.link.counts with timeout := satInc s.link.counts.timeout }
    exec .interByteTimeout s = .next { s with
      link := queueReport (.linkFault .timeout bytes[2]? bytes[3]? counts) { s.link with
        assembler := .hunting, interByteTimer := none, counts := counts } })

/-- UNKNOWN_KIND, wrong lengths and GUIDE: a kind that is none of 0x01 to 0x12 is answered UNKNOWN_KIND,
and a request of any kind whose body has not the length its kind calls for is answered BAD_REQUEST with no
effect (R166), with the lengths of R179 spelled out; GUIDE turns the subscription on or off, and off removes the unsent GUIDE_DATA reports
(R170). -/
def Obligations.thePortServesItsOwnRequests : Prop :=
  ∀ (s : State) (f : Frame),
    (let n := f.body.length
     let count (i : Nat) := byteAt f.body i
     let long (kinds : List Nat) (right : Prop) := f.kind.toNat ∈ kinds → (lengthMatches f = true ↔ right)
     long [0x01, 0x09, 0x0D, 0x0E, 0x12] (n = 0) ∧
     long [0x02, 0x05, 0x06, 0x07] (n = 2) ∧
     long [0x03, 0x0C, 0x0F, 0x10] (n = 1) ∧
     long [0x04] (n = 3) ∧
     long [0x08] (n ≤ 253 ∧ 1 ≤ n ∧ n = 1 + count 1) ∧
     long [0x0A] (n ≤ 253 ∧ 2 + count 1 ≤ n ∧ n = 2 + count 1 + count (2 + count 1)) ∧
     long [0x0B] (n ≤ 253 ∧ 2 ≤ n ∧ n = 2 + count 2) ∧
     long [0x11] (n ≤ 253 ∧ 22 ≤ n ∧ n = 24 + count 22 + 12 * count 20 + 10 * count 21)) ∧
    (s.link.assembler = .holding f → s.link.slot = .empty → (f.kind.toNat = 0 ∨ 0x12 < f.kind.toNat) →
      exec .unknownKind s = .next { s with link := replied f .unknownKind .codeOnly s.link }) ∧
    (s.link.assembler = .holding f → s.link.slot = .empty → lengthMatches f = false →
      ∀ x : Instr × Nat, x ∈ [(.status, 0x01), (.tune, 0x02), (.untune, 0x03), (.setOutput, 0x04),
          (.purchase, 0x05), (.cancel, 0x06), (.filmQuery, 0x07), (.unlock, 0x08), (.relock, 0x09),
          (.setPin, 0x0A), (.setCeiling, 0x0B), (.setStation, 0x0C), (.join, 0x0D), (.leave, 0x0E),
          (.loopConfig, 0x0F), (.guide, 0x10), (.restore, 0x11), (.softReset, 0x12)] →
        f.kind.toNat = x.2 →
        exec x.1 s = .next { s with link := replied f .badRequest .codeOnly s.link }) ∧
    (requested 0x10 f s →
      (byteAt f.body 1 = 1 → exec .guide s = .next { s with
        link := replied f .ok (.guide true) { s.link with guide := true } }) ∧
      (byteAt f.body 1 = 0 → s.link.guide = true → exec .guide s = .next { s with
        link := replied f .ok (.guide false) { s.link with
          guide := false
          reports := s.link.reports.filter fun r => reportKindByte r != 0x4A } }) ∧
      (byteAt f.body 1 = 0 → s.link.guide = false → exec .guide s = .next { s with
        link := replied f .ok (.guide false) s.link }) ∧
      (2 ≤ byteAt f.body 1 → exec .guide s = .next { s with
        link := replied f .badRequest .codeOnly s.link }))

/-- SOFT_RESET (R172): the tracker searches with its counts kept (R15), the outputs have their power-on
values (R50), the flags of the second are clear and the closes still due count none set later (R69), the
port's FIFO and report queue are empty and the subscription off; the room, its billing, the keys, the gate,
the clock and the loop stay. What else stays, those closes among it, is listed in
notes/assumptions/15.md. -/
def Obligations.softResetSparesTheStay : Prop :=
  ∀ (s : State) (f : Frame), requested 0x12 f s →
    let output (priority : Nat) : Output := {
      state := .idle, service := none, queue := [], threshold := 2, priority := priority
      expected := none, gapOwed := false, overflows := 0, underruns := 0 }
    exec .softReset s = .next { s with
      feed := { s.feed with
        state := .searching, cell := none, frameCount := 0, mismatchRun := 0
        lossTimer := some 10000 }
      outputs := { s.outputs with main := output 2, inset := output 1 }
      folio := { s.folio with
        entries := s.folio.entries.map fun o => o.map fun e =>
          { e with seenClear := false, seenFail := false }
        closesBeforeReset := s.folio.closesDue }
      link := replied f .ok .codeOnly { s.link with
        fifo := [], interByteTimer := none, cts := true, reports := [], guide := false } }

/-- Reports, TRANSMIT_CHOICE and FRAME_SENT. A SNAPSHOT or FEED_STATE replaces an unsent one in its place,
any other report takes one of the 16 places at the tail, and with none free every kind but DESK_NOTE, which
waits at the handler (R156, theHandlerTakesMessages), is dropped and counted (R168). Idle, with SRDY true, the transmitter takes the READY reply, else the earliest report of the highest
class under the next sequence number, and begins its first byte; each later byte begins where SRDY is found
true before it, none while it is false, the frame ends once all have begun, and the end of a reply empties
the slot (R167, R169). A frame carries the start byte, length, kind, tag, body and check, a reply's body its
result code first, each byte with even parity (R160, R166). That each examination of SRDY is a
TRANSMIT_CHOICE is the model's choice (notes/assumptions/27.md), and the bytes that no layout gives are a
free value (notes/assumptions/16.md). -/
def Obligations.framesAreSent : Prop :=
  (∀ (r : Report) (l : SetLink),
    let single (x : Report) := reportKindByte x = reportKindByte r ∧
      (reportKindByte r = 0x41 ∨ reportKindByte r = 0x47)
    (∀ before old after, l.reports = before ++ old :: after → single old →
      (∀ x, x ∈ before ++ after → ¬ single x) →
      queueReport r l = { l with reports := before ++ r :: after }) ∧
    ((∀ x, x ∈ l.reports → ¬ single x) →
      (l.reports.length < 16 → queueReport r l = { l with reports := l.reports ++ [r] }) ∧
      (16 ≤ l.reports.length → reportKindByte r ≠ 0x46 → queueReport r l = { l with
        lostReports := if 65535 ≤ l.lostReports then 65535 else l.lostReports + 1 }))) ∧
  (∀ (s : State) (srdy : Bool),
    let looked := { s.link with srdy := srdy }
    let chooses (link : SetLink) := exec (.transmitChoice srdy) s = .next { s with link := link }
    let all := (stxCharacters s.link.transmitter).length
    let ends (link : SetLink) := exec .frameSent s = .next { s with link := link }
    let rank (r : Report) : Nat := match reportClass r with
      | .urgent => 2
      | .guest => 1
      | .info => 0
    (srdy = false → chooses looked) ∧
    (srdy = true → s.link.transmitter ≠ .idle →
      chooses { looked with begun := if s.link.begun < all then s.link.begun + 1 else all }) ∧
    (srdy = true → s.link.transmitter = .idle →
      (∀ r, s.link.slot = .ready r →
        chooses { looked with slot := .sending, transmitter := .reply r, begun := 1 }) ∧
      ((∀ r, s.link.slot ≠ .ready r) →
        (s.link.reports = [] → chooses looked) ∧
        (∀ before r after, s.link.reports = before ++ r :: after →
          (∀ x, x ∈ before → rank x < rank r) → (∀ x, x ∈ after → rank x ≤ rank r) →
          chooses { looked with
            reports := before ++ after, transmitter := .report s.link.reportSeq r, begun := 1
            reportSeq := (s.link.reportSeq + 1) % 256 }))) ∧
    (s.link.begun ≠ all ∨ s.link.transmitter = .idle → ends s.link) ∧
    (∀ r, s.link.begun = all → s.link.transmitter = .reply r →
      ends { s.link with transmitter := .idle, begun := 0, slot := .empty }) ∧
    (∀ seq r, s.link.begun = all → s.link.transmitter = .report seq r →
      ends { s.link with transmitter := .idle, begun := 0 })) ∧
  (∀ t : Transmitter, t ≠ .idle → ∃ kind tag body,
    let on : List Byte := [BitVec.ofNat 8 body.length, kind, tag] ++ body
    sentBytes t = 0xA5#8 :: on ++ [BitVec.ofNat 8 (byteSum on)] ∧
    stxCharacters t = (sentBytes t).map stxCharacter ∧
    (∀ r, t = .reply r → kind = r.kind ∧ tag = r.tag ∧ body.length ≤ 253 ∧
      body.head? = some (BitVec.ofNat 8 (resultByte r.code))) ∧
    (∀ seq r, t = .report seq r → kind = BitVec.ofNat 8 (reportKindByte r) ∧
      tag = BitVec.ofNat 8 seq ∧ (∀ x, r = .snapshot x → body = x) ∧
      ((∀ x, r ≠ .snapshot x) → body.length ≤ 253))) ∧
  (∀ b : Byte, ∃ parity, stxCharacter b =
      [false, b[0], b[1], b[2], b[3], b[4], b[5], b[6], b[7], parity, true] ∧
    (stxCharacter b).count true % 2 = 1)

/-! ### The Loop Station -/

/-- SET_STATION, JOIN, LEAVE and LOOP_CONFIG (R129 to R131, R137): an address other than 255 is taken
in OFF and LISTENING; a joining station is a MEMBER with its counts at 0 and a ROOM_REPORT owed; a
leaving one hands a token it has not sent yet to its successor; a decline limit is kept in 1 to 63.
What becomes of open windows, of a packet being heard and of packets yet to be sent is the model's choice
(notes/assumptions/23.md and 24.md), and so is the parting TOKEN's place behind the packets queued, with
LDE asserted from then on (notes/assumptions/25.md). -/
def Obligations.theStationIsConfigured : Prop :=
  ∀ (s : State) (f : Frame),
    let listens := s.loop.state = .off ∨ s.loop.state = .listening
    let answers (c : Instr) (code : ResultCode) := exec c s = .next { s with
      link := replied f code .codeOnly s.link }
    let address := byteAt f.body 1
    (requested 0x0C f s →
      (address = 255 → answers .setStation .badRequest) ∧
      (address ≠ 255 → ¬ listens → answers .setStation .stationActive) ∧
      (address ≠ 255 → listens →
        let loop := releaseReservation s.loop
        let state := if address = 0 then LoopState.off else .listening
        exec .setStation s = .next { s with
          loop := { loop with
            state := state, address := address, successor := none, duplicateSeen := false
            windows := if address = loop.address then loop.windows.filter (· == .duplicate) else []
            heard := if address = 0 then none else loop.heard.filter fun h => hasEnd address h.packet }
          link := replied f .ok (.station address state) s.link })) ∧
    (requested 0x0D f s →
      (s.loop.state = .off → answers .join .badRequest) ∧
      (¬ listens → answers .join .already) ∧
      (s.loop.state = .listening → s.loop.duplicateSeen = true → answers .join .duplicateAddress) ∧
      (s.loop.state = .listening → s.loop.duplicateSeen = false → exec .join s = .next { s with
        loop := { s.loop with
          state := .member, successor := none, declineCount := 0, retryCount := 0, turnCount := 0
          busyReported := false, ownRebuild := false, pendingReply := true, idleTimer := some 30000
          windows := s.loop.windows.filter (· != .duplicate) }
        link := replied f .ok .codeOnly s.link })) ∧
    (requested 0x0E f s →
      (listens → answers .leave .already) ∧
      (¬ listens →
        let parting : List SentPacket :=
          if inTurn s.loop = true ∧ s.loop.phase ≠ .passing ∧ s.loop.phase ≠ .probing then
            s.loop.successor.toList.map fun d => ⟨.token d, none⟩
          else []
        exec .leave s = .next { s with
        loop := { s.loop with
          state := .listening, successor := none, ownRebuild := false, idleTimer := none
          rebuildWait := none, phase := .none, exchange := none, refreshTurn := false
          rebuildTurn := false, passDeferred := false, candidate := none
          windows := s.loop.windows.filter (· == .reservation)
          heard := s.loop.heard.map fun h => { h with
            windows := h.windows.filter (· == .reservation) }
          sending := (s.loop.sending.map fun p =>
              { p with expects := p.expects.filter (· == .reservation) }) ++ parting
          lde := s.loop.lde || !parting.isEmpty }
        link := replied f .ok .codeOnly s.link })) ∧
    (requested 0x0F f s →
      let limit := if address = 0 then 1 else if 63 < address then 63 else address
      exec .loopConfig s = .next { s with
        loop := { s.loop with declineLimit := limit }
        link := replied f .ok (.loopConfig limit s.loop.declineCount) s.link })

/-- The packets of other stations: activity restarts the idle timer, ends a rebuild wait and answers every
window that is open (R127, R138, R139, R141, R143). At a packet's end a faulty one is counted (R126), an
ENQUIRY of the desk reserves a FREE buffer (R143), a DATA or a broadcast fills a buffer or is dropped and
counted (R144, R145); each is a retry of the exchange it was no answer to (R135, R136). A TOKEN that began
in the station's own turn is not taken (R133). A packet's start carries its characters
(notes/assumptions/9.md), a passing step that is due waits as notes/assumptions/10.md and 34.md say, a DATA
before the window of a reservation is dropped as notes/assumptions/35.md says, and the packets sent are
queued as notes/assumptions/25.md says; the values of a report are those of notes/assumptions/17.md, and
the own address is the one at the packet's start (notes/assumptions/24.md). Two reservations at once are
ruled out by everyStepKeepsTheLoopLaws. -/
def Obligations.packetsAreHeard : Prop :=
  ∀ s : State,
    (∀ chars, s.loop.state = .off ∨ s.loop.heard ≠ none → exec (.loopActivity chars) s = .next s) ∧
    (∀ chars, s.loop.state ≠ .off → s.loop.heard = none → s.loop.windows.count .reservation ≤ 1 →
      let p := judgePacket chars
      let ends := hasEnd s.loop.address p = true
      let ws := s.loop.windows
      let fills := fillsReservation s.loop.address p
      let decided := ws.filter fun w =>
        w == .enquiring || w == .posting || (w == .reservation && fills)
      let becomes (loop : LoopStation) (link : SetLink) :=
        let t : State := { s with link := link, loop := { loop with
          windows := [], heard := if ends then some ⟨p, decided, inTurn s.loop⟩ else none } }
        exec (.loopActivity chars) s = .next (if ends then t else resumePass t)
      let base := if ws.contains .reservation && !fills then releaseReservation s.loop else s.loop
      let rings := s.loop.state = .alone ∨ s.loop.state = .member ∨ s.loop.state = .rebuilding
      let noted := { base with
        state := if s.loop.state = .rebuilding then .member else s.loop.state
        rebuildWait := if s.loop.state = .rebuilding then none else s.loop.rebuildWait
        idleTimer := if rings ∧ inTurn s.loop = false then some 30000 else s.loop.idleTimer }
      let ended := { base with
        phase := .none, exchange := none, refreshTurn := false, rebuildTurn := false
        passDeferred := false, candidate := none, idleTimer := some 30000 }
      let told (cause : LoopCause) (successor : Option Nat) (duplicate : Bool) := queueReport (.loopState
        cause s.loop.state s.loop.address successor s.loop.declineCount s.loop.declineLimit
        s.loop.retryCount s.loop.rebuildCount duplicate s.loop.ownRebuild) s.link
      let other := ws.filter (· != .reservation)
      (other = [] → becomes noted s.link) ∧
      (other = [.enquiring] ∨ other = [.posting] → becomes
        (if ends then noted
        else { noted with
          retryCount := satInc s.loop.retryCount, exchange := none, passDeferred := true }) s.link) ∧
      (s.loop.state = .member → other = [.passing] → becomes ended s.link) ∧
      (∀ c, s.loop.state = .member → other = [.probing] → s.loop.candidate = some c →
        becomes { ended with successor := some c }
          (if s.loop.successor = some c then s.link
          else told .successor (some c) s.loop.duplicateSeen)) ∧
      (s.loop.state = .listening → other = [.duplicate] → becomes
        { noted with duplicateSeen := true }
        (if s.loop.duplicateSeen then s.link else told .duplicateSeen s.loop.successor true))) ∧
    (∀ (packet : Option LoopPacket) (ws : List Window) (begun : Bool),
      s.loop.heard = some ⟨packet, ws, begun⟩ →
      let settles (c : Instr) (loop : LoopStation) :=
        exec c s = .next (resumePass { s with loop := { loop with heard := none } })
      let asked := s.loop.phase = .enquiring ∧ .enquiring ∈ ws ∧ s.loop.exchange ≠ none
      let posted := s.loop.phase = .posting ∧ .posting ∈ ws ∧ s.loop.exchange ≠ none
      let base := if asked ∨ posted then
          { s.loop with
            retryCount := satInc s.loop.retryCount, exchange := none, passDeferred := true }
        else s.loop
      let released := releaseReservation base
      let dropped := { base with inboxDrops := satInc s.loop.inboxDrops }
      let filled (i : BufferIx) (broadcast : Bool) (body : List Byte) := { setBuffer base i
        (.filled ⟨broadcast, body⟩) with older := otherBuffer i }
      let sends (p : LoopPacket) (w : Option Window) (loop : LoopStation) := { loop with
        sending := loop.sending ++ [⟨p, w⟩], lde := true }
      (packet = none → settles .faultyPacket
        { base with packetFaults := satInc s.loop.packetFaults }) ∧
      (∀ d source, packet = some (.enquiry d source) →
        (source ≠ 255 → settles .enquiryReceived base) ∧
        (∀ i, source = 255 → freeBufferIx released = some i → settles .enquiryReceived
          (sends (.accept 255) (some .reservation) (setBuffer released i .reserved))) ∧
        (source = 255 → freeBufferIx released = none → settles .enquiryReceived
          (sends (.decline 255) none released))) ∧
      (∀ d source body, packet = some (.data d source body) → d ≠ 0 →
        (∀ i, reservedBufferIx s.loop = some i → source = 255 → .reservation ∈ ws →
          settles .dataReceived (sends (.dataAck 255) none (filled i false body))) ∧
        (reservedBufferIx s.loop = none ∨ source ≠ 255 ∨ .reservation ∉ ws →
          settles .dataReceived dropped)) ∧
      (∀ source body, packet = some (.data 0 source body) →
        (∀ i, freeBufferIx s.loop = some i → source = 255 →
          settles .broadcastReceived (filled i true body)) ∧
        (freeBufferIx s.loop = none ∨ source ≠ 255 → settles .broadcastReceived dropped)) ∧
      (∀ d, (packet = some (.accept d) → ¬ asked → settles .acceptReceived base) ∧
        (packet = some (.decline d) → ¬ asked → settles .declineReceived base) ∧
        (packet = some (.dataAck d) → ¬ posted → settles .dataAckReceived base) ∧
        (packet = some (.token d) → s.loop.state ≠ .off → s.loop.state ≠ .listening →
          (begun = true ∨ inTurn s.loop = true) → settles .tokenReceived base) ∧
        (packet = some (.token d) → s.loop.state = .listening → settles .tokenReceived
          { s.loop with windows := s.loop.windows ++ [.duplicate] })))

/-- The turn and its exchange: a TOKEN begins a turn whose one DATA is the owed ROOM_REPORT or the
head record (R133, R134); ACCEPT brings the DATA (R135, R136), DECLINE counts toward the desk-busy
report (R137), and DATA_ACK posts what was sent: the head record leaves the queue with a snapshot, the
entries waiting settle, and in CLOSING the closure is queued once it is due (R105, R114, R136); that of a
STAY_CLOSED ends the stay, and a pending check-in begins at once (R115). A passing step that is due waits
as notes/assumptions/10.md says, the packets sent are queued as notes/assumptions/25.md says, and the
values of the DESK_BUSY report are those of notes/assumptions/17.md. -/
def Obligations.theTurnPostsOneMessage : Prop :=
  (∀ (s : State) (d : Nat) (ws : List Window),
    (s.loop.state = .member ∨ s.loop.state = .alone ∨ s.loop.state = .rebuilding) →
    inTurn s.loop = false → s.loop.heard = some ⟨some (.token d), ws, false⟩ →
    let begun := { s.loop with
      state := .member, ownRebuild := false, idleTimer := none, rebuildWait := none, heard := none
      turnCount := if 63 ≤ s.loop.turnCount then 0 else s.loop.turnCount + 1
      refreshTurn := if 63 ≤ s.loop.turnCount then true else s.loop.refreshTurn }
    let enquires (x : Exchange) := exec .tokenReceived s = .next { s with loop := { begun with
      phase := .enquiring, exchange := some x, lde := true
      sending := s.loop.sending ++ [⟨.enquiry 255 s.loop.address, some .enquiring⟩] } }
    (s.loop.pendingReply = true → enquires (.roomReport false)) ∧
    (∀ r rest, s.loop.pendingReply = false → s.folio.queue = r :: rest →
      enquires (.record r s.stay.stay)) ∧
    (s.loop.pendingReply = false → s.folio.queue = [] →
      exec .tokenReceived s = .next (resumePass { s with loop := { begun with
        passDeferred := true } }))) ∧
  (∀ (s : State) (d : Nat) (x : Exchange) (ws : List Window) (within : Bool),
    s.loop.exchange = some x → s.loop.passDeferred = false →
    let hears (p : LoopPacket) := s.loop.heard = some ⟨some p, ws, within⟩
    let past := { s.loop with heard := none, exchange := none, passDeferred := true }
    let declined := { past with declineCount := min (s.loop.declineCount + 1) 63 }
    let busy := s.loop.declineLimit ≤ declined.declineCount ∧ s.loop.busyReported = false
    (s.loop.phase = .enquiring → .enquiring ∈ ws → hears (.accept d) →
      let body := match x with
        | .roomReport _ => roomReportBody s
        | .record r stay => recordBody stay r
      exec .acceptReceived s = .next { s with loop := { s.loop with
        heard := none, phase := .posting, declineCount := 0, busyReported := false, lde := true
        sending := s.loop.sending ++ [⟨.data 255 s.loop.address body, some .posting⟩] } }) ∧
    (s.loop.phase = .enquiring → .enquiring ∈ ws → hears (.decline d) →
      (¬ busy → exec .declineReceived s = .next (resumePass { s with loop := declined })) ∧
      (busy → exec .declineReceived s = .next (resumePass { s with
        loop := { declined with busyReported := true }
        link := queueReport (.loopState .deskBusy s.loop.state s.loop.address s.loop.successor
          declined.declineCount s.loop.declineLimit s.loop.retryCount s.loop.rebuildCount
          s.loop.duplicateSeen s.loop.ownRebuild) s.link }))) ∧
    (s.loop.phase = .posting → .posting ∈ ws → hears (.dataAck d) →
      let acked := { past with retryCount := 0 }
      let posts (t : State) := exec .dataAckReceived s = .next (resumePass t)
      (∀ again, x = .roomReport again →
        posts { s with loop := { acked with pendingReply := again } }) ∧
      (∀ r stay, x = .record r stay → (∀ r' rest, s.folio.queue = r' :: rest →
        ¬ (r'.serial = r.serial ∧ s.stay.stay = stay)) → posts { s with loop := acked }) ∧
      (∀ r head rest, x = .record r s.stay.stay → s.folio.queue = head :: rest →
        head.serial = r.serial →
        let t : State := { s with
          loop := acked, folio := { s.folio with queue := rest, snapshotSeconds := 0 } }
        let told : State := { t with link := queueReport (snapshotTold t) s.link }
        let settled := settleWaiting told
        let v : State := { settled with
          stay := { s.stay with room := .vacant, stay := 0, closureQueued := false }
          folio := { settled.folio with snapshotSeconds := 0 } }
        let vacant : State := { v with
          link := queueReport (snapshotTold v) (queueReport (stayTold .closed false v) settled.link) }
        (anySettling s.folio.entries = false → settled = told) ∧
        (head.kind ≠ .stayClosed →
          (¬ closes settled → posts settled) ∧ (closes settled → posts (closureQueuedState settled))) ∧
        (head.kind = .stayClosed →
          (s.stay.pendingCheckIn = none → posts vacant) ∧
          (∀ p, s.stay.pendingCheckIn = some p → posts (stayBegun p { vacant with
            stay := { vacant.stay with pendingCheckIn := none } }))))))

/-- Timers, windows and the passing step: a packet's end opens its window and the station stops driving
the line with its last packet (R127); an unanswered exchange is a retry, an unanswered token or probe moves
the search on, round to the station itself, which is then ALONE (R138, R139), an unanswered reservation is
freed (R143); 30 ms without activity begin the rebuild wait of 120 µs per address (R141), and its end
remakes the token (R142). The values the reports show are those of notes/assumptions/17.md, a passing step
that is due waits as notes/assumptions/10.md says, and the packets sent are queued, LDE with them, as
notes/assumptions/25.md says. -/
def Obligations.silenceMovesTheTokenOn : Prop :=
  ∀ s : State,
    let after (a : Nat) := if 255 ≤ a then 1 else a + 1
    let probes (a : Nat) (t : State) : State := { t with loop := { t.loop with
      phase := .probing, candidate := some a, lde := true
      sending := t.loop.sending ++ [⟨.token a, some .probing⟩] } }
    (s.loop.passDeferred = false → resumePass s = s) ∧
    (∀ i, reservedBufferIx s.loop = some i → resumePass s = s) ∧
    (s.loop.passDeferred = true → reservedBufferIx s.loop = none →
      let due := { s.loop with passDeferred := false, exchange := none }
      (∀ d, s.loop.refreshTurn = false → s.loop.rebuildTurn = false → s.loop.successor = some d →
        resumePass s = { s with loop := { due with
          phase := .passing, lde := true
          sending := s.loop.sending ++ [⟨.token d, some .passing⟩] } }) ∧
      ((s.loop.refreshTurn = true ∨ s.loop.rebuildTurn = true ∨ s.loop.successor = none) →
        after s.loop.address ≠ s.loop.address →
        resumePass s = probes (after s.loop.address) { s with loop := due })) ∧
    (∀ w more, s.loop.windows = w :: more →
      let silent := { s.loop with windows := more }
      let outside := { silent with
        state := .alone, successor := none, phase := .none, exchange := none, refreshTurn := false
        rebuildTurn := false, passDeferred := false, candidate := none, idleTimer := some 30000 }
      let expires (t : State) := exec .responseWindowExpiry s = .next t
      let searches (a : Nat) :=
        (a ≠ s.loop.address → expires (probes a { s with loop := silent })) ∧
        (a = s.loop.address → expires { s with
          loop := outside
          link := if s.loop.successor = none then s.link
            else queueReport (.loopState .successor .alone s.loop.address none s.loop.declineCount
              s.loop.declineLimit s.loop.retryCount s.loop.rebuildCount s.loop.duplicateSeen
              s.loop.ownRebuild) s.link })
      (w = .enquiring ∨ w = .posting →
        expires (resumePass { s with loop := { silent with
          retryCount := satInc s.loop.retryCount, exchange := none, passDeferred := true } })) ∧
      (∀ d, w = .passing → s.loop.successor = some d → searches (after d)) ∧
      (∀ c, w = .probing → s.loop.candidate = some c → searches (after c)) ∧
      (w = .reservation →
        expires (resumePass { s with loop := releaseReservation silent })) ∧
      (w = .duplicate → expires { s with loop := silent })) ∧
    (∀ d, s.loop.state = .member ∨ s.loop.state = .alone → inTurn s.loop = false →
      s.loop.idleTimer = some d → exec .idleTimerExpiry s = .next { s with loop := { s.loop with
        state := .rebuilding, idleTimer := none, rebuildWait := some (120 * s.loop.address) } }) ∧
    (∀ d, s.loop.state = .rebuilding → s.loop.rebuildWait = some d →
      let own := s.loop.ownRebuild
      let begun := { s.loop with
        state := .member, rebuildWait := none, idleTimer := none, ownRebuild := true
        rebuildTurn := true
        rebuildCount := if own then s.loop.rebuildCount else satInc s.loop.rebuildCount
        turnCount := if 63 ≤ s.loop.turnCount then 0 else s.loop.turnCount + 1
        refreshTurn := if 63 ≤ s.loop.turnCount then true else s.loop.refreshTurn }
      let t : State := { s with
        loop := begun
        link := if own then s.link
          else queueReport (.loopState .rebuilt .member s.loop.address s.loop.successor
            s.loop.declineCount s.loop.declineLimit s.loop.retryCount begun.rebuildCount
            s.loop.duplicateSeen true) s.link }
      let enquires (x : Exchange) := exec .rebuildWaitExpiry s = .next { t with loop := { begun with
        phase := .enquiring, exchange := some x, lde := true
        sending := s.loop.sending ++ [⟨.enquiry 255 s.loop.address, some .enquiring⟩] } }
      (s.loop.pendingReply = true → enquires (.roomReport false)) ∧
      (∀ r rest, s.loop.pendingReply = false → s.folio.queue = r :: rest →
        enquires (.record r s.stay.stay)) ∧
      (s.loop.pendingReply = false → s.folio.queue = [] → exec .rebuildWaitExpiry s =
        .next (resumePass { t with loop := { begun with passDeferred := true } }))) ∧
    (∀ p rest, s.loop.sending = p :: rest → exec .loopPacketSent s = .next { s with
      loop := { s.loop with
        sending := rest, lde := !rest.isEmpty
        windows := s.loop.windows ++ (match p.expects with
          | some w => [w]
          | none => [])
        idleTimer := if (s.loop.state = .member ∨ s.loop.state = .alone) ∧ inTurn s.loop = false
          then some 30000 else s.loop.idleTimer } })
end

