-- ==== Sys2Proof/Laws/State.lean ====
section
/-! SUPPORT. What each setter of a block does to each field of the state, so that no proof unfolds a
record update. -/

namespace Sys2Proof.Machine

variable (s : State)

/-! ### setFeed -/

@[simp] theorem State.setFeed_feed (x : FeedTracker) : (s.setFeed x).feed = x := rfl
@[simp] theorem State.setFeed_keys (x : FeedTracker) : (s.setFeed x).keys = s.keys := rfl
@[simp] theorem State.setFeed_descrambler (x : FeedTracker) : (s.setFeed x).descrambler = s.descrambler := rfl
@[simp] theorem State.setFeed_outputs (x : FeedTracker) : (s.setFeed x).outputs = s.outputs := rfl
@[simp] theorem State.setFeed_gate (x : FeedTracker) : (s.setFeed x).gate = s.gate := rfl
@[simp] theorem State.setFeed_folio (x : FeedTracker) : (s.setFeed x).folio = s.folio := rfl
@[simp] theorem State.setFeed_stay (x : FeedTracker) : (s.setFeed x).stay = s.stay := rfl
@[simp] theorem State.setFeed_clock (x : FeedTracker) : (s.setFeed x).clock = s.clock := rfl
@[simp] theorem State.setFeed_loop (x : FeedTracker) : (s.setFeed x).loop = s.loop := rfl
@[simp] theorem State.setFeed_desk (x : FeedTracker) : (s.setFeed x).desk = s.desk := rfl
@[simp] theorem State.setFeed_link (x : FeedTracker) : (s.setFeed x).link = s.link := rfl
@[simp] theorem State.setFeed_pending (x : FeedTracker) : (s.setFeed x).pending = s.pending := rfl
@[simp] theorem State.setFeed_setFeed (x y : FeedTracker) : (s.setFeed x).setFeed y = s.setFeed y := rfl
@[simp] theorem State.setFeed_self : s.setFeed s.feed = s := rfl

/-! ### setKeys -/

@[simp] theorem State.setKeys_feed (x : KeyTable) : (s.setKeys x).feed = s.feed := rfl
@[simp] theorem State.setKeys_keys (x : KeyTable) : (s.setKeys x).keys = x := rfl
@[simp] theorem State.setKeys_descrambler (x : KeyTable) : (s.setKeys x).descrambler = s.descrambler := rfl
@[simp] theorem State.setKeys_outputs (x : KeyTable) : (s.setKeys x).outputs = s.outputs := rfl
@[simp] theorem State.setKeys_gate (x : KeyTable) : (s.setKeys x).gate = s.gate := rfl
@[simp] theorem State.setKeys_folio (x : KeyTable) : (s.setKeys x).folio = s.folio := rfl
@[simp] theorem State.setKeys_stay (x : KeyTable) : (s.setKeys x).stay = s.stay := rfl
@[simp] theorem State.setKeys_clock (x : KeyTable) : (s.setKeys x).clock = s.clock := rfl
@[simp] theorem State.setKeys_loop (x : KeyTable) : (s.setKeys x).loop = s.loop := rfl
@[simp] theorem State.setKeys_desk (x : KeyTable) : (s.setKeys x).desk = s.desk := rfl
@[simp] theorem State.setKeys_link (x : KeyTable) : (s.setKeys x).link = s.link := rfl
@[simp] theorem State.setKeys_pending (x : KeyTable) : (s.setKeys x).pending = s.pending := rfl
@[simp] theorem State.setKeys_setKeys (x y : KeyTable) : (s.setKeys x).setKeys y = s.setKeys y := rfl
@[simp] theorem State.setKeys_self : s.setKeys s.keys = s := rfl

/-! ### setDescrambler -/

@[simp] theorem State.setDescrambler_feed (x : Descrambler) : (s.setDescrambler x).feed = s.feed := rfl
@[simp] theorem State.setDescrambler_keys (x : Descrambler) : (s.setDescrambler x).keys = s.keys := rfl
@[simp] theorem State.setDescrambler_descrambler (x : Descrambler) : (s.setDescrambler x).descrambler = x := rfl
@[simp] theorem State.setDescrambler_outputs (x : Descrambler) : (s.setDescrambler x).outputs = s.outputs := rfl
@[simp] theorem State.setDescrambler_gate (x : Descrambler) : (s.setDescrambler x).gate = s.gate := rfl
@[simp] theorem State.setDescrambler_folio (x : Descrambler) : (s.setDescrambler x).folio = s.folio := rfl
@[simp] theorem State.setDescrambler_stay (x : Descrambler) : (s.setDescrambler x).stay = s.stay := rfl
@[simp] theorem State.setDescrambler_clock (x : Descrambler) : (s.setDescrambler x).clock = s.clock := rfl
@[simp] theorem State.setDescrambler_loop (x : Descrambler) : (s.setDescrambler x).loop = s.loop := rfl
@[simp] theorem State.setDescrambler_desk (x : Descrambler) : (s.setDescrambler x).desk = s.desk := rfl
@[simp] theorem State.setDescrambler_link (x : Descrambler) : (s.setDescrambler x).link = s.link := rfl
@[simp] theorem State.setDescrambler_pending (x : Descrambler) : (s.setDescrambler x).pending = s.pending := rfl
@[simp] theorem State.setDescrambler_setDescrambler (x y : Descrambler) : (s.setDescrambler x).setDescrambler y = s.setDescrambler y := rfl
@[simp] theorem State.setDescrambler_self : s.setDescrambler s.descrambler = s := rfl

/-! ### setOutputs -/

@[simp] theorem State.setOutputs_feed (x : OutputStage) : (s.setOutputs x).feed = s.feed := rfl
@[simp] theorem State.setOutputs_keys (x : OutputStage) : (s.setOutputs x).keys = s.keys := rfl
@[simp] theorem State.setOutputs_descrambler (x : OutputStage) : (s.setOutputs x).descrambler = s.descrambler := rfl
@[simp] theorem State.setOutputs_outputs (x : OutputStage) : (s.setOutputs x).outputs = x := rfl
@[simp] theorem State.setOutputs_gate (x : OutputStage) : (s.setOutputs x).gate = s.gate := rfl
@[simp] theorem State.setOutputs_folio (x : OutputStage) : (s.setOutputs x).folio = s.folio := rfl
@[simp] theorem State.setOutputs_stay (x : OutputStage) : (s.setOutputs x).stay = s.stay := rfl
@[simp] theorem State.setOutputs_clock (x : OutputStage) : (s.setOutputs x).clock = s.clock := rfl
@[simp] theorem State.setOutputs_loop (x : OutputStage) : (s.setOutputs x).loop = s.loop := rfl
@[simp] theorem State.setOutputs_desk (x : OutputStage) : (s.setOutputs x).desk = s.desk := rfl
@[simp] theorem State.setOutputs_link (x : OutputStage) : (s.setOutputs x).link = s.link := rfl
@[simp] theorem State.setOutputs_pending (x : OutputStage) : (s.setOutputs x).pending = s.pending := rfl
@[simp] theorem State.setOutputs_setOutputs (x y : OutputStage) : (s.setOutputs x).setOutputs y = s.setOutputs y := rfl
@[simp] theorem State.setOutputs_self : s.setOutputs s.outputs = s := rfl

/-! ### setGate -/

@[simp] theorem State.setGate_feed (x : RatingGate) : (s.setGate x).feed = s.feed := rfl
@[simp] theorem State.setGate_keys (x : RatingGate) : (s.setGate x).keys = s.keys := rfl
@[simp] theorem State.setGate_descrambler (x : RatingGate) : (s.setGate x).descrambler = s.descrambler := rfl
@[simp] theorem State.setGate_outputs (x : RatingGate) : (s.setGate x).outputs = s.outputs := rfl
@[simp] theorem State.setGate_gate (x : RatingGate) : (s.setGate x).gate = x := rfl
@[simp] theorem State.setGate_folio (x : RatingGate) : (s.setGate x).folio = s.folio := rfl
@[simp] theorem State.setGate_stay (x : RatingGate) : (s.setGate x).stay = s.stay := rfl
@[simp] theorem State.setGate_clock (x : RatingGate) : (s.setGate x).clock = s.clock := rfl
@[simp] theorem State.setGate_loop (x : RatingGate) : (s.setGate x).loop = s.loop := rfl
@[simp] theorem State.setGate_desk (x : RatingGate) : (s.setGate x).desk = s.desk := rfl
@[simp] theorem State.setGate_link (x : RatingGate) : (s.setGate x).link = s.link := rfl
@[simp] theorem State.setGate_pending (x : RatingGate) : (s.setGate x).pending = s.pending := rfl
@[simp] theorem State.setGate_setGate (x y : RatingGate) : (s.setGate x).setGate y = s.setGate y := rfl
@[simp] theorem State.setGate_self : s.setGate s.gate = s := rfl

/-! ### setFolio -/

@[simp] theorem State.setFolio_feed (x : Folio) : (s.setFolio x).feed = s.feed := rfl
@[simp] theorem State.setFolio_keys (x : Folio) : (s.setFolio x).keys = s.keys := rfl
@[simp] theorem State.setFolio_descrambler (x : Folio) : (s.setFolio x).descrambler = s.descrambler := rfl
@[simp] theorem State.setFolio_outputs (x : Folio) : (s.setFolio x).outputs = s.outputs := rfl
@[simp] theorem State.setFolio_gate (x : Folio) : (s.setFolio x).gate = s.gate := rfl
@[simp] theorem State.setFolio_folio (x : Folio) : (s.setFolio x).folio = x := rfl
@[simp] theorem State.setFolio_stay (x : Folio) : (s.setFolio x).stay = s.stay := rfl
@[simp] theorem State.setFolio_clock (x : Folio) : (s.setFolio x).clock = s.clock := rfl
@[simp] theorem State.setFolio_loop (x : Folio) : (s.setFolio x).loop = s.loop := rfl
@[simp] theorem State.setFolio_desk (x : Folio) : (s.setFolio x).desk = s.desk := rfl
@[simp] theorem State.setFolio_link (x : Folio) : (s.setFolio x).link = s.link := rfl
@[simp] theorem State.setFolio_pending (x : Folio) : (s.setFolio x).pending = s.pending := rfl
@[simp] theorem State.setFolio_setFolio (x y : Folio) : (s.setFolio x).setFolio y = s.setFolio y := rfl
@[simp] theorem State.setFolio_self : s.setFolio s.folio = s := rfl

/-! ### setStay -/

@[simp] theorem State.setStay_feed (x : StayController) : (s.setStay x).feed = s.feed := rfl
@[simp] theorem State.setStay_keys (x : StayController) : (s.setStay x).keys = s.keys := rfl
@[simp] theorem State.setStay_descrambler (x : StayController) : (s.setStay x).descrambler = s.descrambler := rfl
@[simp] theorem State.setStay_outputs (x : StayController) : (s.setStay x).outputs = s.outputs := rfl
@[simp] theorem State.setStay_gate (x : StayController) : (s.setStay x).gate = s.gate := rfl
@[simp] theorem State.setStay_folio (x : StayController) : (s.setStay x).folio = s.folio := rfl
@[simp] theorem State.setStay_stay (x : StayController) : (s.setStay x).stay = x := rfl
@[simp] theorem State.setStay_clock (x : StayController) : (s.setStay x).clock = s.clock := rfl
@[simp] theorem State.setStay_loop (x : StayController) : (s.setStay x).loop = s.loop := rfl
@[simp] theorem State.setStay_desk (x : StayController) : (s.setStay x).desk = s.desk := rfl
@[simp] theorem State.setStay_link (x : StayController) : (s.setStay x).link = s.link := rfl
@[simp] theorem State.setStay_pending (x : StayController) : (s.setStay x).pending = s.pending := rfl
@[simp] theorem State.setStay_setStay (x y : StayController) : (s.setStay x).setStay y = s.setStay y := rfl
@[simp] theorem State.setStay_self : s.setStay s.stay = s := rfl

/-! ### setClock -/

@[simp] theorem State.setClock_feed (x : HouseClock) : (s.setClock x).feed = s.feed := rfl
@[simp] theorem State.setClock_keys (x : HouseClock) : (s.setClock x).keys = s.keys := rfl
@[simp] theorem State.setClock_descrambler (x : HouseClock) : (s.setClock x).descrambler = s.descrambler := rfl
@[simp] theorem State.setClock_outputs (x : HouseClock) : (s.setClock x).outputs = s.outputs := rfl
@[simp] theorem State.setClock_gate (x : HouseClock) : (s.setClock x).gate = s.gate := rfl
@[simp] theorem State.setClock_folio (x : HouseClock) : (s.setClock x).folio = s.folio := rfl
@[simp] theorem State.setClock_stay (x : HouseClock) : (s.setClock x).stay = s.stay := rfl
@[simp] theorem State.setClock_clock (x : HouseClock) : (s.setClock x).clock = x := rfl
@[simp] theorem State.setClock_loop (x : HouseClock) : (s.setClock x).loop = s.loop := rfl
@[simp] theorem State.setClock_desk (x : HouseClock) : (s.setClock x).desk = s.desk := rfl
@[simp] theorem State.setClock_link (x : HouseClock) : (s.setClock x).link = s.link := rfl
@[simp] theorem State.setClock_pending (x : HouseClock) : (s.setClock x).pending = s.pending := rfl
@[simp] theorem State.setClock_setClock (x y : HouseClock) : (s.setClock x).setClock y = s.setClock y := rfl
@[simp] theorem State.setClock_self : s.setClock s.clock = s := rfl

/-! ### setLoop -/

@[simp] theorem State.setLoop_feed (x : LoopStation) : (s.setLoop x).feed = s.feed := rfl
@[simp] theorem State.setLoop_keys (x : LoopStation) : (s.setLoop x).keys = s.keys := rfl
@[simp] theorem State.setLoop_descrambler (x : LoopStation) : (s.setLoop x).descrambler = s.descrambler := rfl
@[simp] theorem State.setLoop_outputs (x : LoopStation) : (s.setLoop x).outputs = s.outputs := rfl
@[simp] theorem State.setLoop_gate (x : LoopStation) : (s.setLoop x).gate = s.gate := rfl
@[simp] theorem State.setLoop_folio (x : LoopStation) : (s.setLoop x).folio = s.folio := rfl
@[simp] theorem State.setLoop_stay (x : LoopStation) : (s.setLoop x).stay = s.stay := rfl
@[simp] theorem State.setLoop_clock (x : LoopStation) : (s.setLoop x).clock = s.clock := rfl
@[simp] theorem State.setLoop_loop (x : LoopStation) : (s.setLoop x).loop = x := rfl
@[simp] theorem State.setLoop_desk (x : LoopStation) : (s.setLoop x).desk = s.desk := rfl
@[simp] theorem State.setLoop_link (x : LoopStation) : (s.setLoop x).link = s.link := rfl
@[simp] theorem State.setLoop_pending (x : LoopStation) : (s.setLoop x).pending = s.pending := rfl
@[simp] theorem State.setLoop_setLoop (x y : LoopStation) : (s.setLoop x).setLoop y = s.setLoop y := rfl
@[simp] theorem State.setLoop_self : s.setLoop s.loop = s := rfl

/-! ### setDesk -/

@[simp] theorem State.setDesk_feed (x : DeskHandler) : (s.setDesk x).feed = s.feed := rfl
@[simp] theorem State.setDesk_keys (x : DeskHandler) : (s.setDesk x).keys = s.keys := rfl
@[simp] theorem State.setDesk_descrambler (x : DeskHandler) : (s.setDesk x).descrambler = s.descrambler := rfl
@[simp] theorem State.setDesk_outputs (x : DeskHandler) : (s.setDesk x).outputs = s.outputs := rfl
@[simp] theorem State.setDesk_gate (x : DeskHandler) : (s.setDesk x).gate = s.gate := rfl
@[simp] theorem State.setDesk_folio (x : DeskHandler) : (s.setDesk x).folio = s.folio := rfl
@[simp] theorem State.setDesk_stay (x : DeskHandler) : (s.setDesk x).stay = s.stay := rfl
@[simp] theorem State.setDesk_clock (x : DeskHandler) : (s.setDesk x).clock = s.clock := rfl
@[simp] theorem State.setDesk_loop (x : DeskHandler) : (s.setDesk x).loop = s.loop := rfl
@[simp] theorem State.setDesk_desk (x : DeskHandler) : (s.setDesk x).desk = x := rfl
@[simp] theorem State.setDesk_link (x : DeskHandler) : (s.setDesk x).link = s.link := rfl
@[simp] theorem State.setDesk_pending (x : DeskHandler) : (s.setDesk x).pending = s.pending := rfl
@[simp] theorem State.setDesk_setDesk (x y : DeskHandler) : (s.setDesk x).setDesk y = s.setDesk y := rfl
@[simp] theorem State.setDesk_self : s.setDesk s.desk = s := rfl

/-! ### setLink -/

@[simp] theorem State.setLink_feed (x : SetLink) : (s.setLink x).feed = s.feed := rfl
@[simp] theorem State.setLink_keys (x : SetLink) : (s.setLink x).keys = s.keys := rfl
@[simp] theorem State.setLink_descrambler (x : SetLink) : (s.setLink x).descrambler = s.descrambler := rfl
@[simp] theorem State.setLink_outputs (x : SetLink) : (s.setLink x).outputs = s.outputs := rfl
@[simp] theorem State.setLink_gate (x : SetLink) : (s.setLink x).gate = s.gate := rfl
@[simp] theorem State.setLink_folio (x : SetLink) : (s.setLink x).folio = s.folio := rfl
@[simp] theorem State.setLink_stay (x : SetLink) : (s.setLink x).stay = s.stay := rfl
@[simp] theorem State.setLink_clock (x : SetLink) : (s.setLink x).clock = s.clock := rfl
@[simp] theorem State.setLink_loop (x : SetLink) : (s.setLink x).loop = s.loop := rfl
@[simp] theorem State.setLink_desk (x : SetLink) : (s.setLink x).desk = s.desk := rfl
@[simp] theorem State.setLink_link (x : SetLink) : (s.setLink x).link = x := rfl
@[simp] theorem State.setLink_pending (x : SetLink) : (s.setLink x).pending = s.pending := rfl
@[simp] theorem State.setLink_setLink (x y : SetLink) : (s.setLink x).setLink y = s.setLink y := rfl
@[simp] theorem State.setLink_self : s.setLink s.link = s := rfl

end Sys2Proof.Machine
end

