-- ==== Sys2Proof/Laws/Ops.lean ====
section
/-! SUPPORT. What each shared operation of Machine/Ops.lean can do, said once. -/

namespace Sys2Proof.Machine

/-! ### Reports (R168) -/

theorem replaceReport_length (r : Report) (rs : List Report) :
    (replaceReport r rs).length = rs.length := by simp [replaceReport]

/-- Admission replaces a report of a single kind, takes a place, or drops and counts. -/
theorem queueReport_cases (r : Report) (l : SetLink) :
    (l.reports.any (sameSingleKind · r) = true ∧
      queueReport r l = { l with reports := replaceReport r l.reports }) ∨
    (l.reports.any (sameSingleKind · r) = false ∧ l.reports.length < 16 ∧
      queueReport r l = { l with reports := l.reports ++ [r] }) ∨
    (l.reports.any (sameSingleKind · r) = false ∧ 16 ≤ l.reports.length ∧
      queueReport r l = { l with lostReports := satInc l.lostReports }) := by
  unfold queueReport
  cases h : l.reports.any (sameSingleKind · r) <;> simp
  omega

/-- The report queue never grows past its sixteen places. -/
theorem queueReport_reports_length (r : Report) (l : SetLink) (h : l.reports.length ≤ 16) :
    (queueReport r l).reports.length ≤ 16 := by
  obtain ⟨_, e⟩ | ⟨_, _, e⟩ | ⟨_, _, e⟩ := queueReport_cases r l <;> rw [e]
  · simpa [replaceReport_length] using h
  · simp; omega
  · exact h

@[simp] theorem queueReport_fifo (r : Report) (l : SetLink) : (queueReport r l).fifo = l.fifo := by
  unfold queueReport; split <;> [skip; split] <;> rfl
@[simp] theorem queueReport_lossPending (r : Report) (l : SetLink) : (queueReport r l).lossPending = l.lossPending := by
  unfold queueReport; split <;> [skip; split] <;> rfl
@[simp] theorem queueReport_cts (r : Report) (l : SetLink) : (queueReport r l).cts = l.cts := by
  unfold queueReport; split <;> [skip; split] <;> rfl
@[simp] theorem queueReport_assembler (r : Report) (l : SetLink) : (queueReport r l).assembler = l.assembler := by
  unfold queueReport; split <;> [skip; split] <;> rfl
@[simp] theorem queueReport_interByteTimer (r : Report) (l : SetLink) : (queueReport r l).interByteTimer = l.interByteTimer := by
  unfold queueReport; split <;> [skip; split] <;> rfl
@[simp] theorem queueReport_slot (r : Report) (l : SetLink) : (queueReport r l).slot = l.slot := by
  unfold queueReport; split <;> [skip; split] <;> rfl
@[simp] theorem queueReport_reportSeq (r : Report) (l : SetLink) : (queueReport r l).reportSeq = l.reportSeq := by
  unfold queueReport; split <;> [skip; split] <;> rfl
@[simp] theorem queueReport_transmitter (r : Report) (l : SetLink) : (queueReport r l).transmitter = l.transmitter := by
  unfold queueReport; split <;> [skip; split] <;> rfl
@[simp] theorem queueReport_begun (r : Report) (l : SetLink) : (queueReport r l).begun = l.begun := by
  unfold queueReport; split <;> [skip; split] <;> rfl
@[simp] theorem queueReport_guide (r : Report) (l : SetLink) : (queueReport r l).guide = l.guide := by
  unfold queueReport; split <;> [skip; split] <;> rfl
@[simp] theorem queueReport_counts (r : Report) (l : SetLink) : (queueReport r l).counts = l.counts := by
  unfold queueReport; split <;> [skip; split] <;> rfl
@[simp] theorem queueReport_rate (r : Report) (l : SetLink) : (queueReport r l).rate = l.rate := by
  unfold queueReport; split <;> [skip; split] <;> rfl
@[simp] theorem queueReport_srdy (r : Report) (l : SetLink) : (queueReport r l).srdy = l.srdy := by
  unfold queueReport; split <;> [skip; split] <;> rfl

@[simp] theorem report_feed (r : Report) (s : State) : (report r s).feed = s.feed := rfl
@[simp] theorem report_keys (r : Report) (s : State) : (report r s).keys = s.keys := rfl
@[simp] theorem report_descrambler (r : Report) (s : State) : (report r s).descrambler = s.descrambler := rfl
@[simp] theorem report_outputs (r : Report) (s : State) : (report r s).outputs = s.outputs := rfl
@[simp] theorem report_gate (r : Report) (s : State) : (report r s).gate = s.gate := rfl
@[simp] theorem report_folio (r : Report) (s : State) : (report r s).folio = s.folio := rfl
@[simp] theorem report_stay (r : Report) (s : State) : (report r s).stay = s.stay := rfl
@[simp] theorem report_clock (r : Report) (s : State) : (report r s).clock = s.clock := rfl
@[simp] theorem report_loop (r : Report) (s : State) : (report r s).loop = s.loop := rfl
@[simp] theorem report_desk (r : Report) (s : State) : (report r s).desk = s.desk := rfl
@[simp] theorem report_link (r : Report) (s : State) : (report r s).link = queueReport r s.link := rfl
@[simp] theorem report_pending (r : Report) (s : State) : (report r s).pending = s.pending := rfl

/-! ### Snapshots (R173) -/

@[simp] theorem emitSnapshot_feed (s : State) : (emitSnapshot s).feed = s.feed := rfl
@[simp] theorem emitSnapshot_keys (s : State) : (emitSnapshot s).keys = s.keys := rfl
@[simp] theorem emitSnapshot_descrambler (s : State) : (emitSnapshot s).descrambler = s.descrambler := rfl
@[simp] theorem emitSnapshot_outputs (s : State) : (emitSnapshot s).outputs = s.outputs := rfl
@[simp] theorem emitSnapshot_gate (s : State) : (emitSnapshot s).gate = s.gate := rfl
@[simp] theorem emitSnapshot_folio (s : State) :
    (emitSnapshot s).folio = { s.folio with snapshotSeconds := 0 } := rfl
@[simp] theorem emitSnapshot_stay (s : State) : (emitSnapshot s).stay = s.stay := rfl
@[simp] theorem emitSnapshot_clock (s : State) : (emitSnapshot s).clock = s.clock := rfl
@[simp] theorem emitSnapshot_loop (s : State) : (emitSnapshot s).loop = s.loop := rfl
@[simp] theorem emitSnapshot_desk (s : State) : (emitSnapshot s).desk = s.desk := rfl
@[simp] theorem emitSnapshot_link (s : State) :
    (emitSnapshot s).link = queueReport (.snapshot (snapshotBytes (snapshotOf s))) s.link := rfl
@[simp] theorem emitSnapshot_pending (s : State) : (emitSnapshot s).pending = s.pending := rfl

/-! ### Requests (R166) -/

@[simp] theorem takeFrame_feed (f : Frame) (s : State) :
    (takeFrame f s).feed = s.feed := rfl
@[simp] theorem takeFrame_keys (f : Frame) (s : State) :
    (takeFrame f s).keys = s.keys := rfl
@[simp] theorem takeFrame_descrambler (f : Frame) (s : State) :
    (takeFrame f s).descrambler = s.descrambler := rfl
@[simp] theorem takeFrame_outputs (f : Frame) (s : State) :
    (takeFrame f s).outputs = s.outputs := rfl
@[simp] theorem takeFrame_gate (f : Frame) (s : State) :
    (takeFrame f s).gate = s.gate := rfl
@[simp] theorem takeFrame_folio (f : Frame) (s : State) :
    (takeFrame f s).folio = s.folio := rfl
@[simp] theorem takeFrame_stay (f : Frame) (s : State) :
    (takeFrame f s).stay = s.stay := rfl
@[simp] theorem takeFrame_clock (f : Frame) (s : State) :
    (takeFrame f s).clock = s.clock := rfl
@[simp] theorem takeFrame_loop (f : Frame) (s : State) :
    (takeFrame f s).loop = s.loop := rfl
@[simp] theorem takeFrame_desk (f : Frame) (s : State) :
    (takeFrame f s).desk = s.desk := rfl
@[simp] theorem takeFrame_pending (f : Frame) (s : State) :
    (takeFrame f s).pending = s.pending := rfl
@[simp] theorem takeFrame_link (f : Frame) (s : State) :
    (takeFrame f s).link = { s.link with assembler := .hunting, slot := .serving f } := rfl

@[simp] theorem answer_feed (f : Frame) (code : ResultCode) (body : ReplyBody) (s : State) :
    (answer f code body s).feed = s.feed := rfl
@[simp] theorem answer_keys (f : Frame) (code : ResultCode) (body : ReplyBody) (s : State) :
    (answer f code body s).keys = s.keys := rfl
@[simp] theorem answer_descrambler (f : Frame) (code : ResultCode) (body : ReplyBody) (s : State) :
    (answer f code body s).descrambler = s.descrambler := rfl
@[simp] theorem answer_outputs (f : Frame) (code : ResultCode) (body : ReplyBody) (s : State) :
    (answer f code body s).outputs = s.outputs := rfl
@[simp] theorem answer_gate (f : Frame) (code : ResultCode) (body : ReplyBody) (s : State) :
    (answer f code body s).gate = s.gate := rfl
@[simp] theorem answer_folio (f : Frame) (code : ResultCode) (body : ReplyBody) (s : State) :
    (answer f code body s).folio = s.folio := rfl
@[simp] theorem answer_stay (f : Frame) (code : ResultCode) (body : ReplyBody) (s : State) :
    (answer f code body s).stay = s.stay := rfl
@[simp] theorem answer_clock (f : Frame) (code : ResultCode) (body : ReplyBody) (s : State) :
    (answer f code body s).clock = s.clock := rfl
@[simp] theorem answer_loop (f : Frame) (code : ResultCode) (body : ReplyBody) (s : State) :
    (answer f code body s).loop = s.loop := rfl
@[simp] theorem answer_desk (f : Frame) (code : ResultCode) (body : ReplyBody) (s : State) :
    (answer f code body s).desk = s.desk := rfl
@[simp] theorem answer_pending (f : Frame) (code : ResultCode) (body : ReplyBody) (s : State) :
    (answer f code body s).pending = s.pending := rfl
@[simp] theorem answer_link (f : Frame) (code : ResultCode) (body : ReplyBody) (s : State) :
    (answer f code body s).link =
      { s.link with slot := .ready ⟨f.kind + 0x80#8, f.tag, code, body⟩ } := rfl

/-- A held request is the frame the assembler holds while the slot is EMPTY, of the kind asked for. -/
theorem heldRequest_eq_some {kind : Nat} {s : State} {f : Frame} :
    heldRequest kind s = some f ↔
      s.link.assembler = .holding f ∧ s.link.slot = .empty ∧ f.kind.toNat = kind := by
  unfold heldRequest heldFrame
  constructor
  · intro h
    split at h <;> simp_all [Option.filter]
    obtain ⟨hk, rfl⟩ := h
    exact hk
  · rintro ⟨h1, h2, h3⟩
    simp [h1, h2, h3, Option.filter]

/-- Serving a request leaves the state alone when none is held, answers BAD_REQUEST to a body of the
wrong length, and otherwise is the owner's work on the state with the frame taken. -/
theorem serveRequest_cases (kind : Nat) (owner : Frame → State → State) (s : State) :
    (heldRequest kind s = none ∧ serveRequest kind owner s = s) ∨
    (∃ f, heldRequest kind s = some f ∧ lengthMatches f = true ∧
      serveRequest kind owner s = owner f (takeFrame f s)) ∨
    (∃ f, heldRequest kind s = some f ∧ lengthMatches f = false ∧
      serveRequest kind owner s = answer f .badRequest .codeOnly (takeFrame f s)) := by
  unfold serveRequest
  cases h : heldRequest kind s with
  | none => simp
  | some f => cases hl : lengthMatches f <;> simp [hl]

/-- What holds of the state, of every state the owner leaves, and of a refusal by length, holds after a
request is served. -/
theorem serveRequest_induct {P : State → Prop} (kind : Nat) (owner : Frame → State → State)
    (s : State) (hs : P s)
    (ho : ∀ f, heldRequest kind s = some f → lengthMatches f = true → P (owner f (takeFrame f s)))
    (hb : ∀ f, heldRequest kind s = some f →
      P (answer f .badRequest .codeOnly (takeFrame f s))) :
    P (serveRequest kind owner s) := by
  obtain ⟨_, e⟩ | ⟨f, hf, hl, e⟩ | ⟨f, hf, _, e⟩ := serveRequest_cases kind owner s <;> rw [e]
  · exact hs
  · exact ho f hf hl
  · exact hb f hf

/-! ### Desk messages (R149) -/

theorem setBuffer_state (l : LoopStation) (ix : BufferIx) (b : InboxBuffer) :
    (setBuffer l ix b).state = l.state := by cases ix <;> rfl

@[simp] theorem freeBuffer_feed (ix : BufferIx) (s : State) : (freeBuffer ix s).feed = s.feed := rfl
@[simp] theorem freeBuffer_keys (ix : BufferIx) (s : State) : (freeBuffer ix s).keys = s.keys := rfl
@[simp] theorem freeBuffer_descrambler (ix : BufferIx) (s : State) : (freeBuffer ix s).descrambler = s.descrambler := rfl
@[simp] theorem freeBuffer_outputs (ix : BufferIx) (s : State) : (freeBuffer ix s).outputs = s.outputs := rfl
@[simp] theorem freeBuffer_gate (ix : BufferIx) (s : State) : (freeBuffer ix s).gate = s.gate := rfl
@[simp] theorem freeBuffer_folio (ix : BufferIx) (s : State) : (freeBuffer ix s).folio = s.folio := rfl
@[simp] theorem freeBuffer_stay (ix : BufferIx) (s : State) : (freeBuffer ix s).stay = s.stay := rfl
@[simp] theorem freeBuffer_clock (ix : BufferIx) (s : State) : (freeBuffer ix s).clock = s.clock := rfl
@[simp] theorem freeBuffer_desk (ix : BufferIx) (s : State) : (freeBuffer ix s).desk = s.desk := rfl
@[simp] theorem freeBuffer_link (ix : BufferIx) (s : State) : (freeBuffer ix s).link = s.link := rfl
@[simp] theorem freeBuffer_pending (ix : BufferIx) (s : State) : (freeBuffer ix s).pending = s.pending := rfl
@[simp] theorem freeBuffer_loop (ix : BufferIx) (s : State) :
    (freeBuffer ix s).loop = setBuffer s.loop ix .free := rfl

/-- The handler's next message is the oldest FILLED buffer's, with the fields its form check finds. -/
theorem nextMessage_eq_some {s : State} {ix : BufferIx} {m : InboxMessage} {d : Option DeskMessage} :
    nextMessage s = some (ix, m, d) ↔
      s.desk.handling = none ∧ oldestFilled s.loop = some (ix, m) ∧ d = parseDesk m := by
  unfold nextMessage
  constructor
  · intro h
    split at h <;> simp_all
    obtain ⟨rfl, rfl, rfl⟩ := h
    simp
  · rintro ⟨h1, h2, rfl⟩
    simp [h1, h2]

/-- Serving a message leaves the state alone, or is its owner's work on it with the buffer then
freed. -/
theorem serveMessage_cases (select : DeskMessage → Option (State → State)) (s : State) :
    serveMessage select s = s ∨
    ∃ ix m d act, nextMessage s = some (ix, m, some d) ∧ select d = some act ∧
      serveMessage select s = freeBuffer ix (act s) := by
  unfold serveMessage
  split
  · rename_i ix m d h
    split
    · rename_i act ha
      exact .inr ⟨ix, m, d, act, h, ha, rfl⟩
    · exact .inl rfl
  · exact .inl rfl

/-- What holds of the state, and of every state its owner leaves with the buffer freed, holds after a
message is served. -/
theorem serveMessage_induct {P : State → Prop} (select : DeskMessage → Option (State → State))
    (s : State) (hs : P s)
    (ho : ∀ ix m d act, nextMessage s = some (ix, m, some d) → select d = some act →
      P (freeBuffer ix (act s))) :
    P (serveMessage select s) := by
  obtain e | ⟨ix, m, d, act, h, ha, e⟩ := serveMessage_cases select s <;> rw [e]
  · exact hs
  · exact ho ix m d act h ha

/-! ### The entitlement table (R68) -/

@[simp] theorem setEntry_feed (i : Nat) (o : Option Entry) (s : State) :
    (setEntry i o s).feed = s.feed := rfl
@[simp] theorem setEntry_keys (i : Nat) (o : Option Entry) (s : State) :
    (setEntry i o s).keys = s.keys := rfl
@[simp] theorem setEntry_descrambler (i : Nat) (o : Option Entry) (s : State) :
    (setEntry i o s).descrambler = s.descrambler := rfl
@[simp] theorem setEntry_outputs (i : Nat) (o : Option Entry) (s : State) :
    (setEntry i o s).outputs = s.outputs := rfl
@[simp] theorem setEntry_gate (i : Nat) (o : Option Entry) (s : State) :
    (setEntry i o s).gate = s.gate := rfl
@[simp] theorem setEntry_folio (i : Nat) (o : Option Entry) (s : State) :
    (setEntry i o s).folio = { s.folio with entries := s.folio.entries.set i o } := rfl
@[simp] theorem setEntry_stay (i : Nat) (o : Option Entry) (s : State) :
    (setEntry i o s).stay = s.stay := rfl
@[simp] theorem setEntry_clock (i : Nat) (o : Option Entry) (s : State) :
    (setEntry i o s).clock = s.clock := rfl
@[simp] theorem setEntry_loop (i : Nat) (o : Option Entry) (s : State) :
    (setEntry i o s).loop = s.loop := rfl
@[simp] theorem setEntry_desk (i : Nat) (o : Option Entry) (s : State) :
    (setEntry i o s).desk = s.desk := rfl
@[simp] theorem setEntry_link (i : Nat) (o : Option Entry) (s : State) :
    (setEntry i o s).link = s.link := rfl
@[simp] theorem setEntry_pending (i : Nat) (o : Option Entry) (s : State) :
    (setEntry i o s).pending = s.pending := rfl

/-- A walk over the places keeps what each of its steps keeps. -/
theorem overPlaces_induct {P : State → Prop} (step : Nat → State → State) (s : State) (hs : P s)
    (h : ∀ i s, i < 8 → P s → P (step i s)) : P (overPlaces step s) := by
  unfold overPlaces
  have key : ∀ (is : List Nat) (s : State), (∀ i ∈ is, i < 8) → P s →
      P (is.foldl (fun s i => step i s) s) := by
    intro is
    induction is with
    | nil => intro s _ hs; exact hs
    | cons i is ih =>
      intro s hi hs
      exact ih _ (fun j hj => hi j (List.mem_cons_of_mem _ hj))
        (h i s (hi i (List.mem_cons_self ..)) hs)
  exact key _ s (fun i hi => by simpa using hi) hs

@[simp] theorem requestRoomReport_feed (s : State) : (requestRoomReport s).feed = s.feed := rfl
@[simp] theorem requestRoomReport_keys (s : State) : (requestRoomReport s).keys = s.keys := rfl
@[simp] theorem requestRoomReport_descrambler (s : State) : (requestRoomReport s).descrambler = s.descrambler := rfl
@[simp] theorem requestRoomReport_outputs (s : State) : (requestRoomReport s).outputs = s.outputs := rfl
@[simp] theorem requestRoomReport_gate (s : State) : (requestRoomReport s).gate = s.gate := rfl
@[simp] theorem requestRoomReport_folio (s : State) : (requestRoomReport s).folio = s.folio := rfl
@[simp] theorem requestRoomReport_stay (s : State) : (requestRoomReport s).stay = s.stay := rfl
@[simp] theorem requestRoomReport_clock (s : State) : (requestRoomReport s).clock = s.clock := rfl
@[simp] theorem requestRoomReport_desk (s : State) : (requestRoomReport s).desk = s.desk := rfl
@[simp] theorem requestRoomReport_link (s : State) : (requestRoomReport s).link = s.link := rfl
@[simp] theorem requestRoomReport_pending (s : State) : (requestRoomReport s).pending = s.pending := rfl

/-- A request for a ROOM_REPORT sets the pending reply. -/
@[simp] theorem requestRoomReport_pendingReply (s : State) :
    (requestRoomReport s).loop.pendingReply = true := rfl

end Sys2Proof.Machine
end

