-- ==== Sys2Proof/Laws/Folio.lean ====
section
/-! SUPPORT. What the shared operations of the Folio Unit can do, said once. -/

namespace Sys2Proof.Machine

/-- Settlement leaves a place alone, removes an entry that is due no credit, or makes a CREDIT record in
an unreserved place and removes the entry (R99). -/
theorem settlePlace_cases (i : Nat) (s : State) :
    settlePlace i s = s ∨
    (∃ e, entryAt s.folio i = some e ∧ e.state = .settling ∧ e.credit.getD 0 = 0 ∧
      settlePlace i s = endEntry i e 0 s) ∨
    (∃ e c, entryAt s.folio i = some e ∧ e.state = .settling ∧ e.credit = some (c + 1) ∧
      unreservedPlace s.folio = true ∧
      settlePlace i s = endEntry i e (c + 1)
        (creditTotal (c + 1) (appendRecord .credit e.film (c + 1) s))) := by
  unfold settlePlace
  cases he : entryAt s.folio i with
  | none => exact .inl rfl
  | some e =>
    dsimp only
    split
    · rename_i hs
      split
      · rename_i c hc
        split
        · exact .inr (.inr ⟨e, c, rfl, hs, hc, ‹_›, rfl⟩)
        · exact .inl rfl
      · rename_i hc
        refine .inr (.inl ⟨e, rfl, hs, ?_, rfl⟩)
        cases h : e.credit with
        | none => rfl
        | some n =>
          cases n with
          | zero => rfl
          | succ n => exact absurd h (hc n)
    · exact .inl rfl

/-- What settlement of one place keeps, settlement of all of them keeps (R100). -/
theorem settleWaiting_induct {P : State → Prop} (s : State) (hs : P s)
    (h : ∀ i s, i < 8 → P s → P (settlePlace i s)) : P (settleWaiting s) :=
  overPlaces_induct settlePlace s hs h

/-- The parts of the state that settlement leaves alone. -/
def sameOutsideBilling (s t : State) : Prop :=
  t.feed = s.feed ∧ t.keys = s.keys ∧ t.descrambler = s.descrambler ∧ t.outputs = s.outputs ∧
    t.gate = s.gate ∧ t.stay = s.stay ∧ t.clock = s.clock ∧ t.loop = s.loop ∧ t.desk = s.desk ∧
    t.pending = s.pending

theorem settlePlace_frame (i : Nat) (s : State) : sameOutsideBilling s (settlePlace i s) := by
  obtain e | ⟨_, _, _, _, e⟩ | ⟨_, _, _, _, _, _, e⟩ := settlePlace_cases i s <;> rw [e] <;>
    simp [sameOutsideBilling, endEntry, filmReport, creditTotal, appendRecord]

/-- Settlement changes the Folio Unit and the report queue, and nothing else. -/
theorem settleWaiting_frame (s : State) : sameOutsideBilling s (settleWaiting s) := by
  refine settleWaiting_induct (P := fun t => sameOutsideBilling s t) s (by simp [sameOutsideBilling]) ?_
  intro i t _ ht
  have h := settlePlace_frame i t
  simp only [sameOutsideBilling] at *
  simp_all

/-! ### The reference the Cell Descrambler keeps (R27, R75) -/

/-- The entry of a place is changed, or the place has none. -/
theorem changeEntry_cases (i : Nat) (change : Entry → Entry) (s : State) :
    (∃ e, entryAt s.folio i = some e ∧ changeEntry i change s = setEntry i (some (change e)) s) ∨
    (entryAt s.folio i = none ∧ changeEntry i change s = s) := by
  unfold changeEntry
  cases entryAt s.folio i <;> simp

/-- The place found is that of the first entry marked. -/
theorem answeredPlace_eq_some {es : List (Option Entry)} {i : Nat} (h : answeredPlace es = some i) :
    ∃ e, es[i]? = some (some e) ∧ e.answered = true ∧
      ∀ (k : Nat) e', k < i → es[k]? = some (some e') → e'.answered = false := by
  obtain ⟨hi, he, hk⟩ := List.findIdx?_eq_some_iff_getElem.mp h
  cases hs : es[i] with
  | none => simp [hs] at he
  | some e =>
    refine ⟨e, by simp [hs, hi], by simpa [hs] using he, fun k e' hki hek => ?_⟩
    obtain ⟨hk', hek⟩ := List.getElem?_eq_some_iff.mp hek
    simpa [hek] using hk k hki

theorem answeredPlace_eq_none {es : List (Option Entry)} (h : answeredPlace es = none) :
    ∀ (k : Nat) e, es[k]? = some (some e) → e.answered = false := by
  intro k e he
  have := List.findIdx?_eq_none_iff.mp h (some e) (List.mem_of_getElem? he)
  simpa using this

/-- The report of a verdict sets one flag of the first entry marked and takes its mark away, or is
discarded. -/
theorem reportAnswered_cases (intact : Bool) (s : State) :
    (∃ i e, s.folio.entries[i]? = some (some e) ∧ e.answered = true ∧
      (∀ (k : Nat) e', k < i → s.folio.entries[k]? = some (some e') → e'.answered = false) ∧
      reportAnswered intact s =
        setEntry i (some { flagPresented intact e with answered := false }) s) ∨
    ((∀ (k : Nat) e, s.folio.entries[k]? = some (some e) → e.answered = false) ∧
      reportAnswered intact s = s) := by
  unfold reportAnswered
  split
  · rename_i i h
    obtain ⟨e, he, ha, hk⟩ := answeredPlace_eq_some h
    refine .inl ⟨i, e, he, ha, hk, ?_⟩
    simp [changeEntry, entryAt, he]
  · exact .inr ⟨answeredPlace_eq_none ‹_›, rfl⟩

/-- A presentable answer comes in OCCUPIED from the entry of the film, made when it had none (R71 to
R73). -/
theorem askFilm_presentable {film i : Nat} {barred : Bool} {s t : State}
    (h : askFilm film barred s = (.presentable i, t)) :
    s.stay.room = .occupied ∧ placeForFilm film s = some (i, t) ∧ ∃ e, entryAt t.folio i = some e ∧
      answerFromEntry t.stay.previewAllowance barred i e = .presentable i := by
  unfold askFilm at h
  split at h
  · simp at h
  · split at h
    · simp at h
    · rename_i hroom _ k u hp
      split at h
      · rename_i e he
        have hi : k = i := by
          have := congrArg Prod.fst h
          simp only [answerFromEntry] at this
          repeat' split at this
          all_goals simp_all
        simp only [Prod.mk.injEq] at h
        obtain ⟨ha, rfl⟩ := h
        subst hi
        exact ⟨Decidable.of_not_not hroom, hp, e, he, ha⟩
      · simp at h

/-- The close counts a preview second at a PREVIEW entry, unless the preview allowance is 0 (R76, R77). -/
theorem closeEntry_previewUsed (second allowance : Nat) (e : Entry) :
    (closeEntry second allowance e).previewUsed =
      if e.state = .preview ∧ allowance ≠ 0 then min (e.previewUsed + 1) 600 else e.previewUsed := by
  unfold closeEntry
  cases e.state <;> dsimp only <;> (repeat' split) <;> simp_all

/-- The close clears both flags of the entry and writes last presented (R76). -/
theorem closeEntry_marks (second allowance : Nat) (e : Entry) :
    (closeEntry second allowance e).seenClear = false ∧
      (closeEntry second allowance e).seenFail = false ∧
      (closeEntry second allowance e).lastPresented = second := ⟨rfl, rfl, rfl⟩

/-- The close of a boundary signalled before a SOFT_RESET leaves every flag and count (R69). -/
@[simp] theorem countFlags_before (s : State) : countFlags true s = s := rfl

/-- Any other close counts and clears the flags of each place (R76). -/
@[simp] theorem countFlags_after (s : State) : countFlags false s = overPlaces closePlace s := rfl

/-- FEED_SECOND_CLOSE does nothing, or closes the first boundary not yet closed (R69, R76). -/
theorem execFeedSecondClose_cases (s : State) :
    execFeedSecondClose s = .next s ∨
    (0 < s.folio.closesDue ∧ closeReady s.descrambler = true ∧ execFeedSecondClose s =
      .next (closeSecond (closesOldSecond s.folio) (closeTaken s))) := by
  unfold execFeedSecondClose
  split
  · rename_i h
    exact .inr ⟨h.1, h.2, rfl⟩
  · exact .inl rfl

/-- A SOFT_RESET and a close keep the boundaries signalled before a reset among those not yet closed. -/
theorem softResetFolio_closesOk (f : Folio) : closesOk (softResetFolio f) = true := by
  simp [closesOk, softResetFolio]

theorem closeTaken_closesOk (s : State) (h : closesOk s.folio = true) :
    closesOk (closeTaken s).folio = true := by
  simp only [closesOk, decide_eq_true_eq] at h ⊢
  exact Nat.sub_le_sub_right h 1

/-- A record joins the tail with the next serial and the house minute (R102, R103). -/
@[simp] theorem appendRecord_queue (kind : RecordKind) (film amount : Nat) (s : State) :
    (appendRecord kind film amount s).folio.queue =
      s.folio.queue ++ [⟨s.folio.nextSerial, kind, film, amount, houseMinute s.clock⟩] := rfl

@[simp] theorem appendRecord_nextSerial (kind : RecordKind) (film amount : Nat) (s : State) :
    (appendRecord kind film amount s).folio.nextSerial = serialAfter s.folio.nextSerial := rfl

@[simp] theorem appendRecord_entries (kind : RecordKind) (film amount : Nat) (s : State) :
    (appendRecord kind film amount s).folio.entries = s.folio.entries := rfl

/-- The credit never exceeds the price of the charge it corrects (R98, R99). -/
theorem creditAmount_le (price clear impaired quality : Nat) :
    creditAmount price clear impaired quality ≤ price := by
  unfold creditAmount
  split
  · rename_i h
    apply Nat.div_le_of_le_mul
    calc price * impaired ≤ price * (clear + impaired) := Nat.mul_le_mul_left _ (by omega)
      _ = (clear + impaired) * price := Nat.mul_comm _ _
  · omega

end Sys2Proof.Machine
end

