-- ==== Sys2Proof/Laws/Descrambler.lean ====
section
/-! SUPPORT. What CELL_ARRIVAL, CELL_VERDICT and the steps they share can do, said once. -/

namespace Sys2Proof.Machine

variable (x : OutputStage) (judging : Option Judging) (s : State)

@[simp] theorem leaveJudging_feed : (leaveJudging x judging s).feed = s.feed := rfl
@[simp] theorem leaveJudging_keys : (leaveJudging x judging s).keys = s.keys := rfl
@[simp] theorem leaveJudging_descrambler :
    (leaveJudging x judging s).descrambler = { s.descrambler with judging := judging } := rfl
@[simp] theorem leaveJudging_outputs : (leaveJudging x judging s).outputs = x := rfl
@[simp] theorem leaveJudging_gate : (leaveJudging x judging s).gate = s.gate := rfl
@[simp] theorem leaveJudging_folio : (leaveJudging x judging s).folio = s.folio := rfl
@[simp] theorem leaveJudging_stay : (leaveJudging x judging s).stay = s.stay := rfl
@[simp] theorem leaveJudging_clock : (leaveJudging x judging s).clock = s.clock := rfl
@[simp] theorem leaveJudging_loop : (leaveJudging x judging s).loop = s.loop := rfl
@[simp] theorem leaveJudging_desk : (leaveJudging x judging s).desk = s.desk := rfl
@[simp] theorem leaveJudging_link : (leaveJudging x judging s).link = s.link := rfl
@[simp] theorem leaveJudging_pending : (leaveJudging x judging s).pending = s.pending := rfl

/-- CELL_ARRIVAL does nothing, or outside NO_FEED the oldest cell handed on arrives (R3, R10, R20). -/
theorem execCellArrival_cases (s : State) :
    execCellArrival s = .next s ∨
    (∃ h rest, s.descrambler.handedOn = h :: rest ∧ s.descrambler.judging = none ∧
      s.feed.state ≠ .noFeed ∧ tuningDue s = false ∧ execCellArrival s = .next
        (arrive h.cell h.closesAhead (s.setDescrambler { handedOn := rest, judging := none }))) := by
  unfold execCellArrival
  split
  · rename_i h rest hh hj
    split
    · rename_i hm
      simp only [mayArrive, Bool.and_eq_true, bne_iff_ne, Bool.not_eq_true'] at hm
      exact .inr ⟨h, rest, hh, hj, hm.1, hm.2, rfl⟩
    · exact .inl rfl
  · exact .inl rfl

/-- Steps 3 and 4 end with an item, or with the answer
presentable for a film cell within the ceiling (R26, R27). -/
theorem askBlocks_cases (j : Judging) (s : State) :
    (∃ item t, askBlocks j s = (.decided item, t)) ∨
    (∃ i t, askBlocks j s = (.presentable i, t) ∧ j.cell.rating ≤ effectiveCeiling s.gate ∧
      j.cell.film ≠ 0 ∧ askFilm j.cell.film j.cell.barred s = (.presentable i, t)) := by
  unfold askBlocks
  split
  · exact .inl ⟨_, _, rfl⟩
  · split
    · exact .inl ⟨_, _, rfl⟩
    · rename_i hr hf
      split
      · exact .inl ⟨_, _, rfl⟩
      · exact .inl ⟨_, _, rfl⟩
      · exact .inr ⟨_, _, rfl, Nat.le_of_not_lt hr, hf, ‹_›⟩

/-- CELL_VERDICT does nothing, goes on with a cell that has its answer, or judges one from step 2: to its
item, to its answer and a pause, or to its answer and its report (R25 to R32, R75). -/
theorem execCellVerdict_cases (order : VerdictOrder) (s : State) :
    execCellVerdict order s = .next s ∨
    (∃ j, s.descrambler.judging = some j ∧ j.answered = true ∧ execCellVerdict order s =
      .next (finishVerdict order.insetFirst j s.outputs reportAnswered s)) ∨
    (∃ j, s.descrambler.judging = some j ∧ j.answered = false ∧
      let checked := giveContinuity order.gapInsetFirst j s.outputs
      (∃ item t, askBlocks j s = (.decided item, t) ∧ execCellVerdict order s =
        .next (leaveJudging (giveItem order.insetFirst j item checked) none t)) ∨
      (∃ i t, askBlocks j s = (.presentable i, t) ∧ order.pausesAfterAnswer = true ∧
        execCellVerdict order s =
          .next (leaveJudging checked (some { j with answered := true }) (markReference i t))) ∨
      (∃ i t, askBlocks j s = (.presentable i, t) ∧ order.pausesAfterAnswer = false ∧
        execCellVerdict order s =
          .next (finishVerdict order.insetFirst j checked (reportPresented i) t))) := by
  unfold execCellVerdict
  cases hj : s.descrambler.judging with
  | none => exact .inl rfl
  | some j =>
    dsimp only
    split
    · exact .inl rfl
    · split
      · exact .inr (.inl ⟨j, rfl, ‹_›, rfl⟩)
      · refine .inr (.inr ⟨j, rfl, by simp_all, ?_⟩)
        unfold judgeCell
        obtain ⟨item, t, h⟩ | ⟨i, t, h, -⟩ := askBlocks_cases j s
        · exact .inl ⟨item, t, h, by rw [h]⟩
        · cases hp : order.pausesAfterAnswer
          · exact .inr (.inr ⟨i, t, h, rfl, by simp [h]⟩)
          · exact .inr (.inl ⟨i, t, h, rfl, by simp [h]⟩)

end Sys2Proof.Machine
end

