-- ==== Sys2Proof/Laws/Link.lean ====
section
/-! SUPPORT. What the shared operations of the Set Link Port can do, said once. -/

namespace Sys2Proof.Machine

/-- A bad frame leaves the assembler HUNTING with its timer stopped, its cause counted and its report
handed in (R164). -/
theorem discardFrame_link (cause : LinkCause) (bytes : List Byte) (s : State) :
    (discardFrame cause bytes s).link =
      queueReport (.linkFault cause bytes[2]? bytes[3]? (countLinkFault cause s.link.counts))
        { s.link with
          assembler := .hunting, interByteTimer := none
          counts := countLinkFault cause s.link.counts } := rfl

/-- The end of a frame holds a good one and discards a bad one (R163). -/
theorem endFrame_cases (bytes : List Byte) (fault : Option LinkCause) (s : State) :
    (∃ cause, endFrame bytes fault s = discardFrame cause bytes s) ∨
    (fault = none ∧ checkMatches bytes = true ∧
      endFrame bytes fault s = s.setLink { s.link with
        assembler := .holding (frameOf bytes), interByteTimer := none }) := by
  unfold endFrame
  cases fault with
  | some cause => exact .inl ⟨cause, rfl⟩
  | none =>
    cases h : checkMatches bytes
    · exact .inl ⟨.check, by simp⟩
    · exact .inr ⟨rfl, rfl, by simp⟩

/-- A byte is lost at a full FIFO and joins its tail otherwise (R162). -/
theorem receiveByte_cases (b : Byte) (p st : Bool) (l : SetLink) :
    (64 ≤ l.fifo.length ∧ receiveByte b p st l = { l with lossPending := true }) ∨
    (l.fifo.length < 64 ∧
      receiveByte b p st l = enterByte (receivedByte b p st l.lossPending) l) := by
  unfold receiveByte
  split
  · exact .inl ⟨‹_›, rfl⟩
  · exact .inr ⟨by omega, rfl⟩

/-- The transmitter begins a READY reply, takes a report out of the queue, or stays idle (R167). -/
theorem chooseFrame_cases (l : SetLink) :
    (∃ r, l.slot = .ready r ∧
      chooseFrame l = { l with slot := .sending, transmitter := .reply r, begun := 1 }) ∨
    (∃ i r, chosenReport l.reports = some i ∧ l.reports[i]? = some r ∧
      chooseFrame l = { l with
        reports := l.reports.eraseIdx i, transmitter := .report l.reportSeq r, begun := 1
        reportSeq := (l.reportSeq + 1) % 256 }) ∨
    chooseFrame l = l := by
  unfold chooseFrame
  split
  · rename_i r h
    exact .inl ⟨r, h, rfl⟩
  · split
    · rename_i i hi
      split
      · rename_i r hr
        exact .inr (.inl ⟨i, r, hi, hr, rfl⟩)
      · exact .inr (.inr rfl)
    · exact .inr (.inr rfl)

/-- A frame stays on the line until its last byte has begun, and then ends (R167). -/
theorem frameSent_cases (l : SetLink) :
    (l.begun ≠ (stxCharacters l.transmitter).length ∧ frameSent l = l) ∨
    (l.begun = (stxCharacters l.transmitter).length ∧ frameSent l = endOfFrame l) := by
  unfold frameSent
  split
  · exact .inr ⟨‹_›, rfl⟩
  · exact .inl ⟨‹_›, rfl⟩

/-- SRDY, examined, is noted: an idle transmitter chooses, and a sending one begins a byte at most, when it
is true (R167). -/
theorem sampleAndChoose_cases (srdy : Bool) (l : SetLink) :
    (srdy = false ∧ sampleAndChoose srdy l = { l with srdy := false }) ∨
    (srdy = true ∧ l.transmitter = .idle ∧
      sampleAndChoose srdy l = chooseFrame { l with srdy := true }) ∨
    (srdy = true ∧ l.transmitter ≠ .idle ∧ sampleAndChoose srdy l = { l with
      srdy := true, begun := min (l.begun + 1) (stxCharacters l.transmitter).length }) := by
  unfold sampleAndChoose
  cases srdy
  · exact .inl ⟨rfl, rfl⟩
  · by_cases h : l.transmitter = .idle
    · exact .inr (.inl ⟨rfl, h, by simp [h]⟩)
    · exact .inr (.inr ⟨rfl, h, by simp [h]⟩)

/-- Every character on STX has 11 bit times, begins with a start bit, ends with a stop bit, and holds an
even number of ones between them (R160). -/
theorem stxCharacter_form (b : Byte) :
    (stxCharacter b).length = 11 ∧ (stxCharacter b).head? = some false ∧
      (stxCharacter b).getLast? = some true ∧
      ((stxCharacter b).dropLast.count true) % 2 = 0 := by
  revert b; decide

end Sys2Proof.Machine
end

