-- ==== Sys2Proof/Laws/Loop.lean ====
section
/-! SUPPORT. What the shared operations of the Loop Station can do, said once. -/

namespace Sys2Proof.Machine

/-- Every character on LTX has 10 bit times, begins with a start bit and ends with a stop bit (R125). -/
theorem ltxCharacter_form (b : Byte) :
    (ltxCharacter b).length = 10 ∧ (ltxCharacter b).head? = some false ∧
      (ltxCharacter b).getLast? = some true := by
  revert b; decide

theorem packetBytes_ne_nil (p : LoopPacket) : packetBytes p ≠ [] := by
  cases p <;> simp [packetBytes, be8]

/-- Characters stand on LTX exactly while the station has a packet to send. -/
@[simp] theorem ltxCharacters_isEmpty (ps : List SentPacket) :
    (ltxCharacters ps).isEmpty = ps.isEmpty := by
  cases ps with
  | nil => rfl
  | cons p ps => simp [ltxCharacters, packetBytes_ne_nil]

/-- A packet goes behind those the station is sending. -/
@[simp] theorem send_loop (p : LoopPacket) (expects : Option Window) (s : State) :
    (send p expects s).loop = { s.loop with
      sending := s.loop.sending ++ [⟨p, expects⟩], lde := true } := rfl

/-- A reservation is released, with everything that waits for its DATA, or there is none (R143). -/
theorem releaseReservation_cases (l : LoopStation) :
    (reservedBufferIx l = none ∧ releaseReservation l = l) ∨
    ∃ ix, reservedBufferIx l = some ix ∧ releaseReservation l = { setBuffer l ix .free with
      windows := l.windows.filter (· != .reservation)
      sending := l.sending.map (dropExpected .reservation)
      heard := l.heard.map fun h => { h with windows := h.windows.filter (· != .reservation) } } := by
  unfold releaseReservation
  cases h : reservedBufferIx l with
  | none => exact .inl ⟨rfl, rfl⟩
  | some ix => exact .inr ⟨ix, rfl, rfl⟩

/-- The end of a turn. -/
@[simp] theorem endTurn_loop (s : State) :
    (endTurn s).loop = { s.loop with
      phase := .none, exchange := none, refreshTurn := false, rebuildTurn := false
      passDeferred := false, candidate := none, idleTimer := some idleMicros } := rfl

/-- A search stops before the station's own address and probes every other one. -/
theorem searchFrom_cases (address : Nat) (s : State) :
    (address = s.loop.address ∧ searchFrom address s = searchFails s) ∨
    (address ≠ s.loop.address ∧ searchFrom address s = probe address s) := by
  unfold searchFrom
  split
  · exact .inl ⟨‹_›, rfl⟩
  · exact .inr ⟨‹_›, rfl⟩

/-- The passing step waits for a reservation and is taken otherwise (R138). -/
theorem passingStep_cases (s : State) :
    ((reservedBufferIx s.loop).isSome = true ∧
      passingStep s = s.setLoop { s.loop with passDeferred := true }) ∨
    (reservedBufferIx s.loop = none ∧ passingStep s = passToken s) := by
  unfold passingStep
  cases h : reservedBufferIx s.loop <;> simp

/-- A passing step that waited is taken now, or nothing comes about. -/
theorem resumePass_cases (s : State) :
    (s.loop.passDeferred = false ∧ resumePass s = s) ∨
    (s.loop.passDeferred = true ∧ resumePass s = passingStep s) := by
  unfold resumePass
  cases h : s.loop.passDeferred <;> simp

/-- A packet's end leaves the state alone, or is the act its command selects with a passing step that
waited for it. -/
theorem hearEnd_cases (select : Option LoopPacket → Option (HeardPacket → State → State)) (s : State) :
    hearEnd select s = s ∨
    ∃ h act, s.loop.heard = some h ∧ select h.packet = some act ∧
      hearEnd select s = resumePass (act h (s.setLoop { s.loop with heard := none })) := by
  unfold hearEnd
  split
  · rename_i h hh
    split
    · rename_i act ha
      exact .inr ⟨h, act, hh, ha, rfl⟩
    · exact .inl rfl
  · exact .inl rfl

/-- A packet decides the exchange only in the phase and the window of one name (R135, R136). -/
theorem answered_eq_some {w : Window} {phase : TurnPhase} {h : HeardPacket} {l : LoopStation}
    {x : Exchange} :
    answered w phase h l = some x ↔ w ∈ h.windows ∧ l.phase = phase ∧ l.exchange = some x := by
  unfold answered
  split <;> simp_all

/-- What the answer to every open window keeps, the start of a packet keeps (R127). -/
theorem answerWindows_induct {P : State → Prop} (p : Option LoopPacket) (ws : List Window) (s : State)
    (hs : P s) (h : ∀ w s, P s → P (answerWindow w p s)) :
    P (ws.foldl (fun s w => answerWindow w p s) s) := by
  induction ws generalizing s with
  | nil => exact hs
  | cons w ws ih => exact ih _ (h w s hs)

/-- An exchange is ended only while the packet answers it. -/
theorem failIfAnswering_cases (h : HeardPacket) (s : State) :
    failIfAnswering h s = s ∨ failIfAnswering h s = failExchange s := by
  unfold failIfAnswering; split <;> simp

end Sys2Proof.Machine
end

