-- ==== Sys2Proof/Laws/Outputs.lean ====
section
/-! SUPPORT. What the shared operations of the Output Stage can do, said once. -/

namespace Sys2Proof.Machine

@[simp] theorem outputAt_setOutputAt (x : OutputStage) (ix : OutputIx) (o : Output) :
    outputAt (setOutputAt x ix o) ix = o := by cases ix <;> rfl

@[simp] theorem setOutputAt_requestHeld (x : OutputStage) (ix : OutputIx) (o : Output) :
    (setOutputAt x ix o).requestHeld = x.requestHeld := by cases ix <;> rfl

@[simp] theorem setOutputAt_delivering (x : OutputStage) (ix : OutputIx) (o : Output) :
    (setOutputAt x ix o).delivering = x.delivering := by cases ix <;> rfl

@[simp] theorem fillTest_queue (o : Output) : (fillTest o).queue = o.queue := by
  unfold fillTest; split <;> rfl

@[simp] theorem fillTest_service (o : Output) : (fillTest o).service = o.service := by
  unfold fillTest; split <;> rfl

@[simp] theorem fillTest_threshold (o : Output) : (fillTest o).threshold = o.threshold := by
  unfold fillTest; split <;> rfl

/-- The fill test makes a FILLING output RUNNING at its threshold and leaves every other as it is. -/
theorem fillTest_state (o : Output) :
    (fillTest o).state =
      if o.state = .filling ∧ o.threshold ≤ o.queue.length then .running else o.state := by
  unfold fillTest; split <;> simp_all

@[simp] theorem appendItems_queue (items : List Item) (o : Output) :
    (appendItems items o).queue = o.queue ++ items := by
  unfold appendItems; split <;> simp_all

/-- Admission appends what fits, or leaves the queue as it is. -/
theorem admitItem_queue (item : Item) (continuity : Nat) (o : Output) :
    (admitItem item continuity o).queue = o.queue ∨
    (admitItem item continuity o).queue = o.queue ++ [item] ∨
    (o.gapOwed = true ∧
      (admitItem item continuity o).queue = o.queue ++ owedPair o.queue.getLast? item) := by
  unfold admitItem dropItem
  cases item <;> dsimp only <;> (repeat' split) <;> simp_all

/-- No item enters a full queue: an output's queue stays within its eight places. -/
theorem admitItem_length (item : Item) (continuity : Nat) (o : Output) (h : o.queue.length ≤ 8) :
    (admitItem item continuity o).queue.length ≤ 8 := by
  unfold admitItem dropItem
  cases item <;> dsimp only <;> (repeat' split) <;> simp_all

/-- The removal of the head item. -/
@[simp] theorem takeHead_queue (o : Output) : (takeHead o).queue = o.queue.tail := by
  unfold takeHead; dsimp only; split <;> rfl

/-- A grant takes the head item into delivery under the output's index, and does nothing at an empty
queue. -/
theorem grantTo_cases (ix : OutputIx) (x : OutputStage) :
    ((outputAt x ix).queue = [] ∧ grantTo ix x = x) ∨
    ∃ item rest, (outputAt x ix).queue = item :: rest ∧
      grantTo ix x = { setOutputAt x ix (takeHead (outputAt x ix)) with
        requestHeld := false, delivering := some (ix, item), port := portBytes ix item } := by
  unfold grantTo
  cases h : (outputAt x ix).queue with
  | nil => simp
  | cons item rest => exact .inr ⟨item, rest, rfl, rfl⟩

/-- An event at an output is followed by a grant exactly when a request waits, no item is in delivery
and the event leaves the output eligible. -/
theorem atOutput_cases (ix : OutputIx) (event : Output → Output) (x : OutputStage) :
    (atOutput ix event x = setOutputAt x ix (event (outputAt x ix)) ∧
      ¬ (x.requestHeld = true ∧ x.delivering.isNone = true ∧
        eligible (event (outputAt x ix)) = true)) ∨
    (atOutput ix event x = grantTo ix (setOutputAt x ix (event (outputAt x ix))) ∧
      x.requestHeld = true ∧ x.delivering.isNone = true ∧
        eligible (event (outputAt x ix)) = true) := by
  unfold atOutput
  simp only [setOutputAt_requestHeld, setOutputAt_delivering, outputAt_setOutputAt]
  split
  · exact .inr ⟨rfl, ‹_›⟩
  · exact .inl ⟨rfl, ‹_›⟩

/-- What an event at one output keeps, a cell's event at each output it named keeps (R31, R42). -/
theorem atNamed_induct {P : OutputStage → Prop} (insetFirst : Bool) (j : Judging)
    (event : Output → Output) (x : OutputStage) (hx : P x)
    (h : ∀ ix x, P x → P (atOutput ix event x)) : P (atNamed insetFirst j event x) := by
  unfold atNamed inOrder
  cases insetFirst <;> dsimp only <;> (repeat' split) <;> simp_all

end Sys2Proof.Machine
end

