-- ==== Sys2Proof/WellFormed.lean ====
section
/-! DEFINITION. The one check on a command's operands: the characters of a packet are at least its
kind byte, since a packet begins with the first character heard (R125). Every other operand is a byte or
a level and may take any value. -/

namespace Sys2Proof

/-- A command the outside can give. -/
def Instr.wellFormed : Instr → Bool
  | .loopActivity chars => !chars.isEmpty
  | _ => true

end Sys2Proof
end

