-- ==== Sys2Proof/Laws/PerInstr.lean ====
section
/-! SUPPORT. What is said of each command as syntax: a command is well formed exactly when it is not a
packet without characters (R125). -/

namespace Sys2Proof.Laws.WellFormedness

-- The proofs one after another: side by side, each on a stack of its own, they can exhaust memory.
set_option Elab.async false

/-- A command is well formed exactly when it is no LOOP_ACTIVITY without a character. -/
def Statement (i : Instr) : Prop := i.wellFormed = true ↔ i ≠ .loopActivity []

theorem powerOnReset (srate1 srate0 : Bool) : Statement (.powerOnReset srate1 srate0) := by simp [Statement, Instr.wellFormed]
theorem feedByte (b : Byte) : Statement (.feedByte b) := by simp [Statement, Instr.wellFormed]
theorem frameMark (fslt : Bool) : Statement (.frameMark fslt) := by simp [Statement, Instr.wellFormed]
theorem slotMark : Statement .slotMark := by simp [Statement, Instr.wellFormed]
theorem feedLossTimerExpiry (insetFirst : Bool) : Statement (.feedLossTimerExpiry insetFirst) := by simp [Statement, Instr.wellFormed]
theorem cellArrival : Statement .cellArrival := by simp [Statement, Instr.wellFormed]
theorem cellVerdict (order : VerdictOrder) : Statement (.cellVerdict order) := by simp [Statement, Instr.wellFormed]
theorem decoderRequest : Statement .decoderRequest := by simp [Statement, Instr.wellFormed]
theorem itemDeliveryComplete : Statement .itemDeliveryComplete := by simp [Statement, Instr.wellFormed]
theorem feedSecondClose : Statement .feedSecondClose := by simp [Statement, Instr.wellFormed]
theorem setLinkByteReceived (b : Byte) (parityBit stopBit : Bool) : Statement (.setLinkByteReceived b parityBit stopBit) := by simp [Statement, Instr.wellFormed]
theorem assemblerByte : Statement .assemblerByte := by simp [Statement, Instr.wellFormed]
theorem interByteTimeout : Statement .interByteTimeout := by simp [Statement, Instr.wellFormed]
theorem unknownKind : Statement .unknownKind := by simp [Statement, Instr.wellFormed]
theorem status : Statement .status := by simp [Statement, Instr.wellFormed]
theorem tune : Statement .tune := by simp [Statement, Instr.wellFormed]
theorem untune : Statement .untune := by simp [Statement, Instr.wellFormed]
theorem tuningAfterCell : Statement .tuningAfterCell := by simp [Statement, Instr.wellFormed]
theorem setOutput : Statement .setOutput := by simp [Statement, Instr.wellFormed]
theorem purchase : Statement .purchase := by simp [Statement, Instr.wellFormed]
theorem cancel : Statement .cancel := by simp [Statement, Instr.wellFormed]
theorem filmQuery : Statement .filmQuery := by simp [Statement, Instr.wellFormed]
theorem unlock : Statement .unlock := by simp [Statement, Instr.wellFormed]
theorem relock : Statement .relock := by simp [Statement, Instr.wellFormed]
theorem setPin : Statement .setPin := by simp [Statement, Instr.wellFormed]
theorem setCeiling : Statement .setCeiling := by simp [Statement, Instr.wellFormed]
theorem setStation : Statement .setStation := by simp [Statement, Instr.wellFormed]
theorem join : Statement .join := by simp [Statement, Instr.wellFormed]
theorem leave : Statement .leave := by simp [Statement, Instr.wellFormed]
theorem loopConfig : Statement .loopConfig := by simp [Statement, Instr.wellFormed]
theorem guide : Statement .guide := by simp [Statement, Instr.wellFormed]
theorem restore : Statement .restore := by simp [Statement, Instr.wellFormed]
theorem softReset : Statement .softReset := by simp [Statement, Instr.wellFormed]
theorem transmitChoice (srdy : Bool) : Statement (.transmitChoice srdy) := by simp [Statement, Instr.wellFormed]
theorem frameSent : Statement .frameSent := by simp [Statement, Instr.wellFormed]
theorem deskNoteEntersQueue : Statement .deskNoteEntersQueue := by simp [Statement, Instr.wellFormed]
theorem loopActivity (chars : List Byte) : Statement (.loopActivity chars) := by
  cases chars <;> simp [Statement, Instr.wellFormed]
theorem faultyPacket : Statement .faultyPacket := by simp [Statement, Instr.wellFormed]
theorem tokenReceived : Statement .tokenReceived := by simp [Statement, Instr.wellFormed]
theorem enquiryReceived : Statement .enquiryReceived := by simp [Statement, Instr.wellFormed]
theorem acceptReceived : Statement .acceptReceived := by simp [Statement, Instr.wellFormed]
theorem declineReceived : Statement .declineReceived := by simp [Statement, Instr.wellFormed]
theorem dataAckReceived : Statement .dataAckReceived := by simp [Statement, Instr.wellFormed]
theorem dataReceived : Statement .dataReceived := by simp [Statement, Instr.wellFormed]
theorem broadcastReceived : Statement .broadcastReceived := by simp [Statement, Instr.wellFormed]
theorem responseWindowExpiry : Statement .responseWindowExpiry := by simp [Statement, Instr.wellFormed]
theorem idleTimerExpiry : Statement .idleTimerExpiry := by simp [Statement, Instr.wellFormed]
theorem rebuildWaitExpiry : Statement .rebuildWaitExpiry := by simp [Statement, Instr.wellFormed]
theorem malformedMessage : Statement .malformedMessage := by simp [Statement, Instr.wellFormed]
theorem checkIn : Statement .checkIn := by simp [Statement, Instr.wellFormed]
theorem checkOut : Statement .checkOut := by simp [Statement, Instr.wellFormed]
theorem vacateNow : Statement .vacateNow := by simp [Statement, Instr.wellFormed]
theorem keyDelivery : Statement .keyDelivery := by simp [Statement, Instr.wellFormed]
theorem keyWithdrawal : Statement .keyWithdrawal := by simp [Statement, Instr.wellFormed]
theorem tariffSet : Statement .tariffSet := by simp [Statement, Instr.wellFormed]
theorem tariffRemove : Statement .tariffRemove := by simp [Statement, Instr.wellFormed]
theorem time (folioFirst : Bool) : Statement (.time folioFirst) := by simp [Statement, Instr.wellFormed]
theorem deskNote : Statement .deskNote := by simp [Statement, Instr.wellFormed]
theorem roomQuery : Statement .roomQuery := by simp [Statement, Instr.wellFormed]
theorem minuteAdvance (folioFirst : Bool) : Statement (.minuteAdvance folioFirst) := by simp [Statement, Instr.wellFormed]
theorem startTimeout : Statement .startTimeout := by simp [Statement, Instr.wellFormed]
theorem loopPacketSent : Statement .loopPacketSent := by simp [Statement, Instr.wellFormed]

end Sys2Proof.Laws.WellFormedness
end

