-- ==== Sys2Proof/Tests/Slice0.lean ====
section
/-! SUPPORT. The model's own tests: the well-formedness check, one-step tests with values that the
worked sequences of spec/ give, and for every statement with hypotheses a witness that meets them,
clause by clause, at boundary values. -/

namespace Sys2Proof.Tests

open Sys2Proof.Machine

/-! ### Small states -/

/-- The state after a command. -/
def after (o : Host.Outcome State Fault Refusal) : State :=
  match o with
  | .next t => t
  | _ => State.reset

/-- A request frame with tag 7. -/
def req (kind : Byte) (body : List Byte) : Frame := ⟨kind, 7, body⟩

/-- The frame is held and the reply slot EMPTY. -/
def holding (f : Frame) (s : State) : State := s.setLink { s.link with assembler := .holding f }

/-- A desk message addressed to the room. -/
def msg (body : List Byte) : InboxMessage := ⟨false, body⟩

/-- The message is in inbox buffer 0. -/
def mailed (body : List Byte) (s : State) : State :=
  s.setLoop { s.loop with buffer0 := .filled (msg body) }

/-- A MEMBER of the loop at address 37 with successor 60. -/
def ringed (s : State) : State := s.setLoop { s.loop with
  state := .member, address := 37, successor := some 60, idleTimer := some 30000 }

/-- A packet is being heard that the windows wait for, begun in the station's own turn or not. -/
def hearing (p : Option LoopPacket) (ws : List Window) (s : State) (begun : Bool := false) : State :=
  s.setLoop { s.loop with heard := some ⟨p, ws, begun⟩ }

/-- In a turn's exchange. -/
def exchanging (phase : TurnPhase) (x : Exchange) (s : State) : State :=
  s.setLoop { s.loop with phase := phase, exchange := some x, idleTimer := none }

/-- Stay 5,110 in OCCUPIED at minute 100,000 with K = 5,000, G = 300, F = 2, H = 5 and PIN 2580. -/
def staying : State := { State.reset with
  stay := { State.reset.stay with
    room := .occupied, stay := 5110, previewAllowance := 120, grace := 300, startTimer := none }
  gate := { State.reset.gate with roomCeiling := 2, hardCeiling := 5, pin := some [2, 5, 8, 0] }
  folio := { State.reset.folio with cap := 5000, quality := 10 }
  clock := { set := true, minute := 100000, elapsed := some 60000000 } }

/-- The room state changed. -/
def inRoom (r : RoomState) (s : State) : State := s.setStay { s.stay with room := r }

/-- An entry in place 0. -/
def withEntry (e : Entry) (s : State) : State :=
  s.setFolio { s.folio with entries := s.folio.entries.set 0 (some e), reserved :=
    if e.state = .bought then e.price.getD 0 else 0 }

/-- Film 250 in a state, priced unless in PREVIEW. -/
def film250 (state : EntryState) : Entry := { newEntry 250 0 with
  state := state, price := if state = .preview then none else some 1450
  windowEnd := if state = .preview then none else some 101440
  credit := if state = .settling then some 207 else none }

/-- The tariff of film 250. -/
def tariff250 : Tariff := { film := 250, price := 1450, window := 1440, rating := 2 }

/-- The tariff in place 0. -/
def priced (t : Tariff) (s : State) : State :=
  s.setFolio { s.folio with tariffs := s.folio.tariffs.set 0 (some t) }

/-- A number of records in the posting queue. -/
def records (n : Nat) (s : State) : State :=
  s.setFolio { s.folio with
    queue := (List.range n).map fun i => ⟨i + 1, .charge, 90, 100, 5⟩, nextSerial := n + 1 }

/-- MAIN in a state with a queue. -/
def showing (state : OutputState) (queue : List Item) (s : State) : State :=
  s.setOutputs { s.outputs with main := { s.outputs.main with
    state := state, service := some 7, queue := queue } }

/-- INSET in a state with a queue. -/
def insetShowing (state : OutputState) (queue : List Item) (s : State) : State :=
  s.setOutputs { s.outputs with inset := { s.outputs.inset with
    state := state, service := some 7, queue := queue } }

/-- A decoder request waits. -/
def asked (s : State) : State := s.setOutputs { s.outputs with requestHeld := true }

/-- An item is in delivery. -/
def delivering (s : State) : State :=
  s.setOutputs { s.outputs with
    delivering := some (.main, .marker .gap), port := portBytes .main (.marker .gap) }

/-- LOCKED with a slot open. -/
def locked (slot : Nat) (bytes : List Byte) (s : State) : State := s.setFeed { s.feed with
  state := .locked, slot := slot, cell := some bytes, lossTimer := some 10000 }

/-- The check byte of a header: the XOR of its seven other bytes. -/
def headed (bs : List Byte) : List Byte := bs ++ [bs.foldl (· ^^^ ·) 0]

/-- A cell's 139 first bytes: a header, then zeros. -/
def mostOf (header : List Byte) : List Byte := headed header ++ List.replicate 131 0

/-- A CLEAR cell of service 7 with payload zeros. -/
def plainCell : Cell := parseCell (mostOf [0, 7, 0, 0, 0, 0, 9] ++ [0])

/-- An EVEN cell of service 3, slot 5, frame sequence 2, key group 1 (section 2.4.1). -/
def evenCell : Cell := parseCell (mostOf [5, 3, 0, 0, 0x14, 2, 9] ++ [0])

/-- The cell is in judging for MAIN. -/
def judging (c : Cell) (s : State) : State :=
  s.setDescrambler { s.descrambler with judging := some ⟨c, 0, none, true, false, false⟩ }

/-- A GUEST_STATUS body (section 12.2) with K = 5,000 and PIN 2580. -/
def guestStatus (action vacate : Byte) (stay : Nat) : List Byte :=
  [0x10, action, vacate] ++ be16 stay ++ be24 5000 ++ [2, 5, 60, 15] ++ be16 120 ++ be16 300 ++
    [10, 4, 2, 5, 8, 0]

/-- What those bytes say. -/
def guestParams (stay : Nat) : StayParams :=
  { stay := stay, cap := 5000, roomCeiling := 2, hardCeiling := 5, pin := some [2, 5, 8, 0]
    unlockDuration := 60, lockoutLength := 15, previewAllowance := 120, grace := 300, quality := 10 }

/-! ### Well-formedness and the interface -/

theorem test_empty_packet_is_ill_formed : Instr.wellFormed (.loopActivity []) = false := by decide
theorem test_packet_is_well_formed : Instr.wellFormed (.loopActivity [0x31]) = true := by decide
theorem test_no_row_has_bits : decodeTableWord 8 0x31 = none := by decide
theorem test_fetch_word_changes_nothing : State.reset.withFetchWord 8 0x31 = State.reset := by rfl
theorem test_idle_step : step State.reset = .next State.reset := by rfl
theorem test_idle_command : exec .malformedMessage State.reset = .next State.reset := by rfl

/-! ### Values that spec/ works out -/

/-- Section 2.4.1: S1, S2 and S3 of the worked case. -/
theorem test_keystream_of_the_worked_case :
    (keystream ⟨197125, 0, 4⟩ evenCell).take 3 = [1, 3740067438, 2471293143] := by decide

/-- Sections 6.7, 6.8 and 12.6: the credits 207, 1,090, 999, 247, and none for 200 of 4,200. -/
theorem test_credits_of_the_worked_stays :
    creditAmount 1450 5400 900 10 = 207 ∧ creditAmount 2000 1000 1200 25 = 1090 ∧
      creditAmount 999 0 75 25 = 999 ∧ creditAmount 990 1800 600 20 = 247 ∧
      creditAmount 1200 4000 200 25 = 0 := by decide

/-- Section 1.9, steps 1 and 3. -/
theorem test_marks_of_the_worked_feed :
    (after (execSlotMark State.reset)).feed.state = .searching ∧
      (after (execFrameMark true (after (execSlotMark State.reset)))).feed.cell = some [] := by decide

/-- Section 1.9, step 8: 90 bytes at a slot mark are a runt. -/
theorem test_runt_of_the_worked_feed :
    (after (execSlotMark (locked 3 (List.replicate 90 0) State.reset))).feed.counts.runts = 1 := by
  decide

/-- Section 1.9, step 11: the overrun keeps slot counter 47. -/
theorem test_overrun_of_the_worked_feed :
    (after (execSlotMark (locked 47 [] State.reset))).feed.state = .searching ∧
      (after (execSlotMark (locked 47 [] State.reset))).feed.slot = 47 := by decide

/-- Section 1.9, step 13: the 500th frame mark signals the boundary. -/
theorem test_boundary_of_the_worked_feed :
    let s := locked 0 [] State.reset
    let t := after (execFrameMark false (s.setFeed { s.feed with frameCount := 499 }))
    t.feed.frameCount = 0 ∧ t.folio.closesDue = 1 := by decide

/-- Section 3.9, step 2a: a CELL needs two places while a GAP is owed. -/
theorem test_owed_gap_needs_two_places :
    let o := admitItem (.cell 9 0 []) 21 { State.reset.outputs.inset with
      state := .running, queue := List.replicate 7 (.cell 9 0 []), gapOwed := true
      expected := some 22, overflows := 1 }
    o.queue.length = 7 ∧ o.overflows = 2 ∧ o.expected = some 21 := by decide

/-- Section 3.9, step 4: the arriving GAP takes one place and the debt is paid. -/
theorem test_arriving_gap_pays_the_debt :
    let o := takeContinuity 22 { State.reset.outputs.inset with
      state := .running, queue := List.replicate 6 (.cell 9 0 []), gapOwed := true
      expected := some 21, overflows := 2 }
    o.queue.length = 7 ∧ o.gapOwed = false ∧ o.expected = some 23 ∧ o.overflows = 2 := by decide

/-- Section 3.10, step 7: B is delivered and MAIN runs dry. -/
theorem test_main_runs_dry :
    let s := insetShowing .filling [.marker .locked] (showing .running [.cell 4 0 []] State.reset)
    let t := (after (execDecoderRequest s)).outputs
    t.delivering = some (.main, .cell 4 0 []) ∧ t.main.state = .filling ∧ t.main.underruns = 1 := by
  decide

/-- Section 3.10, step 9: priority 9 and threshold 0 are stored as 3 and 1. -/
theorem test_set_output_clamps :
    let o := (after (execSetOutput (holding (req 4 [1, 9, 0]) State.reset))).outputs.inset
    o.priority = 3 ∧ o.threshold = 1 := by decide

/-- Section 4.11, step 4: the unlock of minute 100,002 would run 60 minutes; here from 100,000. -/
theorem test_unlock_expiry :
    (after (execUnlock (holding (req 8 [4, 2, 5, 8, 0]) staying))).gate.unlockExpiry = some 100060 := by
  decide

/-- Section 4.11, step 9: the third wrong entry locks out for 15 minutes. -/
theorem test_third_wrong_entry :
    let s := staying.setGate { staying.gate with failures := 2 }
    let t := (after (execUnlock (holding (req 8 [4, 9, 9, 9, 9]) s))).gate
    t.lockoutExpiry = some 100015 ∧ t.failures = 0 := by decide

/-- Section 4.11, step 11: a lowering needs no PIN. -/
theorem test_ceiling_is_lowered_freely :
    (after (execSetCeiling (holding (req 0x0B [1, 0]) staying))).gate.roomCeiling = 1 := by decide

/-- Section 5.10, step 6: the window ends 1,440 minutes after the purchase and R holds the price. -/
theorem test_purchase_of_film_250 :
    let t := (after (execPurchase (holding (req 5 [0, 250]) (priced tariff250 staying)))).folio
    t.reserved = 1450 ∧ (entryAt t 0).bind (·.windowEnd) = some 101440 := by decide

/-- Section 5.10, step 10: C reaches G at a close, and the film is CHARGED under serial 1. -/
theorem test_commit_at_the_grace :
    let e := { film250 .bought with clear := 299, impaired := 1, seenClear := true }
    let s := withEntry e staying
    let t := (after (execFeedSecondClose (s.setFolio { s.folio with closesDue := 1 }))).folio
    t.total = 1450 ∧ t.reserved = 0 ∧ (entryAt t 0).bind (·.chargeSerial) = some 1 ∧
      t.queue.length = 1 := by decide

/-- R77: with a preview allowance of 0 a flag kept over a CANCEL counts no preview second. -/
theorem test_no_preview_second_without_an_allowance :
    let s := withEntry { newEntry 250 0 with previewUsed := 7, seenFail := true } staying
    let t := (s.setFolio { s.folio with closesDue := 1, feedSecond := 9 }).setStay
      { s.stay with previewAllowance := 0 }
    (after (execFeedSecondClose t)).folio.entries.head? =
      some (some { newEntry 250 9 with previewUsed := 7 }) := by decide

/-- R69: after a SOFT_RESET the close of the boundary signalled before it leaves a flag set since, and the
next close counts it. -/
theorem test_a_flag_after_a_soft_reset_waits :
    let e := { film250 .bought with seenClear := true }
    let s := withEntry e staying
    let t (old : Nat) := s.setFolio { s.folio with closesDue := 1, closesBeforeReset := old }
    let closed (old : Nat) := (after (execFeedSecondClose (t old))).folio
    entryAt (closed 1) 0 = some e ∧ (closed 1).closesDue = 0 ∧ (closed 1).closesBeforeReset = 0 ∧
      (closed 1).feedSecond = 1 ∧ ((entryAt (closed 0) 0).map (·.clear)) = some 1 ∧
      (softResetFolio (t 0).folio).closesBeforeReset = 1 := by decide

/-- Section 5.11: of the evictable entries the lowest last-presented value goes, and the lower place of
two that share it. -/
theorem test_eviction :
    evictPlace [some { film250 .bought with seenClear := true }, some (film250 .charged),
      some { newEntry 305 4620 with film := 305 }, some (newEntry 611 4210), some (newEntry 48 4905),
      some (newEntry 17 4210), some { newEntry 402 4100 with seenClear := true },
      some (newEntry 126 4950)] = some 3 := by decide

/-- Section 6.8: at check-out film 512 takes the one place and film 88 waits with 999. -/
theorem test_settlements_at_check_out :
    let paid (film price clear impaired : Nat) : Entry := { newEntry film 0 with
      state := .charged, price := some price, clear := clear, impaired := impaired
      windowEnd := some 200000 }
    let s := records 9 staying
    let t := leaveTable (s.setFolio { s.folio with
      total := 6500, quality := 25
      entries := [none, some (paid 70 1200 4000 200), some (newEntry 301 0), none,
        some (paid 512 2000 1000 1200), none, some (paid 88 999 0 75), none] })
    t.folio.total = 5410 ∧ t.folio.queue.length = 10 ∧
      t.folio.entries.map (·.map (·.film)) = [none, none, none, none, none, none, some 88, none] := by
  decide

/-- Section 7.8.1, steps 2 and 3. -/
theorem test_time_and_minute :
    let s := mailed [0x14, 0x03, 0x0D, 0x9F] State.reset
    let t := after (execTime false s)
    t.clock = { set := true, minute := 200095, elapsed := some 60000000 } ∧
      (after (execMinuteAdvance true t)).clock.minute = 200096 := by decide

/-- Section 7.9, steps 3 and 4: in CLOSING the departing number is refused, another is held. -/
theorem test_changeover_holds_the_new_stay :
    (after (execCheckIn (mailed (guestStatus 1 0 4023) (inRoom .closing staying)))).stay.pendingCheckIn
      = some (guestParams 4023) := by decide

/-- Section 12.8, step 2: the rebuild wait of address 37 is 4,440 µs. -/
theorem test_rebuild_wait :
    (after (execIdleTimerExpiry (ringed State.reset))).loop.rebuildWait = some 4440 := by decide

/-- Section 12.2: a TOKEN to address 37 is 31 25 25. -/
theorem test_token_bytes : packetBytes (.token 37) = [0x31, 0x25, 0x25] := by decide

/-- R126: differing destination copies make a packet faulty. -/
theorem test_differing_copies : judgePacket [0x31, 0x25, 0x24] = none := by decide

/-- R150: a note with a character below 0x20 is malformed. -/
theorem test_malformed_note : parseDesk (msg [0x15, 1, 0x1F]) = none := by decide

/-- Section 10.3: JOIN with tag 7 is A5 00 0D 07 and the check byte 14. -/
theorem test_join_frame :
    (after (execAssemblerByte ({ State.reset with link := { State.reset.link with
      assembler := .assembling [0xA5, 0x00, 0x0D, 0x07] none, interByteTimer := some 44
      fifo := [⟨0x14, false, false, false⟩] } }))).link.assembler = .holding (req 0x0D []) := by decide

/-- R48 and section 12.1: a GAP marker of INSET at the port is 02 07, DSTART at its first byte alone. -/
theorem test_port_bytes :
    portBytes .inset (.marker .gap) = [⟨2, true, true⟩, ⟨7, false, true⟩] := by decide

/-- Section 10.1: start bit, A5 least significant bit first, its even parity, stop bit. -/
theorem test_stx_character : stxCharacter 0xA5 =
    [false, true, false, true, false, false, true, false, true, false, true] := by decide

/-- R125: start bit, 31 least significant bit first, stop bit; a TOKEN is three characters. -/
theorem test_ltx_character :
    ltxCharacter 0x31 = [false, true, false, false, false, true, true, false, false, true] ∧
      (ltxCharacters [⟨.token 37, none⟩]).map List.length = [10, 10, 10] := by decide

/-- R160 and R166: the reply OK to JOIN with tag 7 is A5 01 8D 07 00 and the check byte 95. -/
theorem test_reply_bytes :
    sentBytes (.reply ⟨0x8D, 7, .ok, .codeOnly⟩) = [0xA5, 1, 0x8D, 7, 0, 0x95] := by decide

/-- R167: of a frame of six bytes five have begun; SRDY false lets the sixth wait, SRDY true lets it
begin, and then the frame ends. -/
theorem test_no_byte_begins_without_srdy :
    let s := staying.setLink { staying.link with
      slot := .sending, transmitter := .reply ⟨0x8D, 7, .ok, .codeOnly⟩, begun := 5 }
    let examined (srdy : Bool) := after (execTransmitChoice srdy s)
    (after (execFrameSent (examined false))).link.slot = .sending ∧
      (after (execFrameSent (examined true))).link.slot = .empty := by decide

/-- R25 and R42: with a request held, INSET's GAP of step 2 is granted, not MAIN's LOCKED marker. Section
3.10, steps 5 and 12: with no GAP the verdict item makes the output eligible and the request is granted it;
with two outputs, the one it reaches first, while the other keeps its item. -/
theorem test_a_verdict_answers_the_request :
    let s := asked (insetShowing .filling [] (showing .filling [] staying))
    let t := s.setOutputs { s.outputs with inset := { s.outputs.inset with expected := some 5 } }
    let j : Judging := ⟨{ plainCell with rating := 7 }, 0, none, true, true, false⟩
    let outs (gap item : Bool) (u : State) := (after (execCellVerdict ⟨gap, item, false⟩
      (u.setDescrambler { handedOn := [], judging := some j }))).outputs
    ([(false, false), (false, true), (true, false), (true, true)].all fun o =>
      (outs o.1 o.2 t).delivering == some (.inset, .marker .gap)) = true ∧
    (outs false false s).delivering = some (.main, .marker .locked) ∧
      (outs false false s).inset.queue = [.marker .locked] ∧ (outs false false s).requestHeld = false ∧
      (outs false true s).delivering = some (.inset, .marker .locked) ∧
      (outs false true s).main.queue = [.marker .locked] := by decide

set_option maxRecDepth 20000 in
/-- R75: the verdict of an answered cell sets seen-clear of the entry that answered, BOUGHT before a CANCEL
and PREVIEW now; with that entry gone and a new one of the film in its place, no flag is set; the item
reaches MAIN in both. -/
theorem test_the_report_goes_to_the_entry_that_answered :
    let j : Judging := ⟨{ plainCell with film := 250 }, 0, none, true, false, true⟩
    let s (e : Entry) := showing .running [] (withEntry e staying)
    let t (e : Entry) := after (execCellVerdict ⟨false, false, true⟩
      ((s e).setDescrambler { handedOn := [], judging := some j }))
    (t { newEntry 250 0 with answered := true }).folio.entries[0]? =
        some (some { newEntry 250 0 with seenClear := true }) ∧
      (t (newEntry 250 0)).folio.entries[0]? = some (some (newEntry 250 0)) ∧
      ([newEntry 250 0, { newEntry 250 0 with answered := true }].all fun e =>
        (t e).outputs.main.queue == [.cell 7 250 plainCell.payload] &&
          (t e).descrambler.judging.isNone) = true := by decide

/-- R74 and R75: a PURCHASE that needs a place removes the PREVIEW entry an answered cell refers to. -/
theorem test_purchase_evicts_the_answered_preview :
    let s := holding (req 5 [0, 250]) (priced tariff250 (staying.setFolio { staying.folio with
      entries := some { newEntry 9 0 with answered := true } ::
        (List.range 7).map fun i => some { film250 .charged with film := i + 1 } }))
    answeredPlace s.folio.entries = some 0 ∧
      answeredPlace (after (execPurchase s)).folio.entries = none ∧
      placeOf (after (execPurchase s)).folio.entries 250 = some 0 := by decide

/-- R3: a cell handed on does not arrive in NO_FEED, and arrives in LOCKED. -/
theorem test_no_cell_arrives_in_no_feed :
    let s := (showing .running [] staying).setDescrambler { handedOn := [⟨plainCell, 0⟩], judging := none }
    (execCellArrival s = .next s) ∧
      (after (execCellArrival (locked 0 [] s))).descrambler.judging.isSome = true := by
  refine ⟨rfl, by decide⟩

/-- R3, R39 and R47: the NO_SIGNAL markers of a feed loss make both outputs eligible, and the one reached
first is granted its head item. -/
theorem test_a_feed_loss_answers_the_request :
    let s := locked 0 [] (asked (insetShowing .filling [.cell 7 0 []] (showing .filling [] staying)))
    let x (insetFirst : Bool) := (after (execFeedLossTimerExpiry insetFirst s)).outputs
    (x false).delivering = some (.main, .marker .noSignal) ∧ (x false).requestHeld = false ∧
      (x false).inset.queue.length = 2 ∧ (x false).inset.state = .running ∧
      (x true).delivering = some (.inset, .cell 7 0 []) ∧ (x true).main.queue.length = 1 := by decide

/-- R65: an unlock and a lockout that end at one change, the unlock first. -/
theorem test_the_unlock_ends_before_the_lockout :
    let s := { staying with gate := { staying.gate with
      unlockExpiry := some 100001, lockoutExpiry := some 100001 } }
    ((after (execMinuteAdvance false s)).link.reports.map fun
      | .lockState cause _ _ => some cause
      | _ => none) = [some .unlockEnded, some .lockoutEnded] := by decide

/-- R100: the place a lapse frees goes to the entry waiting, before a lower place that settles later in
the same change asks for it. -/
theorem test_a_lapse_frees_its_place_at_once :
    let e (film : Nat) (st : EntryState) := some { film250 st with film := film, impaired := 60 }
    let s := records 9 staying
    let t := folioMinute 101440 (s.setFolio { s.folio with
      total := 2900, reserved := 1450
      entries := [e 1 .bought, e 2 .charged, e 3 .settling, none, none, none, none, none] })
    t.folio.queue.map (·.film) = List.replicate 9 90 ++ [3] ∧
      (entryAt t.folio 1).map (·.state) = some .settling ∧ t.folio.total = 2693 := by decide

/-- R133: a TOKEN that begins within the station's own turn is not taken. -/
theorem test_no_token_is_taken_within_a_turn :
    let s := exchanging .enquiring (.roomReport false) (ringed staying)
    let t := (after (execTokenReceived (hearing (some (.token 37)) [.enquiring] s true))).loop
    t.turnCount = 0 ∧ t.retryCount = 1 := by decide

/-- R127: two windows stand open at once, and silence ends them one after the other. -/
theorem test_two_windows :
    let s := exchanging .enquiring (.roomReport false) (ringed staying)
    let t := s.setLoop { s.loop with windows := [.enquiring, .reservation], buffer1 := .reserved }
    let u := (after (execResponseWindowExpiry t)).loop
    u.windows = [.reservation] ∧ u.phase = .enquiring ∧ u.exchange = none ∧ u.passDeferred = true := by
  decide

/-! ### Witnesses: the laws and the rules of the whole part -/

/-- A sound state with a command at the front of its queue. -/
def waiting (c : Instr) (s : State) : State := { s with pending := [c] }

theorem witness_stepRunsTheFrontCommand :
    (waiting .status staying).pending = .status :: [] ∧ State.reset.pending = [] := by decide

theorem witness_everyCommandCompletes :
    let s := State.reset
    let film := { plainCell with film := 250 }
    s.feed.lossTimer = none ∧ s.descrambler = ⟨[], none⟩ ∧ s.outputs.delivering = none ∧
      s.folio.closesDue = 0 ∧ s.link.fifo = [] ∧ s.link.interByteTimer = none ∧ s.link.slot = .empty ∧
      s.link.assembler = .hunting ∧ s.desk.handling = none ∧ oldestFilled s.loop = none ∧
      s.loop.heard = none ∧ s.loop.windows = [] ∧ s.loop.idleTimer = none ∧ s.loop.rebuildWait = none ∧
      s.loop.sending = [] ∧ s.clock.set = false ∧ staying.stay.room ≠ .starting ∧ film.film ≠ 0 ∧
      requested 0x01 (req 0x01 []) (holding (req 0x01 []) s) ∧ (req 0x01 []).kind.toNat ≠ 0x02 ∧
      atHandler .b0 (msg [0x16]) (mailed [0x16] s) ∧ parseDesk (msg [0x16]) = some .roomQuery ∧
      (hearing none [] s).loop.heard = some ⟨none, [], false⟩ := by decide

theorem witness_everyStepKeepsTheLaws :
    let s := waiting .slotMark staying
    feedOk s.feed = true ∧ keysOk s.keys = true ∧ outputsOk s.outputs = true ∧
      billingOk s = true ∧ descramblerOk s.descrambler = true ∧
      (waiting .restore staying).pending = .restore :: [] ∧
      restoreSound (waiting .restore staying) = true ∧
      loopOk s.loop = true ∧ linkOk s.link = true ∧ step s = .next (after (step s)) := by
  refine ⟨by decide, by decide, by decide, by decide, by decide, rfl, by decide, by decide, by decide,
    rfl⟩

theorem witness_packetsReadBackAsSent :
    packetFits (.token 255) = true ∧ packetFits (.enquiry 255 255) = true ∧
      packetFits (.data 0 255 [0]) = true ∧
      packetFits (.data 255 255 (List.replicate 64 0xFF)) = true := by decide

theorem witness_theBodiesHoldTheirFields :
    (65535 : Nat) < 256 ^ 2 ∧ (16777215 : Nat) < 256 ^ 3 ∧ staying.loop.address < 256 ^ 1 ∧
      (roomReportBody staying).length = 32 ∧
      (recordBody 5110 ⟨65535, .credit, 4095, 60000, 16777215⟩).length = 13 := by decide

theorem witness_snapshotsReadBackAsWritten :
    snapshotFits (snapshotOf (records 10 (withEntry (film250 .charged) staying))) = true := by decide

theorem witness_anEmittedSnapshotIsAccepted :
    billingOk (records 10 staying) = true ∧ (records 10 staying).stay.stay ≠ 0 := by decide

/-- A snapshot of the stay with a BOUGHT film, T = 3,550 and R = 1,450, so that T + R = K. -/
def fullyOwed : Snapshot := { snapshotOf staying with
  total := 3550, entries := [⟨250, 1, 1450, 299, 0, 101440⟩] }

/-- The cause a RESTORE of a snapshot is refused with in STARTING. -/
def refusal (x : Snapshot) : Option RestoreCause := restoreCause .starting (snapshotBytes x)

set_option maxRecDepth 10000 in
/-- The seven refusals of R175, each just beyond what passes. -/
theorem witness_everyRefusalOfRestore :
    let e : SnapEntry := ⟨250, 1, 1450, 299, 0, 101440⟩
    let r (serial : Nat) : SnapRecord := ⟨serial, 1, 0, 250, 1450, 5⟩
    let many (n : Nat) := (List.range n).map fun i => r (i + 1)
    let f := req 0x11 (snapshotBytes fullyOwed)
    requested 0x11 f (holding f State.reset) ∧ refusal fullyOwed = none ∧
      restoreCause .vacant (snapshotBytes fullyOwed) = some .notStarting ∧
      restoreCause .starting ((snapshotBytes fullyOwed).dropLast ++ [0]) = some .badCheck ∧
      refusal { fullyOwed with stay := 0 } = some .noStay ∧
      refusal { fullyOwed with records := many 11, nextSerial := 12 } = some .overCapacity ∧
      refusal { fullyOwed with closing := 2 } = some .badContent ∧
      refusal { fullyOwed with entries := [e, e] } = some .badContent ∧
      refusal { fullyOwed with records := [r 1, r 3], nextSerial := 4 } = some .badContent ∧
      refusal { fullyOwed with records := many 10, nextSerial := 11 } = some .queueLaw ∧
      refusal { fullyOwed with records := many 9, nextSerial := 10 } = none ∧
      refusal { fullyOwed with total := 3551 } = some .overCap := by decide

/-- A snapshot of a stay with a paid film, offered in STARTING. -/
def offered : Frame := req 0x11 (snapshotBytes (snapshotOf (withEntry (film250 .charged) staying)))

theorem witness_restoreBringsBackTheBilling :
    let s := withEntry (film250 .charged) staying
    let t := holding offered State.reset
    billingOk s = true ∧ s.stay.room = .occupied ∧ anySettling s.folio.entries = false ∧
      billingOk t = true ∧ t.stay.room = .starting ∧ requested 0x11 offered t ∧
      offered.body = snapshotBytes (snapshotOf s) := by decide

set_option maxRecDepth 10000 in
/-- Snapshots with an entry that settles, one under the closing mark, and one with a STAY_CLOSED record. -/
theorem witness_restoreGoesOnSettlingAndClosing :
    let settling : SnapEntry := ⟨250, 3, 1450, 5400, 900, 101440⟩
    let closed : SnapRecord := ⟨65535, 3, 0, 0, 1450, 5⟩
    let x := { fullyOwed with entries := [settling] }
    refusal x = none ∧ refusal { x with closing := 1 } = none ∧
      refusal { fullyOwed with
        closing := 1, entries := [], records := [closed], nextSerial := 1 } = none ∧
      creditAmount 1450 5400 900 10 = 207 := by decide

theorem witness_noForbiddenCellIsQueued :
    effectiveCeiling staying.gate < { plainCell with rating := 3 }.rating ∧
      (judging { plainCell with rating := 3 } staying).descrambler.judging.isSome = true ∧
      mayShow staying { plainCell with film := 250, barred := true } = false := by decide

/-- A film cell that got its answer from this CELL_VERDICT, and one that has had it before. -/
theorem witness_anAnswerStandsOnTheEntitlement :
    let c := { plainCell with film := 250 }
    let s := judging c (withEntry (film250 .bought) staying)
    let t := after (exec (.cellVerdict ⟨false, false, true⟩) s)
    exec (.cellVerdict ⟨false, false, true⟩) s = .next t ∧
      t.descrambler.judging = some ⟨c, 0, none, true, false, true⟩ ∧
      exec .status t = .next (after (exec .status t)) ∧
      (after (exec .status t)).descrambler.judging = t.descrambler.judging ∧
      c.rating ≤ effectiveCeiling s.gate ∧ mayShow s c = true := by
  refine ⟨rfl, by decide, rfl, rfl, by decide, by decide⟩

theorem witness_theActiveKeyNeverChanges :
    exec .keyDelivery State.reset = .next (after (exec .keyDelivery State.reset)) ∧
      (keyGroup { State.reset.keys with groups := [⟨some ⟨1, 2, 3⟩, none, some .even⟩] } 0).active
        = some .even := by
  exact ⟨rfl, by decide⟩

theorem witness_keysAndTariffs : exec .status staying = .next (after (exec .status staying)) ∧
    (∀ a b, Instr.status ≠ .powerOnReset a b) ∧ Instr.status ≠ .keyDelivery ∧
    Instr.status ≠ .keyWithdrawal ∧ Instr.status ≠ .tariffSet ∧ Instr.status ≠ .tariffRemove := by
  refine ⟨rfl, ?_, by decide, by decide, by decide, by decide⟩
  intro a b h
  cases h

theorem witness_recordsLeaveOnlyOnAcknowledgement :
    billingOk (records 10 staying) = true ∧
      exec .status (records 10 staying) = .next (after (exec .status (records 10 staying))) ∧
      Instr.status ≠ .dataAckReceived ∧ Instr.status ≠ .vacateNow := by
  refine ⟨by decide, rfl, by decide, by decide⟩

theorem witness_onlyTheRoomsPinUnlocks :
    let s := holding (req 8 [4, 2, 5, 8, 0]) staying
    s.gate.unlockExpiry = none ∧ (after (exec .unlock s)).gate.unlockExpiry.isSome = true := by decide

/-! ### Witnesses: the feed, keys and outputs -/

theorem witness_aByteJoinsTheOpenSlot :
    State.reset.feed.state ≠ .locked ∧
      (locked 0 (List.replicate 140 0) State.reset).feed.cell = some (List.replicate 140 0) ∧
      (locked 0 (List.replicate 138 0) State.reset).feed.cell = some (List.replicate 138 0) := by decide

set_option maxRecDepth 10000 in
/-- The five outcomes of the 140th byte: a header fault; a mismatch with a run of 1 and with one of 2; a
cell handed on; a guide cell. -/
theorem witness_theLastByteJudgesTheCell :
    let cell (h : List Byte) := parseCell (mostOf h ++ [0])
    let sound (c : Cell) := c.headerXor = c.headerCheck ∧ c.mode ≠ .invalid ∧ c.spare = 0 ∧
      ¬ (c.service = 0 ∧ c.film ≠ 0)
    (mostOf [0, 7, 0, 0, 0, 0, 9]).length = 139 ∧ ¬ sound (cell [0, 7, 0, 0, 0x0C, 0, 9]) ∧
      sound (cell [1, 7, 0, 0, 0, 0, 9]) ∧ (cell [1, 7, 0, 0, 0, 0, 9]).slot ≠ 0 ∧
      sound (cell [0, 7, 0, 0, 0, 0, 9]) ∧ (cell [0, 7, 0, 0, 0, 0, 9]).service ≠ 0 ∧
      sound (cell [0, 0, 0, 0, 0, 0, 9]) ∧ (cell [0, 0, 0, 0, 0, 0, 9]).service = 0 := by decide

theorem witness_marksKeepTheSlots :
    State.reset.feed.state = .noFeed ∧ (locked 47 [0] State.reset).feed.state = .locked ∧
      (locked 46 [0] State.reset).feed.slot < 47 ∧ 47 ≤ (locked 47 [0] State.reset).feed.slot := by decide

theorem witness_theFeedIsLost :
    (locked 0 [] State.reset).feed.lossTimer = some 10000 ∧
      State.reset.outputs.main.state = .idle ∧ State.reset.outputs.requestHeld = false ∧
      (showing .running [.marker .gap] State.reset).outputs.main.state ≠ .idle := by decide

/-- A request waits at a loss of the feed: INSET, whose head is a CELL, is not made eligible, and MAIN
is. -/
theorem witness_aWaitingRequestMeetsTheFeedLoss :
    let s := asked (insetShowing .filling [.cell 7 0 []] (showing .filling [] staying))
    let inset := { s.outputs.inset with threshold := 3 }
    requestWaits s.outputs ∧
      eligible (admitItem (.marker .noSignal) 0 s.outputs.main) = true ∧
      (admitItem (.marker .noSignal) 0 s.outputs.main).queue = [.marker .noSignal] ∧
      eligible (admitItem (.marker .noSignal) 0 inset) = false := by decide

/-- In NO_FEED a cell is in judging and another has been handed on, and an event comes about. -/
theorem witness_noCellArrivesInNoFeed :
    let s := (judging plainCell staying).setDescrambler
      { handedOn := [⟨plainCell, 0⟩], judging := (judging plainCell staying).descrambler.judging }
    s.feed.state = .noFeed ∧ exec .decoderRequest s = .next (after (exec .decoderRequest s)) ∧
      (after (exec .decoderRequest s)).outputs.requestHeld = true ∧
      (after (exec .decoderRequest s)).descrambler.judging.isSome = true ∧
      s.descrambler.handedOn.length = 1 := by
  refine ⟨rfl, rfl, by decide, by decide, by decide⟩

/-- A cell has been handed on in LOCKED; its group holds an EVEN key. -/
def arriving (key : Option LoadedKey) : State := { State.reset with
  feed := (locked 0 [] State.reset).feed
  descrambler := { handedOn := [⟨evenCell, 0⟩], judging := none }
  keys := { State.reset.keys with groups := State.reset.keys.groups.set 1 ⟨key, none, none⟩ } }

set_option maxRecDepth 10000 in
theorem witness_theKeystreamIsR29 :
    1 ≤ evenCell.service ∧ evenCell.service ≤ 255 ∧ evenCell.frameSeq ≤ 255 ∧ evenCell.slot ≤ 47 ∧
      evenCell.mode = .even ∧ evenCell.payload.length = 128 ∧ plainCell.mode = .clear := by decide

theorem witness_keysAndTariffsBelongToTheTelevision :
    exec .status staying = .next (after (exec .status staying)) ∧ Instr.status ≠ .keyDelivery ∧
      Instr.status ≠ .keyWithdrawal ∧ Instr.status ≠ .tariffSet ∧ Instr.status ≠ .tariffRemove := by
  refine ⟨rfl, by decide, by decide, by decide, by decide⟩

theorem witness_aCellArrives :
    (arriving none).descrambler.handedOn = [⟨evenCell, 0⟩] ∧
      (arriving none).descrambler.judging = none ∧ (arriving none).link.slot = .empty ∧
      (arriving none).feed.state ≠ .noFeed ∧
      (keyGroup (arriving none).keys evenCell.group).even = none ∧
      (keyGroup (arriving (some ⟨1, 2, 3⟩)).keys evenCell.group).even = some ⟨1, 2, 3⟩ ∧
      evenCell.mode = .even := by decide

set_option maxRecDepth 10000 in
theorem witness_aClearCellReachesItsOutput :
    let s := judging plainCell (showing .running (List.replicate 7 (.marker .gap)) staying)
    plainCell.film = 0 ∧ plainCell.rating ≤ effectiveCeiling s.gate ∧ plainCell.mode = .clear ∧
      plainCell.payload.length = 128 ∧ xorWords (wordsOf plainCell.payload) = plainCell.check ∧
      s.outputs.main.state = .running ∧ s.outputs.main.gapOwed = false ∧
      s.outputs.main.queue.length < 8 ∧ s.outputs.requestHeld = false ∧
      s.outputs.main.expected = none := by decide

set_option maxRecDepth 10000 in
/-- A cell above the ceiling, one without its key, one whose check word differs, and a held request that
only one of two outputs can answer. -/
theorem witness_everyVerdictReachesItsOutput :
    let s := asked (insetShowing .filling [] (showing .filling [] staying))
    effectiveCeiling staying.gate < { plainCell with rating := 3 }.rating ∧
      ({ plainCell with rating := 2 } : Cell).rating ≤ effectiveCeiling staying.gate ∧
      evenCell.mode = .even ∧ evenCell.film = 0 ∧
      clearWords plainCell none = some (wordsOf plainCell.payload) ∧
      xorWords (wordsOf plainCell.payload) ≠ { plainCell with check := 1 }.check ∧
      nothingToGrant staying.outputs ∧ s.outputs.requestHeld = true ∧ s.outputs.delivering = none ∧
      eligible s.outputs.main = false ∧ eligible s.outputs.inset = false ∧
      eligible (takeContinuity 0 { s.outputs.inset with expected := some 5 }) = true ∧
      eligible (takeContinuity 0 s.outputs.main) = false ∧
      judgedFor ⟨plainCell, 0, none, true, true, false⟩ .inset = true := by decide

/-- A request waits: the continuity value makes INSET eligible first in each order, the verdict item
makes MAIN eligible first where neither was, and a CELL makes neither. -/
theorem witness_aWaitingRequestMeetsTheVerdict :
    let s := asked (insetShowing .filling [] (showing .filling [] staying))
    let late := setOutputAt s.outputs .inset { s.outputs.inset with expected := some 5 }
    let j : Judging := ⟨plainCell, 0, none, true, true, false⟩
    let checked (ix : OutputIx) := checkedAt j ix (outputAt late ix)
    let shown (item : Item) (ix : OutputIx) := shownAt j item ix (outputAt s.outputs ix)
    requestWaits s.outputs ∧ requestWaits late ∧
      (eligible (checked .inset) = true ∧ eligible (checked .main) = false ∧
        (checked .inset).queue = [.marker .gap]) ∧
      eligible (checkedAt j .main s.outputs.main) = false ∧
      eligible (checkedAt j .inset s.outputs.inset) = false ∧
      (eligible (shown (.marker .locked) .main) = true ∧
        (shown (.marker .locked) .main).queue = [.marker .locked] ∧ false = (.main == OutputIx.inset)) ∧
      eligible (shown (.cell 7 0 []) .main) = false ∧
      eligible (shown (.cell 7 0 []) .inset) = false := by decide

theorem witness_aFilmVerdictSetsOneFlag :
    let c := { plainCell with film := 250 }
    let s := judging c (withEntry (film250 .bought) staying)
    c.film ≠ 0 ∧ c.rating ≤ effectiveCeiling s.gate ∧ s.stay.room = .occupied ∧
      placeOf s.folio.entries 250 = some 0 ∧ entryAt s.folio 0 = some (film250 .bought) ∧
      entryShows 120 true (film250 .bought) = true := by decide

set_option maxRecDepth 10000 in
/-- An answered cell with its entry in place 7 or with none marked: without its key, and with the check
word that matches and one that does not. -/
theorem witness_anAnsweredCellIsFinished :
    let c := { plainCell with film := 250 }
    let s (mark : Bool) := staying.setFolio { staying.folio with
      entries := staying.folio.entries.set 7 (some { film250 .charged with answered := mark }) }
    let marked := (s true).setDescrambler
      { handedOn := [], judging := some ⟨c, 0, none, true, false, true⟩ }
    marked.descrambler.judging = some ⟨c, 0, none, true, false, true⟩ ∧ c.film ≠ 0 ∧
      answeredPlace (s true).folio.entries = some 7 ∧ answeredPlace (s false).folio.entries = none ∧
      ({ c with mode := .even } : Cell).mode = .even ∧
      clearWords c none = some (wordsOf c.payload) ∧ xorWords (wordsOf c.payload) = c.check ∧
      xorWords (wordsOf c.payload) ≠ { c with check := 1 }.check ∧
      billingOk marked = true ∧ descramblerOk marked.descrambler = true := by decide

/-- The answers of R71 to R74: a preview at its allowance and one second before it, a film that settles,
no entry with a free place, with two entries to evict, and with none. -/
theorem witness_aFilmVerdictIsAnswered :
    let used (n : Nat) := withEntry { newEntry 250 0 with previewUsed := n } staying
    let full (e : Entry) := staying.setFolio { staying.folio with
      entries := (List.range 8).map fun i => some { e with film := i + 1 } }
    (inRoom .closing staying).stay.room ≠ .occupied ∧
      entryAt (used 120).folio 0 = some { newEntry 250 0 with previewUsed := 120 } ∧
      entryShows 120 false { newEntry 250 0 with previewUsed := 120 } = false ∧
      entryShows 120 false { newEntry 250 0 with previewUsed := 119 } = true ∧
      entryShows 120 true { newEntry 250 0 with previewUsed := 119 } = false ∧
      entryShows 120 false (film250 .settling) = false ∧
      placeOf staying.folio.entries 250 = none ∧ staying.folio.entries[0]? = some none ∧
      placeOf (full (newEntry 1 4)).folio.entries 250 = none ∧
      newPlace (full (newEntry 1 4)).folio.entries = some 0 ∧
      newPlace (full (film250 .bought)).folio.entries = none ∧
      (0 : Nat) < staying.stay.previewAllowance ∧ State.reset.stay.previewAllowance = 0 := by decide

theorem witness_anItemIsAdmitted :
    let o (n : Nat) (owed : Bool) : Output := { State.reset.outputs.main with
      queue := List.replicate n (.marker .gap), gapOwed := owed }
    (o 8 false).queue.getLast? = some (.marker .gap) ∧ (o 7 false).queue.length < 8 ∧
      8 ≤ (o 8 false).queue.length ∧ (o 7 true).queue.length + 1 ≤ 8 ∧
      8 < (o 8 true).queue.length + 1 := by decide

theorem witness_continuityGivesTheGaps :
    State.reset.outputs.main.expected = none ∧
      (takeContinuity 255 State.reset.outputs.main).expected = some 0 ∧ (0 : Nat) ≠ 255 := by decide

theorem witness_theDecoderIsServed :
    let both := insetShowing .filling [.marker .locked] (showing .running [.cell 4 0 []] State.reset)
    both.outputs.delivering = none ∧ ¬ both.outputs.main.priority < both.outputs.inset.priority ∧
      (showing .running [.cell 4 0 []] State.reset).outputs.inset.state = .idle ∧
      (insetShowing .filling [.marker .locked] State.reset).outputs.main.state = .idle ∧
      (asked (delivering both)).outputs.delivering ≠ none ∧
      (asked (delivering both)).outputs.requestHeld = true ∧
      (delivering both).outputs.requestHeld = false := by decide

/-- TUNE of MAIN to service 255, of a bad index and of service 0; in NO_FEED with a request held; and for
the cell in judging. -/
theorem witness_tuneFlushesAndTakesTheService :
    let f (b : List Byte) := req 2 b
    requested 2 (f [0, 255]) (holding (f [0, 255]) staying) ∧
      outputIxOf (byteAt (f [0, 255]).body 1) = some .main ∧ byteAt (f [0, 255]).body 2 ≠ 0 ∧
      requested 2 (f [2, 255]) (holding (f [2, 255]) staying) ∧
      outputIxOf (byteAt (f [2, 255]).body 1) = none ∧
      requested 2 (f [1, 0]) (holding (f [1, 0]) staying) ∧ byteAt (f [1, 0]).body 2 = 0 ∧
      (asked staying).feed.state = .noFeed ∧ (asked staying).outputs.requestHeld = true ∧
      (asked staying).outputs.delivering = none ∧
      staying.descrambler.judging = none ∧
      judgedFor ⟨plainCell, 0, none, true, false, false⟩ .main = true := by decide

theorem witness_untuneLeavesTheOutputIdle :
    let f (b : Byte) := req 3 [b]
    requested 3 (f 0) (holding (f 0) staying) ∧ outputIxOf (byteAt (f 0).body 1) = some .main ∧
      requested 3 (f 2) (holding (f 2) staying) ∧ outputIxOf (byteAt (f 2).body 1) = none ∧
      staying.outputs.main.state = .idle ∧ (showing .filling [] staying).outputs.main.state ≠ .idle ∧
      exec .status staying = .next (after (exec .status staying)) := by
  refine ⟨by decide, by decide, by decide, by decide, by decide, by decide, rfl⟩

theorem witness_aWaitingTuningIsCarriedOut :
    let s (f : Frame) := staying.setLink { staying.link with slot := .serving f }
    (s (req 2 [0, 1])).link.slot = .serving (req 2 [0, 1]) ∧
      outputIxOf (byteAt (req 2 [0, 1]).body 1) = some .main ∧ byteAt (req 2 [0, 1]).body 2 ≠ 0 ∧
      byteAt (req 2 [0, 0]).body 2 = 0 ∧ (req 3 [1]).kind = 0x03 ∧
      outputIxOf (byteAt (req 3 [1]).body 1) = some .inset ∧
      nothingToGrant staying.outputs ∧ staying.outputs.inset.state = .idle ∧
      (insetShowing .filling [] staying).outputs.inset.state ≠ .idle ∧
      staying.feed.state = .noFeed ∧ ¬ nothingToGrant (asked staying).outputs ∧
      staying.descrambler.judging = none := by decide

theorem witness_setOutputStoresPriorityAndThreshold :
    let f (b : List Byte) := req 4 b
    requested 4 (f [0, 4, 9]) (holding (f [0, 4, 9]) staying) ∧
      requested 4 (f [2, 0, 0]) (holding (f [2, 0, 0]) staying) ∧
      outputIxOf (byteAt (f [2, 0, 0]).body 1) = none ∧ staying.outputs.requestHeld = false ∧
      (asked (showing .filling [.cell 7 0 []] staying)).outputs.requestHeld = true ∧
      eligible { (showing .filling [.cell 7 0 []] staying).outputs.main with
        state := .running, threshold := 1 } = true := by decide

/-! ### Witnesses: the Folio Unit -/

theorem witness_theFeedSecondIsCounted :
    let s := withEntry { film250 .bought with clear := 299, seenClear := true } staying
    let t := s.setFolio { s.folio with closesDue := 1 }
    0 < t.folio.closesDue ∧ t.descrambler.handedOn = [] ∧ t.descrambler.judging = none ∧
      entryAt t.folio 0 = some { film250 .bought with clear := 299, seenClear := true } ∧
      entryAt t.folio 7 = none ∧ folioOk t.folio = true ∧ t.folio.closesBeforeReset = 0 ∧
      ({ t.folio with closesBeforeReset := 1 } : Folio).closesBeforeReset = 1 := by decide

/-- A preview that reaches its allowance, a purchase at its grace, and the snapshot second count at 59 with
a film that is paid and with none. -/
theorem witness_theFeedSecondReports :
    let p := { newEntry 250 0 with previewUsed := 119, seenFail := true }
    let s := withEntry p staying
    let t := s.setFolio { s.folio with closesDue := 1, snapshotSeconds := 59 }
    let u := (withEntry (film250 .charged) t)
    entryAt t.folio 0 = some p ∧ p.previewUsed < t.stay.previewAllowance ∧
      (after (execFeedSecondClose t)).link.reports.map reportKindByte = [0x44] ∧
      (after (execFeedSecondClose t)).folio.snapshotSeconds = 0 ∧
      (after (execFeedSecondClose u)).link.reports.map reportKindByte = [0x47] ∧
      (after (execFeedSecondClose u)).folio.snapshotSeconds = 0 := by decide

theorem witness_aPurchaseIsChecked :
    requested 5 (req 5 [0x0F, 0xFF]) (holding (req 5 [0x0F, 0xFF]) staying) := by decide

/-- A free film; a price with G = 300; one with G = 0; in a PREVIEW entry and in a new one. -/
theorem witness_aPurchaseBuysTheFilm :
    let f := req 5 [0, 250]
    let s := holding f (priced tariff250 staying)
    let p := holding f (withEntry (newEntry 250 0) (priced tariff250 staying))
    requested 5 f s ∧ requested 5 f p ∧ field f.body 1 2 = 250 ∧ s.stay.room = .occupied ∧
      s.clock.set = true ∧ tariffOf s.folio 250 = some tariff250 ∧
      tariff250.rating ≤ effectiveCeiling s.gate ∧ tariff250.rating ≤ s.gate.hardCeiling ∧
      placeOf s.folio.entries 250 = none ∧ newPlace s.folio.entries = some 0 ∧
      placeOf p.folio.entries 250 = some 0 ∧ entryAt p.folio 0 = some (newEntry 250 0) ∧
      s.folio.total + s.folio.reserved + tariff250.price ≤ s.folio.cap ∧
      (records 9 s).folio.queue.length + boughtCount (records 9 s).folio.entries < 10 ∧
      0 < s.stay.grace := by decide

theorem witness_cancelReturnsAnUnchargedFilm :
    let f := req 6 [0, 250]
    let s (st : EntryState) := holding f (withEntry (film250 st) staying)
    requested 6 f (s .bought) ∧ requested 6 (req 6 [0x10, 0]) (holding (req 6 [0x10, 0]) staying) ∧
      4095 < field (req 6 [0x10, 0]).body 1 2 ∧ (filmEntry staying 250).isNone = true ∧
      (filmEntry (s .charged) 250).map (·.state) = some .charged ∧
      placeOf (s .bought).folio.entries 250 = some 0 ∧
      entryAt (s .bought).folio 0 = some (film250 .bought) ∧
      anySettling (s .bought).folio.entries = false := by decide

theorem witness_queriesChangeOnlyTheReply :
    let f := req 7 [0, 250]
    requested 1 (req 1 []) (holding (req 1 []) staying) ∧ requested 7 f (holding f staying) ∧
      requested 7 (req 7 [0, 0]) (holding (req 7 [0, 0]) staying) ∧ tariffOf staying.folio 250 = none ∧
      placeOf staying.folio.entries 250 = none ∧
      tariffOf (priced tariff250 staying).folio 250 = some tariff250 ∧
      placeOf (withEntry (film250 .bought) staying).folio.entries 250 = some 0 := by decide

/-- A TARIFF_SET of film 4095 and of film 4096, a TARIFF_REMOVE of film 250. -/
theorem witness_tariffsAreSetAndRemoved :
    let b (hi lo : Byte) : List Byte := [0x12, hi, lo, 0xEA, 0x61, 0x0B, 0x41, 8]
    let full := staying.setFolio { staying.folio with tariffs := List.replicate 64 (some tariff250) }
    atHandler .b0 (msg (b 0x0F 0xFF)) (mailed (b 0x0F 0xFF) staying) ∧
      parseDesk (msg (b 0x0F 0xFF)) = some (.tariffSet 4095 60001 2881 8) ∧
      parseDesk (msg (b 0x10 0)) = some (.tariffSet 4096 60001 2881 8) ∧
      (priced tariff250 staying).folio.tariffs[0]? = some (some tariff250) ∧
      staying.folio.tariffs[0]? = some none ∧ full.folio.tariffs.all (·.isSome) = true ∧
      atHandler .b0 (msg [0x13, 0, 250]) (mailed [0x13, 0, 250] staying) ∧
      parseDesk (msg [0x13, 0, 250]) = some (.tariffRemove 250) ∧ tariffOf staying.folio 250 = none ∧
      tariffsOk (priced tariff250 staying).folio.tariffs = true := by decide

theorem witness_settlementCreditsImpairedFilms :
    let s (credit : Nat) := withEntry { film250 .settling with credit := some credit } staying
    (0 : Nat) < 1 ∧ (0 + 60) * 100 ≤ 60 * 100 ∧ 60 * 100 < (1 + 60) * 100 ∧
      entryAt (s 0).folio 0 = some { film250 .settling with credit := some 0 } ∧
      (records 9 (s 207)).folio.queue.length + boughtCount (records 9 (s 207)).folio.entries < 10 ∧
      10 ≤ (records 10 (s 207)).folio.queue.length + boughtCount (records 10 (s 207)).folio.entries ∧
      (s 207).folio.entries.length = 8 := by
  decide

/-- Two entries wait and one place is unreserved: the lower place takes it. -/
theorem witness_theLowerPlaceSettlesFirst :
    let s := records 9 (withEntry (film250 .settling) staying)
    let t := s.setFolio { s.folio with
      entries := s.folio.entries.set 5 (some { film250 .settling with film := 9 }) }
    t.folio.entries.length = 8 ∧ (settleWaiting t).folio.queue.length = 10 ∧
      (settleWaiting t).folio.entries.map (·.map (·.film)) =
        [none, none, none, none, none, some 9, none, none] := by decide

/-! ### Witnesses: the Rating Gate and desk messages -/

theorem witness_threeWrongPinsLockOut :
    requested 8 (req 8 [4, 9, 9, 9, 9]) (holding (req 8 [4, 9, 9, 9, 9]) staying) ∧
      requested 0x0A (req 0x0A [4, 0, 0, 0, 0, 4, 4, 4, 4, 4])
        (holding (req 0x0A [4, 0, 0, 0, 0, 4, 4, 4, 4, 4]) staying) ∧
      pinWellFormed false (bodyPin [4, 0, 0, 0, 0, 4, 4, 4, 4, 4] 6) = true ∧
      requested 0x0B (req 0x0B [7, 4, 1, 1, 1, 1]) (holding (req 0x0B [7, 4, 1, 1, 1, 1]) staying) ∧
      bodyPin [7, 4, 1, 1, 1, 1] 2 = [1, 1, 1, 1] ∧ staying.gate.roomCeiling < 7 ∧
      pinWellFormed false [1, 1, 1, 1] = true ∧ staying.gate.pin ≠ some [1, 1, 1, 1] ∧
      staying.gate.lockoutExpiry = none ∧ staying.gate.failures < 2 := by decide

theorem witness_relockEndsTheUnlock :
    requested 9 (req 9 []) (holding (req 9 []) staying) ∧ staying.gate.unlockExpiry = none ∧
      { staying.gate with unlockExpiry := some 100060 }.unlockExpiry ≠ none ∧
      billingOk State.reset = true ∧ State.reset.stay.room ≠ .occupied := by decide

theorem witness_thePinUnlocksAndSets :
    let unlock := req 8 [4, 2, 5, 8, 0]
    let change := req 0x0A [4, 2, 5, 8, 0, 8, 4, 4, 4, 4, 4, 4, 4, 4]
    let raise := req 0x0B [7, 4, 2, 5, 8, 0]
    let lower := req 0x0B [2, 0]
    staying.stay.room = .occupied ∧ requested 8 unlock (holding unlock staying) ∧
      bodyPin unlock.body 1 = [2, 5, 8, 0] ∧ staying.gate.pin = some [2, 5, 8, 0] ∧
      requested 0x0A change (holding change staying) ∧ bodyPin change.body 1 = [2, 5, 8, 0] ∧
      pinWellFormed false (bodyPin change.body (2 + byteAt change.body 1)) = true ∧
      requested 0x0B raise (holding raise staying) ∧ staying.gate.roomCeiling < byteAt raise.body 1 ∧
      requested 0x0B lower (holding lower staying) ∧
      byteAt lower.body 1 ≤ staying.gate.roomCeiling := by decide

/-- The refusals of UNLOCK, SET_PIN and SET_CEILING, each with the checks before it passed. -/
theorem witness_thePinIsRefused :
    let noPin := staying.setGate { staying.gate with pin := none }
    let shut := staying.setGate { staying.gate with lockoutExpiry := some 100015 }
    pinWellFormed false [1, 2, 3] = false ∧ pinWellFormed false [] = false ∧
      pinWellFormed true [] = true ∧ pinWellFormed false [0, 0, 0, 9] = true ∧
      pinWellFormed false [0, 0, 0, 10] = false ∧ (inRoom .closing staying).stay.room ≠ .occupied ∧
      (staying.setClock { staying.clock with set := false }).clock.set = false ∧
      noPin.gate.pin = none ∧ shut.gate.lockoutExpiry ≠ none ∧
      requested 8 (req 8 [3, 1, 2, 3]) (holding (req 8 [3, 1, 2, 3]) staying) ∧
      requested 0x0A (req 0x0A [0, 4, 1, 1, 1, 1]) (holding (req 0x0A [0, 4, 1, 1, 1, 1]) staying) ∧
      bodyPin [0, 4, 1, 1, 1, 1] 1 = [] ∧ staying.gate.pin ≠ none ∧
      requested 0x0B (req 0x0B [3, 0]) (holding (req 0x0B [3, 0]) staying) ∧
      staying.gate.roomCeiling < byteAt [3, 0] 1 ∧ bodyPin [3, 0] 2 = [] ∧ ¬ byteAt [8, 0] 1 ≤ 7 := by
  decide

/-- Deliveries and withdrawals of group 15 and of group 16, and an active slot. -/
theorem witness_keysAreDeliveredAndWithdrawn :
    let load (g : Byte) : List Byte := [0x11, g, 1, 0, 9, 0, 0, 0, 0, 1, 0, 0, 0, 2]
    let drop : List Byte := [0x11, 15, 1, 0, 9, 1]
    atHandler .b0 (msg (load 15)) (mailed (load 15) staying) ∧
      parseDesk (msg (load 15)) = some (.keyDelivery 15 1 9 1 2) ∧
      parseDesk (msg (load 16)) = some (.keyDelivery 16 1 9 1 2) ∧
      parseDesk (msg drop) = some (.keyWithdrawal 15 1 9) ∧
      (keyGroup staying.keys 15).active = none ∧ keySlot (keyGroup staying.keys 15) .odd = none ∧
      keySlot ⟨none, some ⟨1, 2, 9⟩, some .odd⟩ .odd = some ⟨1, 2, 9⟩ := by decide

/-- A malformed message, a note with 15 and with 16 reports queued, a query in POSTING. -/
theorem witness_theHandlerTakesMessages :
    let note : List Byte := [0x15, 1, 0x7E]
    let queued (n : Nat) := staying.setLink { staying.link with
      reports := List.replicate n (.deskNote [] false) }
    atHandler .b0 (msg [0xFF]) (mailed [0xFF] staying) ∧ parseDesk (msg [0xFF]) = none ∧
      parseDesk (msg note) = some (.deskNote [0x7E]) ∧ (queued 15).link.reports.length < 16 ∧
      16 ≤ (queued 16).link.reports.length ∧ parseDesk (msg [0x16]) = some .roomQuery ∧
      (exchanging .posting (.roomReport false) staying).loop.phase = .posting ∧
      bufferAt (mailed note staying).loop .b0 = .filled (msg note) := by decide

/-- R149: buffer 1 was filled first and stays the next while buffer 0 is filled, and a ROOM_QUERY in it
hands over to buffer 0. -/
theorem witness_theFirstFilledIsHandledFirst :
    let s := ringed (staying.setLoop { staying.loop with buffer1 := .filled (msg [0x16]) })
    let t := after (execBroadcastReceived (hearing (some (.data 0 255 [0x13, 0, 1])) [] s))
    let first := some (BufferIx.b1, msg [0x16])
    oldestFilled s.loop = first ∧ bufferAt t.loop .b0 = .filled ⟨true, [0x13, 0, 1]⟩ ∧
      oldestFilled t.loop = first ∧ bufferAt t.loop .b1 = .filled (msg [0x16]) ∧
      oldestFilled (after (execRoomQuery t)).loop = some (.b0, ⟨true, [0x13, 0, 1]⟩) := by decide


/-- The form check at its limits: PINs of 3, 4 and 8 digits, a digit 10, the broadcast GUEST_STATUS,
actions 0 and 3, key actions 1 and 2, notes of 0 and 48 characters, kinds 0x0F and 0x17. -/
theorem witness_theFormIsChecked :
    let guest (action vacate n : Byte) (digit : Byte) : List Byte := [0x10, action, vacate] ++
      List.replicate 14 0 ++ [n] ++ List.replicate n.toNat digit
    let formed (b : List Byte) := (parseDesk (msg b)).isSome
    let note (n : Byte) : List Byte := [0x15, n] ++ List.replicate n.toNat 0x20
    formed (guest 1 0 4 9) = true ∧ formed (guest 2 1 8 0) = true ∧ formed (guest 1 0 0 0) = true ∧
      formed (guest 1 0 3 0) = false ∧ formed (guest 1 0 9 0) = false ∧
      formed (guest 1 0 4 10) = false ∧ formed (guest 0 0 4 0) = false ∧
      formed (guest 3 0 4 0) = false ∧ formed (guest 1 2 4 0) = false ∧
      parseDesk ⟨true, guest 1 0 4 9⟩ = none ∧ formed [0x11, 0, 0, 0, 9, 1] = true ∧
      formed [0x11, 0, 0, 0, 9, 2] = false ∧ formed [0x11, 0, 0, 0, 9, 0] = false ∧
      formed (note 1) = true ∧ formed (note 48) = true ∧ formed (note 0) = false ∧
      formed (note 49) = false ∧ formed [0x0F] = false ∧ formed [0x17] = false ∧
      formed [0x16, 0] = false := by decide

theorem witness_aStayBegins :
    atHandler .b0 (msg (guestStatus 1 0 5110)) (mailed (guestStatus 1 0 5110) staying) ∧
      parseDesk (msg (guestStatus 1 0 0)) = some (.guestStatus true false (guestParams 0)) ∧
      parseDesk (msg (guestStatus 1 0 5110)) = some (.guestStatus true false (guestParams 5110)) ∧
      State.reset.stay.room = .starting ∧ staying.stay.stay = 5110 := by decide

theorem witness_aStayCloses :
    let s := mailed (guestStatus 2 0 0) (withEntry (film250 .charged) (records 9 staying))
    atHandler .b0 (msg (guestStatus 2 0 0)) s ∧ billingOk s = true ∧ s.stay.room = .occupied ∧
      parseDesk (msg (guestStatus 2 0 0)) = some (.guestStatus false false (guestParams 0)) ∧
      parseDesk (msg (guestStatus 1 0 9)) = some (.guestStatus true false (guestParams 9)) := by decide

/-- A closure is queued behind the CREDIT of the one entry that settles, and with no entry it stands
alone. -/
theorem witness_theClosureIsQueued :
    let out (s : State) := (after (execCheckOut (mailed (guestStatus 2 0 0) s)))
    let credited := withEntry { film250 .charged with clear := 5400, impaired := 900 } (records 8 staying)
    billingOk credited = true ∧ (out credited).stay.closureQueued = true ∧
      ((out credited).folio.queue.drop 8).map (·.kind) = [.credit, .stayClosed] ∧
      ((out (withEntry (film250 .bought) staying)).folio.queue.map (·.kind)) = [.stayClosed] := by decide

theorem witness_anEmptyRoomChecksOut :
    atHandler .b0 (msg (guestStatus 2 0 0)) (mailed (guestStatus 2 0 0) State.reset) ∧
      (inRoom .vacant State.reset).stay.room = .vacant ∧
      State.reset.stay.startTimer = some 120000000 := by decide

theorem witness_vacateNowEmptiesTheRoom :
    atHandler .b0 (msg (guestStatus 1 1 0)) (mailed (guestStatus 1 1 0) staying) ∧
      parseDesk (msg (guestStatus 1 1 0)) = some (.guestStatus true true (guestParams 0)) ∧
      staying.folio.queue = [] := by decide

theorem witness_theMinuteChanges :
    let last := staying.setClock { staying.clock with minute := 16777214 }
    parseDesk (msg [0x14, 0xFF, 0xFF, 0xFF]) = some (.time 16777215) ∧
      atHandler .b0 (msg [0x14, 0xFF, 0xFF, 0xFF]) (mailed [0x14, 0xFF, 0xFF, 0xFF] staying) ∧
      last.clock.set = true ∧ last.clock.minute < 16777215 ∧ billingOk last = true ∧
      anySettling last.folio.entries = false := by decide

/-- A window due at the new minute and one due a minute later: BOUGHT, CHARGED and SETTLING. -/
theorem witness_windowsFallDue :
    let due (st : EntryState) (w : Nat) := { film250 st with windowEnd := some w }
    let s := withEntry (due .bought 100001) staying
    billingOk s = true ∧ billingOk (withEntry (due .charged 100001) staying) = true ∧
      billingOk (withEntry (due .charged 100002) staying) = true ∧
      billingOk (records 10 (withEntry (due .settling 100001) staying)) = true ∧
      (after (execMinuteAdvance false s)).folio.reserved = 0 ∧
      (after (execMinuteAdvance true (withEntry (due .charged 100002) staying))).folio =
        (withEntry (due .charged 100002) staying).folio := by decide

/-- A due entry makes a SNAPSHOT: one that lapses, and a CHARGED one that then waits for a place. -/
theorem witness_aDueWindowMakesASnapshot :
    let due (st : EntryState) : Entry :=
      { film250 st with windowEnd := some 100001, clear := 5400, impaired := 900 }
    let waits := records 10 (withEntry (due .charged) staying)
    let told (s : State) := (after (execMinuteAdvance false s)).link.reports.any fun r => !noSnapshot r
    entryAt waits.folio 0 = some (due .charged) ∧ billingOk waits = true ∧
      (entryAt (after (execMinuteAdvance false waits)).folio 0).isSome = true ∧
      told waits = true ∧ told (withEntry (due .bought) staying) = true ∧ told staying = false := by decide

/-! ### Witnesses: the Set Link Port -/

theorem witness_bytesAreReceived :
    let fed (n : Nat) := staying.setLink { staying.link with
      fifo := List.replicate n ⟨0, false, false, false⟩ }
    (fed 63).link.fifo.length < 64 ∧ 64 ≤ (fed 64).link.fifo.length := by decide

/-- A port with one byte in the FIFO. -/
def fed (a : Assembler) (b : FifoByte) : State := staying.setLink { staying.link with
  assembler := a, fifo := [b], interByteTimer := some 44 }

theorem witness_framesAreAssembled :
    let plain (v : Byte) : FifoByte := ⟨v, false, false, false⟩
    (fed .hunting (plain 0xA5)).link.fifo = plain 0xA5 :: [] ∧
      (fed (.assembling [0xA5] none) (plain 253)).link.assembler = .assembling [0xA5] none ∧
      (253#8).toNat ≤ 253 ∧ 253 < (254#8).toNat ∧
      (fed (.assembling [0xA5, 1, 3, 7, 0] none) (plain 11)).link.assembler =
        .assembling (0xA5 :: 1 :: [3, 7, 0]) none ∧
      (1#8).toNat + 3 ≤ [3#8, 7#8, 0#8].length + 1 ∧ BitVec.ofNat 8 (byteSum [1, 3, 7, 0]) = 11#8 ∧
      [3#8, 7#8].length + 1 < (1#8).toNat + 3 ∧
      (staying.setLink { staying.link with assembler := .assembling [0xA5] none }).link.fifo = [] := by
  decide

theorem witness_thePortServesItsOwnRequests :
    (holding (req 0x13 []) staying).link.slot = .empty ∧ 0x12 < (req 0x13 []).kind.toNat ∧
      lengthMatches (req 0x01 [0]) = false ∧ (holding (req 0x01 [0]) staying).link.slot = .empty ∧
      requested 0x10 (req 0x10 [2]) (holding (req 0x10 [2]) staying) ∧
      requested 0x10 (req 0x10 [1]) (holding (req 0x10 [1]) staying) ∧
      requested 0x10 (req 0x10 [0]) (holding (req 0x10 [0]) staying) ∧ staying.link.guide = false ∧
      { staying.link with guide := true }.guide = true := by decide

/-- Section 12.3: bodies of the lengths called for, at their bounds, and bodies one byte off. -/
theorem witness_theLengthsCalledFor :
    let fits (kind : Byte) (body : List Byte) := lengthMatches (req kind body)
    (fits 0x01 [] = true ∧ fits 0x12 [0] = false ∧ fits 0x02 [0, 1] = true ∧ fits 0x0C [37] = true) ∧
      (fits 0x04 [0, 1, 2] = true ∧ fits 0x08 [4, 2, 5, 8, 0] = true ∧ fits 0x08 [] = false) ∧
      (fits 0x0A [0, 4, 2, 5, 8, 0] = true ∧ fits 0x0A [1, 2] = false ∧ fits 0x0B [5, 0] = true) ∧
      (fits 0x11 (List.replicate 24 0) = true ∧ fits 0x11 (List.replicate 23 0) = false) := by decide


theorem witness_softResetSparesTheStay :
    requested 0x12 (req 0x12 []) (holding (req 0x12 []) staying) := by decide

theorem witness_framesAreSent :
    let r : Reply := ⟨0x81, 7, .ok, .codeOnly⟩
    let note : Report := .deskNote [] false
    let fault : Report := .linkFault .check none none staying.link.counts
    staying.link.transmitter = .idle ∧ staying.link.reports = [] ∧
      { staying.link with slot := .ready r }.slot = .ready r ∧
      [note, fault, note] = [note] ++ fault :: [note] ∧ reportClass note = .guest ∧
      reportClass fault = .urgent ∧ { staying.link with transmitter := .reply r }.transmitter = .reply r ∧
      { staying.link with transmitter := .report 255 note }.transmitter = .report 255 note := by decide

/-- The report queue: a SNAPSHOT with and without an unsent one, and a TARIFF_EVENT with 15 and 16 held. -/
theorem witness_reportsAreAdmitted :
    let event : Report := .tariffEvent 250 true 64 1
    let queued (n : Nat) (r : Report) := { staying.link with reports := List.replicate n event ++ [r] }
    [event, .snapshot [1], event] = [event] ++ .snapshot [1] :: [event] ∧ reportKindByte event ≠ 0x46 ∧
      (queueReport (.snapshot [2]) (queued 15 (.snapshot [1]))).reports.getLast? =
        some (.snapshot [2]) ∧
      (queueReport event (queued 14 event)).reports.length = 16 ∧
      (queueReport event (queued 15 event)).reports.length = 16 ∧
      (queueReport event (queued 15 event)).lostReports = 1 := by decide

/-- A reply of six bytes of which five, and of which all, have begun. -/
theorem witness_theFrameHasEnded :
    let t : Transmitter := .reply ⟨0x8D, 7, .ok, .codeOnly⟩
    let sent (n : Nat) := { staying.link with transmitter := t, slot := .sending, begun := n }
    (stxCharacters t).length = 6 ∧ (sent 6).begun = 6 ∧ (sent 5).begun ≠ 6 ∧ t ≠ .idle ∧
      linkOk (sent 6) = true ∧ linkOk (sent 1) = true ∧ linkOk (sent 7) = false ∧
      Transmitter.report 255 (.snapshot []) ≠ .idle := by decide

/-! ### Witnesses: the Loop Station -/

theorem witness_theStationIsConfigured :
    let f (k : Byte) (b : List Byte) := req k b
    requested 0x0C (f 0x0C [254]) (holding (f 0x0C [254]) staying) ∧
      requested 0x0C (f 0x0C [255]) (holding (f 0x0C [255]) staying) ∧ staying.loop.state = .off ∧
      (ringed staying).loop.state ≠ .off ∧ requested 0x0D (f 0x0D []) (holding (f 0x0D []) staying) ∧
      { staying.loop with state := LoopState.listening }.duplicateSeen = false ∧
      requested 0x0E (f 0x0E []) (holding (f 0x0E []) (ringed staying)) ∧
      requested 0x0F (f 0x0F [64]) (holding (f 0x0F [64]) staying) := by decide

/-- A packet heard with no window and in those of the turn, of the reservation and of both; ENQUIRY, DATA
and broadcast of the desk; a TOKEN begun in the station's own turn. -/
theorem witness_packetsAreHeard :
    let s := ringed staying
    let w (ws : List Window) := { s.loop with windows := ws }
    let other (ws : List Window) := ws.filter (· != .reservation)
    s.loop.state ≠ .off ∧ s.loop.heard = none ∧ s.loop.windows = [] ∧
      (w [.reservation, .enquiring]).windows.count .reservation ≤ 1 ∧
      other [.reservation, .enquiring] = [.enquiring] ∧ other [.posting] = [.posting] ∧
      other [.passing] = [.passing] ∧ other [.probing] = [.probing] ∧
      other [.duplicate] = [.duplicate] ∧
      { s.loop with candidate := some 1 }.candidate = some 1 ∧
      { s.loop with state := LoopState.listening }.state = .listening ∧
      (hearing none [] s).loop.heard = some ⟨none, [], false⟩ ∧
      freeBufferIx (releaseReservation (hearing (some (.enquiry 37 255)) [] s).loop) = some .b0 ∧
      freeBufferIx (releaseReservation { s.loop with
        buffer0 := .filled (msg [0x16]), buffer1 := .filled (msg [0x16]) }) = none ∧
      reservedBufferIx { s.loop with buffer1 := .reserved } = some .b1 ∧
      reservedBufferIx s.loop = none ∧
      (hearing (some (.data 37 255 [0x16])) [.reservation] s).loop.heard =
        some ⟨some (.data 37 255 [0x16]), [.reservation], false⟩ ∧
      (hearing (some (.token 37)) [] s true).loop.heard = some ⟨some (.token 37), [], true⟩ ∧
      inTurn (exchanging .enquiring (.roomReport false) s).loop = true := by decide

theorem witness_theTurnPostsOneMessage :
    let s := ringed (records 1 staying)
    let r : Record := ⟨1, .charge, 90, 100, 5⟩
    let e := exchanging .enquiring (.record r 5110) s
    let p := exchanging .posting (.record r 5110) s
    inTurn s.loop = false ∧ s.loop.state = .member ∧
      (hearing (some (.token 37)) [] s).loop.heard = some ⟨some (.token 37), [], false⟩ ∧
      s.loop.pendingReply = false ∧ s.folio.queue = [r] ∧ staying.folio.queue = [] ∧
      e.loop.exchange = some (.record r 5110) ∧ e.loop.passDeferred = false ∧
      (hearing (some (.accept 37)) [.enquiring] e).loop.phase = .enquiring ∧
      ¬ e.loop.declineLimit ≤ min (e.loop.declineCount + 1) 63 ∧
      { e.loop with declineCount := 7 }.declineLimit ≤ min (7 + 1) 63 ∧
      (hearing (some (.dataAck 37)) [.posting] p).loop.phase = .posting ∧
      s.stay.stay = 5110 ∧ r.kind ≠ .stayClosed ∧ s.stay.room = .occupied ∧
      anySettling s.folio.entries = false ∧ s.stay.pendingCheckIn = none := by decide

/-- In CLOSING: an acknowledgement after which the closure is due, one after which an entry still waits,
and that of the STAY_CLOSED record with a check-in pending. -/
theorem witness_anAcknowledgementClosesTheStay :
    let acked (s : State) := after (execDataAckReceived (hearing (some (.dataAck 37)) [.posting]
      (exchanging .posting (.record (s.folio.queue.headD ⟨0, .charge, 0, 0, 0⟩) 5110) (ringed s))))
    let closing := inRoom .closing (records 1 staying)
    let waits := inRoom .closing (records 10 (withEntry (film250 .settling) staying))
    let last := closing.setFolio { closing.folio with queue := [⟨1, .stayClosed, 0, 100, 5⟩] }
    let next := last.setStay { last.stay with pendingCheckIn := some (guestParams 4023) }
    (acked closing).stay.closureQueued = true ∧ (acked closing).folio.queue.length = 1 ∧
      (acked waits).folio.queue.length = 10 ∧ (acked waits).stay.closureQueued = false ∧
      (acked last).stay.room = .vacant ∧ (acked next).stay.room = .occupied ∧
      (acked next).stay.stay = 4023 := by decide

theorem witness_silenceMovesTheTokenOn :
    let s := ringed staying
    let w (x : Window) := { s.loop with windows := [x, .reservation] }
    s.loop.passDeferred = false ∧ reservedBufferIx s.loop = none ∧
      { s.loop with passDeferred := true }.passDeferred = true ∧ s.loop.refreshTurn = false ∧
      s.loop.successor = some 60 ∧ (w .enquiring).windows = .enquiring :: [.reservation] ∧
      { w .probing with candidate := some 36 }.candidate = some 36 ∧
      inTurn s.loop = false ∧ s.loop.idleTimer = some 30000 ∧
      { s.loop with state := .rebuilding, rebuildWait := some 4440 }.rebuildWait = some 4440 ∧
      { s.loop with sending := [⟨.token 60, some .passing⟩] }.sending = ⟨.token 60, some .passing⟩ :: [] := by
  decide

end Sys2Proof.Tests
end

section
/-! PROOFS. The keystream, the clear words and the order of a payload's bytes (R29), and what a verdict
makes of the clear words (R30). -/

namespace Sys2Proof.Machine

/-! ### A word and its four bytes (section 5.4) -/

/-- A word written out most significant byte first reads back as itself. -/
theorem bytesWord_wordBytes (w : Word) : bytesWord (wordBytes w) = w := by
  apply BitVec.eq_of_toNat_eq
  simp only [bytesWord, wordBytes, beNat, List.foldl_cons, List.foldl_nil, BitVec.toNat_ofNat,
    BitVec.extractLsb'_toNat, Nat.shiftRight_eq_div_pow]
  omega

@[simp] theorem length_wordsOf (bs : List Byte) : (wordsOf bs).length = bs.length / 4 := by
  induction bs using wordsOf.induct with
  | case1 a b c d rest ih => simp only [wordsOf, List.length_cons, ih]; omega
  | case2 bs short =>
    match bs, short with
    | [], _ | [_], _ | [_, _], _ | [_, _, _], _ => simp [wordsOf]
    | a :: b :: c :: d :: rest, short => exact absurd rfl (short a b c d rest)

/-- Word `n` of a payload is spelled by the four bytes from byte `4 * n` on. -/
theorem wordsOf_getD {bs : List Byte} {n : Nat} (hn : n < bs.length / 4) :
    (wordsOf bs).getD n 0 = bytesWord ((bs.drop (4 * n)).take 4) := by
  induction bs using wordsOf.induct generalizing n with
  | case1 a b c d rest ih =>
    cases n with
    | zero => rfl
    | succ n =>
      have inRest : n < rest.length / 4 := by simp only [List.length_cons] at hn; omega
      simpa [wordsOf, Nat.mul_succ] using ih inRest
  | case2 bs short =>
    have noWords : (wordsOf bs).length = 0 := by simp only [wordsOf, List.length_nil]
    rw [length_wordsOf] at noWords
    omega

/-- Writing words back to a payload loses nothing. -/
theorem wordsOf_bytesOf (ws : List Word) : wordsOf (bytesOf ws) = ws := by
  induction ws with
  | nil => rfl
  | cons w ws ih =>
    calc wordsOf (bytesOf (w :: ws))
        = bytesWord (wordBytes w) :: wordsOf (bytesOf ws) := rfl
      _ = w :: ws := by rw [bytesWord_wordBytes, ih]

@[simp] theorem length_bytesOf (ws : List Word) : (bytesOf ws).length = 4 * ws.length := by
  induction ws with
  | nil => rfl
  | cons w ws ih =>
    calc (bytesOf (w :: ws)).length
        = (wordBytes w).length + (bytesOf ws).length := List.length_append
      _ = 4 * (w :: ws).length := by rw [ih]; simp [wordBytes]; omega

/-- The bytes written back stand in the payload where the words' own bytes stood. -/
theorem getD_eq_bytesWord_bytesOf {ws : List Word} {n : Nat} (hn : n < ws.length) :
    ws.getD n 0 = bytesWord (((bytesOf ws).drop (4 * n)).take 4) := by
  have inBytes : n < (bytesOf ws).length / 4 := by rw [length_bytesOf]; omega
  rw [← wordsOf_getD inBytes, wordsOf_bytesOf]

/-! ### The keystream (R29) -/

@[simp] theorem length_keystreamFrom (odd : Word) (n : Nat) (s : Word) :
    (keystreamFrom odd n s).length = n := by
  induction n generalizing s with
  | zero => rfl
  | succ n ih => simp [keystreamFrom, ih]

/-- Each keystream word comes from the one before it, the first from the seed. -/
theorem keystreamFrom_getD {odd : Word} {n i : Nat} (s : Word) (hi : i < n) :
    (keystreamFrom odd n s).getD i 0 =
      (s :: keystreamFrom odd n s).getD i 0 * keyMultiplier + odd := by
  induction n generalizing s i with
  | zero => omega
  | succ n ih =>
    cases i with
    | zero => rfl
    | succ i => exact ih _ (by omega)

@[simp] theorem length_keystream (k : LoadedKey) (c : Cell) : (keystream k c).length = 32 :=
  length_keystreamFrom ..

theorem keystream_getD (k : LoadedKey) (c : Cell) {i : Nat} (hi : i < 32) :
    (keystream k c).getD i 0 =
      ((k.upper ^^^ keyMix c) :: keystream k c).getD i 0 * keyMultiplier + (k.lower ||| 1#32) :=
  keystreamFrom_getD _ hi

/-- The mix of a cell with fields in range keeps its service, sequence and slot apart: it fits 24 bits. -/
theorem keyMix_bounds {c : Cell} (hservice : 1 ≤ c.service) (hservice' : c.service ≤ 255)
    (hseq : c.frameSeq ≤ 255) (hslot : c.slot ≤ 47) :
    65536 ≤ (keyMix c).toNat ∧ (keyMix c).toNat ≤ 16777007 := by
  simp only [keyMix, BitVec.toNat_ofNat]
  omega

/-! ### The clear words (R28, R29) and the check word (R30) -/

theorem clearWords_of_clear {c : Cell} (key : Option LoadedKey) (h : c.mode = .clear) :
    clearWords c key = some (wordsOf c.payload) := by
  simp [clearWords, modeParity, h]

theorem clearWords_of_scrambled {c : Cell} (k : LoadedKey) (h : c.mode = .even ∨ c.mode = .odd) :
    clearWords c (some k) =
      some (List.zipWith (· ^^^ ·) (wordsOf c.payload) (keystream k c)) := by
  rcases h with h | h <;> simp [clearWords, modeParity, h]

theorem descramble_of_clearWords {c : Cell} {key : Option LoadedKey} {ws : List Word}
    (h : clearWords c key = some ws) :
    descramble c key =
      if xorWords ws = c.check then .cell c.service c.film (bytesOf ws) else .marker .checkFail := by
  simp only [descramble, h]

/-- A clear word is the received word XOR its keystream word. -/
theorem zipWith_keystream_getD {c : Cell} (k : LoadedKey) (hlen : c.payload.length = 128) {n : Nat}
    (hn : n < 32) :
    (List.zipWith (· ^^^ ·) (wordsOf c.payload) (keystream k c)).getD n 0 =
      bytesWord ((c.payload.drop (4 * n)).take 4) ^^^ (keystream k c).getD n 0 := by
  have received : n < c.payload.length / 4 := by omega
  rw [← wordsOf_getD received]
  simp [hlen, hn]

/-- Settles O25: the recurrence is `keystream_getD`, the clear words `zipWith_keystream_getD`, the byte
order `getD_eq_bytesWord_bytesOf`. -/
theorem theKeystreamIsR29 : Obligations.theKeystreamIsR29 := by
  intro k c mix word
  have word_eq (n : Nat) : word n = ((k.upper ^^^ mix) :: keystream k c).getD n 0 := by
    cases n <;> rfl
  refine ⟨length_keystream k c, fun n hn => ?_, keyMix_bounds, clearWords_of_clear _,
    fun hlen hmode => ?_⟩
  · rw [word_eq n]
    exact keystream_getD k c hn
  · have hws := clearWords_of_scrambled k hmode
    have length_ws :
        (List.zipWith (· ^^^ ·) (wordsOf c.payload) (keystream k c)).length = 32 := by simp [hlen]
    refine ⟨_, hws, length_ws, by rw [length_bytesOf, length_ws], fun n hn => ⟨?_, ?_⟩,
      descramble_of_clearWords hws⟩
    · exact zipWith_keystream_getD k hlen hn
    · exact getD_eq_bytesWord_bytesOf (by rwa [length_ws])

end Sys2Proof.Machine
end

section
/-! PROOFS. Admission of an item to an output's queue (R40, R41) and the settings of an output with the
grant that they may bring about (R37, R47). -/

namespace Sys2Proof.Machine

/-! ### The fill test and items at the tail (R44) -/

theorem fillTest_eq (o : Output) :
    fillTest o = { o with
      state := if o.state = .filling ∧ o.threshold ≤ o.queue.length then .running else o.state } := by
  unfold fillTest
  split <;> rfl

theorem appendItems_eq (items : List Item) (o : Output) :
    appendItems items o = { o with
      queue := o.queue ++ items
      state := if items ≠ [] ∧ o.state = .filling ∧ o.threshold ≤ (o.queue ++ items).length
        then .running else o.state } := by
  cases items with
  | nil => simp [appendItems]
  | cons item items => simp [appendItems, fillTest_eq]

/-! ### The branches of admission (R40, R41) -/

theorem collapsesInto_iff (before : Option Item) (item : Item) :
    collapsesInto before item = true ↔ ∃ r, item = .marker r ∧ before = some (.marker r) := by
  cases item <;> simp [collapsesInto]

theorem owedPair_eq (tail : Option Item) (item : Item) :
    owedPair tail item = (if tail = some (.marker .gap) then [] else [.marker .gap]) ++
      (if item = .marker .gap then [] else [item]) := by
  have gap_iff : collapsesInto (some (.marker .gap)) item = true ↔ item = .marker .gap := by
    rw [collapsesInto_iff]
    constructor
    · rintro ⟨_, rfl, ⟨⟩⟩
      rfl
    · rintro rfl
      exact ⟨_, rfl, rfl⟩
  simp only [owedPair, gap_iff]

section
variable {item : Item} {o : Output} (value : Nat)

theorem admitItem_of_collapses (clear : o.gapOwed = false)
    (collapses : collapsesInto o.queue.getLast? item = true) : admitItem item value o = o := by
  simp [admitItem, clear, collapses]

theorem admitItem_of_room (clear : o.gapOwed = false)
    (distinct : ¬ collapsesInto o.queue.getLast? item = true) (room : o.queue.length < 8) :
    admitItem item value o = appendItems [item] o := by
  simp [admitItem, clear, distinct, room]

theorem admitItem_of_full (clear : o.gapOwed = false)
    (distinct : ¬ collapsesInto o.queue.getLast? item = true) (full : 8 ≤ o.queue.length) :
    admitItem item value o = dropItem item value o := by
  simp [admitItem, clear, distinct, full.not_gt]

theorem admitItem_of_owed_room (owed : o.gapOwed = true)
    (room : o.queue.length + (owedPair o.queue.getLast? item).length ≤ 8) :
    admitItem item value o =
      { appendItems (owedPair o.queue.getLast? item) o with gapOwed := false } := by
  simp only [admitItem, owed, room, if_true]

theorem admitItem_of_owed_full (owed : o.gapOwed = true)
    (full : 8 < o.queue.length + (owedPair o.queue.getLast? item).length) :
    admitItem item value o = dropItem item value o := by
  simp only [admitItem, owed, full.not_ge, if_true, if_false]

end

/-- What has no room: a marker leaves no trace, a CELL is an overflow that owes a GAP (R40, R41, R43). -/
theorem dropItem_spec (item : Item) (value : Nat) (o : Output) :
    (∀ r, item = .marker r → dropItem item value o = o) ∧
    (∀ service film clear, item = .cell service film clear → dropItem item value o = { o with
      overflows := satInc o.overflows, gapOwed := true, expected := some value }) := by
  constructor
  · rintro r rfl
    rfl
  · rintro service film clear rfl
    rfl

/-- Settles O28: one branch of admission for each clause. -/
theorem anItemIsAdmitted : Obligations.anItemIsAdmitted := by
  intro item value o joined overflowed twin owed
  have twin_iff : collapsesInto o.queue.getLast? item = true ↔ twin := collapsesInto_iff ..
  have owed_eq : owedPair o.queue.getLast? item = owed := owedPair_eq ..
  have dropped := dropItem_spec item value o
  refine ⟨fun clear collapses => ?_, fun clear distinct room => ?_, fun clear distinct full => ?_,
    fun owes room => ?_, fun owes full => ?_⟩
  · exact admitItem_of_collapses value clear (twin_iff.mpr collapses)
  · rw [admitItem_of_room value clear (twin_iff.not.mpr distinct) room, appendItems_eq]
  · rwa [admitItem_of_full value clear (twin_iff.not.mpr distinct) full]
  · rw [← owed_eq] at room
    rw [admitItem_of_owed_room value owes room, appendItems_eq, owed_eq]
  · rw [← owed_eq] at full
    rwa [admitItem_of_owed_full value owes full]

/-! ### A grant that an event brings about (R45 to R47) -/

@[simp] theorem setOutputAt_setOutputAt (x : OutputStage) (ix : OutputIx) (o o' : Output) :
    setOutputAt (setOutputAt x ix o) ix o' = setOutputAt x ix o' := by
  cases ix <;> rfl

theorem takeHead_eq_headTaken {o : Output} {item : Item} {rest : List Item}
    (h : o.queue = item :: rest) : takeHead o = headTaken rest o := by
  by_cases emptied : o.state = .running ∧ rest = [] <;> simp_all [takeHead, headTaken]

theorem grantTo_eq_granted {x : OutputStage} {ix : OutputIx} {item : Item} {rest : List Item}
    (h : (outputAt x ix).queue = item :: rest) :
    grantTo ix x = granted ix item (headTaken rest (outputAt x ix)) x := by
  simp only [grantTo, h, granted, takeHead_eq_headTaken h]

/-- An event that answers no request: none waits, an item is in delivery, or the output has nothing to
offer after it (R47). -/
theorem atOutput_of_no_grant {x : OutputStage} {ix : OutputIx} (event : Output → Output)
    (h : x.requestHeld = false ∨ x.delivering ≠ none ∨
      eligible (event (outputAt x ix)) = false) :
    atOutput ix event x = setOutputAt x ix (event (outputAt x ix)) := by
  obtain ⟨unanswered, _⟩ | ⟨_, held, idle, offers⟩ := atOutput_cases ix event x
  · exact unanswered
  · simp_all

/-- An event that answers the request that waits (R47). -/
theorem atOutput_of_grant {x : OutputStage} {ix : OutputIx} {event : Output → Output} {item : Item}
    {rest : List Item} (held : x.requestHeld = true) (idle : x.delivering = none)
    (offers : eligible (event (outputAt x ix)) = true)
    (queue : (event (outputAt x ix)).queue = item :: rest) :
    atOutput ix event x = granted ix item (headTaken rest (event (outputAt x ix))) x := by
  obtain ⟨_, ungranted⟩ | ⟨answered, _⟩ := atOutput_cases ix event x
  · exact absurd ⟨held, by simp [idle], offers⟩ ungranted
  · have head : (outputAt (setOutputAt x ix (event (outputAt x ix))) ix).queue = item :: rest := by
      rwa [outputAt_setOutputAt]
    rw [answered, grantTo_eq_granted head]
    simp [granted]

/-! ### A request taken and answered (R166) -/

theorem serveRequest_of_requested {kind : Nat} {f : Frame} {s : State}
    (owner : Frame → State → State) (h : requested kind f s) :
    serveRequest kind owner s = owner f (takeFrame f s) := by
  obtain ⟨holding, slot, kindEq, length⟩ := h
  simp only [serveRequest, heldRequest_eq_some.mpr ⟨holding, slot, kindEq⟩, length, if_true]

theorem answer_takeFrame (f : Frame) (code : ResultCode) (body : ReplyBody) (s : State) :
    answer f code body (takeFrame f s) = { s with link := replied f code body s.link } := rfl

theorem answer_setOutputs_takeFrame (f : Frame) (code : ResultCode) (body : ReplyBody)
    (x : OutputStage) (s : State) :
    answer f code body ((takeFrame f s).setOutputs x) =
      { s with outputs := x, link := replied f code body s.link } := rfl

/-! ### SET_OUTPUT (R37) -/

theorem clampTo_one_eight (n : Nat) :
    clampTo 1 8 n = if n = 0 then 1 else if 8 < n then 8 else n := by
  unfold clampTo
  split_ifs <;> omega

theorem storeSettings_eq (priority threshold : Nat) (o : Output) :
    storeSettings priority threshold o = { o with
      priority := min priority 3
      threshold := clampTo 1 8 threshold
      state := if o.state = .filling ∧ clampTo 1 8 threshold ≤ o.queue.length then .running
        else o.state } := by
  simp only [storeSettings, fillTest_eq]

theorem execSetOutput_of_bad_index {f : Frame} {s : State} (h : requested 0x04 f s)
    (bad : outputIxOf (byteAt f.body 1) = none) :
    execSetOutput s = .next { s with link := replied f .badRequest .codeOnly s.link } := by
  simp only [execSetOutput, serveRequest_of_requested _ h, serveSetOutput, bad, answer_takeFrame]

theorem execSetOutput_of_index {f : Frame} {s : State} {ix : OutputIx} (h : requested 0x04 f s)
    (index : outputIxOf (byteAt f.body 1) = some ix) :
    execSetOutput s = .next { s with
      outputs := atOutput ix (storeSettings (byteAt f.body 2) (byteAt f.body 3)) s.outputs
      link := replied f .ok (.output (min (byteAt f.body 2) 3) (clampTo 1 8 (byteAt f.body 3)))
        s.link } := by
  simp only [execSetOutput, serveRequest_of_requested _ h, serveSetOutput, index,
    answer_setOutputs_takeFrame, takeFrame_outputs]

/-- Settles O34: the settings are stored as one event at the output, which answers a waiting request or
does not. -/
theorem setOutputStoresPriorityAndThreshold : Obligations.setOutputStoresPriorityAndThreshold := by
  intro s f h
  refine ⟨execSetOutput_of_bad_index h, fun ix index => ?_⟩
  intro o priority threshold o' link
  have priority_eq : min (byteAt f.body 2) 3 = priority := (min_comm _ _).trans (min_def_lt _ _)
  have threshold_eq : clampTo 1 8 (byteAt f.body 3) = threshold := clampTo_one_eight _
  have stored : storeSettings (byteAt f.body 2) (byteAt f.body 3) o = o' := by
    rw [storeSettings_eq, priority_eq, threshold_eq]
  have link_eq : link =
      replied f .ok (.output (min (byteAt f.body 2) 3) (clampTo 1 8 (byteAt f.body 3))) s.link := by
    rw [priority_eq, threshold_eq]
  have served : exec .setOutput s = .next { s with
      outputs := atOutput ix (storeSettings (byteAt f.body 2) (byteAt f.body 3)) s.outputs
      link := link } := by
    rw [link_eq]
    exact execSetOutput_of_index h index
  refine ⟨fun ungranted => ?_, fun item rest held idle offers queue => ?_⟩
  · rw [← stored] at ungranted
    rw [served, atOutput_of_no_grant _ ungranted, stored]
  · rw [← stored] at offers
    have queue' : (storeSettings (byteAt f.body 2) (byteAt f.body 3) o).queue = item :: rest := by
      rw [stored, queue]
    rw [served, atOutput_of_grant held idle offers queue', stored]

end Sys2Proof.Machine
end

section
/-! PROOFS. The answers of the Rating Gate, with and without a LOCK_STATE report (R63, R64), and what a
RELOCK does to the unlock (R60). -/

namespace Sys2Proof.Machine

/-! ### A report made while a request is served (R166, R168) -/

/-- Admission of a report looks at neither the assembler nor the reply slot. -/
theorem queueReport_withRequest (r : Report) (l : SetLink) (a : Assembler) (x : ReplySlot) :
    queueReport r { l with assembler := a, slot := x } =
      { queueReport r l with assembler := a, slot := x } := by
  simp only [queueReport]
  split_ifs <;> rfl

/-! ### The gate's answers (R63, R64) -/

theorem answerLock_takeFrame (f : Frame) (code : ResultCode) (s : State) :
    answerLock f code (takeFrame f s) =
      { s with link := replied f code (.lock (lockSummary s.gate)) s.link } := rfl

/-- A change of the gate that is reported and then answered: the report and the reply both show the lock
summary as the change leaves it. -/
theorem answerLock_lockReport_takeFrame (f : Frame) (code : ResultCode) (cause : LockCause)
    (reason : Option EndReason) (g : RatingGate) (s : State) :
    answerLock f code (lockReport cause reason ((takeFrame f s).setGate g)) = { s with
      gate := g
      link := replied f code (.lock (lockSummary g))
        (queueReport (.lockState cause reason (lockSummary g)) s.link) } := by
  let told : Report := .lockState cause reason (lockSummary g)
  have admitted : queueReport told (takeFrame f s).link =
      { queueReport told s.link with assembler := .hunting, slot := .serving f } :=
    queueReport_withRequest ..
  calc answerLock f code (lockReport cause reason ((takeFrame f s).setGate g))
      = answer f code (.lock (lockSummary g))
          { s with gate := g, link := queueReport told (takeFrame f s).link } := rfl
    _ = _ := by rw [admitted]; rfl

/-! ### No unlock in force (R52, R53) -/

theorem effectiveCeiling_of_no_unlock {g : RatingGate} (h : g.unlockExpiry = none) :
    effectiveCeiling g = g.roomCeiling := by
  simp [effectiveCeiling, h]

/-- Outside OCCUPIED the gate holds its vacant values, and no unlock is among them. -/
theorem no_unlock_of_not_occupied {s : State} (ok : billingOk s = true)
    (empty : s.stay.room ≠ .occupied) : s.gate.unlockExpiry = none := by
  have vacant : gateIsVacant s.gate = true := by simp_all [billingOk]
  simp_all [gateIsVacant]

/-! ### RELOCK (R60) -/

theorem execRelock_of_unlock {f : Frame} {s : State} (h : requested 0x09 f s)
    (unlocked : s.gate.unlockExpiry ≠ none) :
    let gate := { s.gate with unlockExpiry := none }
    execRelock s = .next { s with
      gate := gate
      link := replied f .ok (.lock (lockSummary gate))
        (queueReport (.lockState .unlockEnded (some .relock) (lockSummary gate)) s.link) } := by
  simp only [execRelock, serveRequest_of_requested _ h, serveRelock, takeFrame_gate,
    Option.isSome_iff_ne_none.mpr unlocked, if_true, answerLock_lockReport_takeFrame]

theorem execRelock_of_no_unlock {f : Frame} {s : State} (h : requested 0x09 f s)
    (locked : s.gate.unlockExpiry = none) :
    execRelock s = .next { s with
      link := replied f .already (.lock (lockSummary s.gate)) s.link } := by
  simp [execRelock, serveRequest_of_requested _ h, serveRelock, locked, answerLock_takeFrame]

/-- Settles O43: RELOCK with and without an unlock in force; outside OCCUPIED the vacant values leave
only the second. -/
theorem relockEndsTheUnlock : Obligations.relockEndsTheUnlock := by
  intro s f h gate
  exact ⟨effectiveCeiling_of_no_unlock rfl, execRelock_of_unlock h, execRelock_of_no_unlock h,
    no_unlock_of_not_occupied⟩

end Sys2Proof.Machine
end

section
/-! PROOFS. A message taken by its owner (R149), a room that empties with its reports (R56, R64, R120),
and VACATE_NOW, after which no acknowledgement counts (R105, R118). -/

namespace Sys2Proof.Machine

/-! ### A message taken and its buffer freed (R149) -/

/-- The handler's next message, when its command is the one that takes it. -/
theorem serveMessage_of_atHandler {s : State} {ix : BufferIx} {m : InboxMessage} {d : DeskMessage}
    {select : DeskMessage → Option (State → State)} {act : State → State} (h : atHandler ix m s)
    (parsed : parseDesk m = some d) (selected : select d = some act) :
    serveMessage select s = freeBuffer ix (act s) := by
  obtain ⟨idle, oldest⟩ := h
  have next : nextMessage s = some (ix, m, some d) :=
    nextMessage_eq_some.mpr ⟨idle, oldest, parsed.symm⟩
  simp only [serveMessage, next, selected]

theorem freeBuffer_stayChangeTold (ix : BufferIx) (more : List Report) (t : State) :
    freeBuffer ix (stayChangeTold more t) =
      { stayChangeTold more t with loop := setBuffer t.loop ix .free } := rfl

/-! ### The room empties (R56, R118) -/

/-- The gate takes its vacant values, and the stay is reported with a snapshot: no report shows the
snapshot second count, so all three show the state as it is left. -/
theorem emitSnapshot_stayReport_gateVacant (cause : StayCause) (capClamped : Bool) (s : State) :
    let t : State := { s with
      gate := gateVacated s.gate, folio := { s.folio with snapshotSeconds := 0 } }
    emitSnapshot (stayReport cause capClamped (gateVacant s)) =
      stayChangeTold [stayTold cause capClamped t, snapshotTold t] t := rfl

theorem liveEntries_replicate_none (n : Nat) : liveEntries (List.replicate n none) = [] := by
  simp [liveEntries]

/-- Without a stay, an entry or a record, and with T and R at 0, a STAY_STATE report shows K alone. -/
theorem stayTold_of_empty {cause : StayCause} {t : State} (room : t.stay.room = .vacant)
    (stay : t.stay.stay = 0) (pending : t.stay.pendingCheckIn = none)
    (closure : t.stay.closureQueued = false) (total : t.folio.total = 0)
    (reserved : t.folio.reserved = 0) (queue : t.folio.queue = [])
    (entries : liveEntries t.folio.entries = []) :
    stayTold cause false t = .stayState cause .vacant 0 none false 0 0 t.folio.cap false 0 0 := by
  simp [stayTold, room, stay, pending, closure, total, reserved, queue, entries]

theorem takeVacate_eq (s : State) :
    let t : State := { s with
      stay := { s.stay with
        room := .vacant, stay := 0, pendingCheckIn := none, closureQueued := false
        startTimer := none }
      gate := gateVacated s.gate
      folio := { vacateFolio s.folio with snapshotSeconds := 0 } }
    takeVacate s = stayChangeTold [
      .stayState .vacated .vacant 0 none false 0 0 s.folio.cap false 0 0, snapshotTold t] t := by
  intro t
  have told : stayTold .vacated false t =
      .stayState .vacated .vacant 0 none false 0 0 s.folio.cap false 0 0 :=
    stayTold_of_empty rfl rfl rfl rfl rfl rfl rfl (liveEntries_replicate_none 8)
  rw [← told]
  exact emitSnapshot_stayReport_gateVacant ..

/-! ### An acknowledgement with no record queued (R105) -/

theorem acknowledgeRecord_of_empty {u : State} (serial stay : Nat) (h : u.folio.queue = []) :
    acknowledgeRecord serial stay u = u := by
  simp only [acknowledgeRecord, h]

/-- Settles O50: the vacate-now flag selects `takeVacate`, which looks at no room state. -/
theorem vacateNowEmptiesTheRoom : Obligations.vacateNowEmptiesTheRoom := by
  intro s ix m checkIn p h parsed t
  refine ⟨?_, fun u serial stay => acknowledgeRecord_of_empty serial stay⟩
  have served : exec .vacateNow s = .next (freeBuffer ix (takeVacate s)) :=
    congrArg _ (serveMessage_of_atHandler h parsed rfl)
  rw [served, takeVacate_eq, freeBuffer_stayChangeTold]
  rfl

end Sys2Proof.Machine
end

section
/-! PROOFS. The footprint of every command: the blocks of the state it can change. Every other block is
as it was, so the laws of a block are proved for the commands alone that have it in their footprint. -/

namespace Sys2Proof.Machine

/-! ### Blocks -/

/-- The blocks of the state, with the queue of waiting commands; of the Set Link Port, the reply slot
and all that reports and replies leave alone; and of the Folio Unit, the tariffs and the queued records. -/
inductive Block where
  | feed | keys | descrambler | outputs | gate | folio | stay | clock | loop | desk | link | pending
  | slot | port | tariffs | records
  deriving DecidableEq

/-- Reports handed to the port one after another (R168). -/
def tell (rs : List Report) (l : SetLink) : SetLink := rs.foldl (fun l r => queueReport r l) l

@[simp] theorem tell_nil (l : SetLink) : tell [] l = l := rfl

theorem tell_append (rs rs' : List Report) (l : SetLink) : tell (rs ++ rs') l = tell rs' (tell rs l) :=
  List.foldl_append

theorem queueReport_withSlot (r : Report) (l : SetLink) (x : ReplySlot) :
    queueReport r { l with slot := x } = { queueReport r l with slot := x } := by
  simp only [queueReport]
  split_ifs <;> rfl

theorem tell_withSlot (rs : List Report) (l : SetLink) (x : ReplySlot) :
    tell rs { l with slot := x } = { tell rs l with slot := x } := by
  induction rs generalizing l with
  | nil => rfl
  | cons r rs ih => exact (congrArg (tell rs) (queueReport_withSlot r l x)).trans (ih _)

/-- The port has taken reports, and at the most formed a reply (R166, R168). -/
def served (l l' : SetLink) : Prop :=
  ∃ rs, l' = { tell rs l with slot := l'.slot } ∧ (l'.slot = l.slot ∨ ∃ r, l'.slot = .ready r)

@[simp] theorem tell_slot (rs : List Report) (l : SetLink) : (tell rs l).slot = l.slot := by
  induction rs generalizing l with
  | nil => rfl
  | cons r rs ih => exact (ih _).trans (queueReport_slot r l)

theorem served_tell (rs : List Report) (l : SetLink) : served l (tell rs l) :=
  ⟨rs, rfl, .inl (tell_slot rs l)⟩

@[simp] theorem served_refl (l : SetLink) : served l l := served_tell [] l

theorem served.trans {l l' l'' : SetLink} (h : served l l') (h' : served l' l'') : served l l'' := by
  obtain ⟨rs, e, slot⟩ := h
  obtain ⟨rs', e', slot'⟩ := h'
  refine ⟨rs ++ rs', ?_, ?_⟩
  · rw [e, tell_withSlot] at e'
    rw [tell_append]
    exact e'
  · rcases slot' with slot' | slot'
    · rwa [slot']
    · exact .inr slot'

@[simp] theorem served_queueReport (r : Report) {l l' : SetLink} (h : served l l') :
    served l (queueReport r l') := h.trans (served_tell [r] l')

@[simp] theorem served_reply (r : Reply) {l l' : SetLink} (h : served l l') :
    served l { l' with slot := .ready r } :=
  h.trans ⟨[], rfl, .inr ⟨r, rfl⟩⟩

/-- Two states agree on a block. -/
def agree (s t : State) : Block → Prop
  | .feed => t.feed = s.feed
  | .keys => t.keys = s.keys
  | .descrambler => t.descrambler = s.descrambler
  | .outputs => t.outputs = s.outputs
  | .gate => t.gate = s.gate
  | .folio => t.folio = s.folio
  | .stay => t.stay = s.stay
  | .clock => t.clock = s.clock
  | .loop => t.loop = s.loop
  | .desk => t.desk = s.desk
  | .link => t.link = s.link
  | .pending => t.pending = s.pending
  | .slot => t.link.slot = s.link.slot
  | .port => served s.link t.link
  | .tariffs => t.folio.tariffs = s.folio.tariffs ∧ t.folio.tariffFull = s.folio.tariffFull
  | .records => s.folio.queue <+: t.folio.queue

/-- The second state differs from the first in these blocks at most. -/
def changesOnly (bs : List Block) (s t : State) : Prop := ∀ b, b ∉ bs → agree s t b

theorem changesOnly_iff {bs : List Block} {s t : State} :
    changesOnly bs s t ↔
      (.feed ∉ bs → t.feed = s.feed) ∧ (.keys ∉ bs → t.keys = s.keys) ∧
      (.descrambler ∉ bs → t.descrambler = s.descrambler) ∧ (.outputs ∉ bs → t.outputs = s.outputs) ∧
      (.gate ∉ bs → t.gate = s.gate) ∧ (.folio ∉ bs → t.folio = s.folio) ∧
      (.stay ∉ bs → t.stay = s.stay) ∧ (.clock ∉ bs → t.clock = s.clock) ∧
      (.loop ∉ bs → t.loop = s.loop) ∧ (.desk ∉ bs → t.desk = s.desk) ∧
      (.link ∉ bs → t.link = s.link) ∧ (.pending ∉ bs → t.pending = s.pending) ∧
      (.slot ∉ bs → t.link.slot = s.link.slot) ∧ (.port ∉ bs → served s.link t.link) ∧
      (.tariffs ∉ bs → t.folio.tariffs = s.folio.tariffs ∧ t.folio.tariffFull = s.folio.tariffFull) ∧
      (.records ∉ bs → s.folio.queue <+: t.folio.queue) := by
  constructor
  · intro h
    exact ⟨h .feed, h .keys, h .descrambler, h .outputs, h .gate, h .folio, h .stay, h .clock, h .loop,
      h .desk, h .link, h .pending, h .slot, h .port, h .tariffs, h .records⟩
  · rintro ⟨h1, h2, h3, h4, h5, h6, h7, h8, h9, h10, h11, h12, h13, h14, h15, h16⟩
      (_ | _) <;> assumption

@[refl] theorem changesOnly_refl (bs : List Block) (s : State) : changesOnly bs s s := by
  simp [changesOnly_iff]

theorem changesOnly.trans {bs : List Block} {s t u : State} (h : changesOnly bs s t)
    (h' : changesOnly bs t u) : changesOnly bs s u := by
  intro b hb
  cases b
  case port => exact served.trans (h .port hb) (h' .port hb)
  case tariffs =>
    obtain ⟨tariffs, full⟩ : _ ∧ _ := h .tariffs hb
    obtain ⟨tariffs', full'⟩ : _ ∧ _ := h' .tariffs hb
    exact ⟨tariffs'.trans tariffs, full'.trans full⟩
  case records => exact List.IsPrefix.trans (h .records hb) (h' .records hb)
  all_goals exact Eq.trans (h' _ hb) (h _ hb)

theorem changesOnly.mono {bs cs : List Block} {s t : State} (h : changesOnly bs s t) (hsub : bs ⊆ cs) :
    changesOnly cs s t := fun b hb => h b fun hb' => hb (hsub hb')


/-- What the owner of a request changes, its service changes, with the Set Link Port. -/
theorem changesOnly_serveRequest {bs cs : List Block} (kind : Nat) {owner : Frame → State → State}
    (s : State) (hsub : cs ++ [.link, .slot, .port] ⊆ bs)
    (h : ∀ f s, changesOnly cs s (owner f s)) : changesOnly bs s (serveRequest kind owner s) := by
  have port (f : Frame) : changesOnly [.link, .slot, .port] s (takeFrame f s) := by
    simp [changesOnly_iff]
  have taken (f : Frame) : changesOnly bs s (takeFrame f s) :=
    (port f).mono (List.append_subset.mp hsub).2
  refine serveRequest_induct (P := changesOnly bs s) kind owner s (changesOnly_refl bs s)
    (fun f _ _ => (taken f).trans ((h f _).mono (List.append_subset.mp hsub).1))
    (fun f _ => changesOnly.mono ((port f).trans ?_) (List.append_subset.mp hsub).2)
  simp [changesOnly_iff]

/-- What the owner of a desk message changes, its service changes, with the inbox. -/
theorem changesOnly_serveMessage {bs : List Block} {select : DeskMessage → Option (State → State)}
    (s : State) (hloop : .loop ∈ bs)
    (h : ∀ d act, select d = some act → changesOnly bs s (act s)) :
    changesOnly bs s (serveMessage select s) := by
  refine serveMessage_induct (P := changesOnly bs s) select s (changesOnly_refl bs s)
    (fun ix m d act _ ha => (h d act ha).trans ?_)
  simp [changesOnly_iff, hloop]

/-- What a step at one place changes, a walk over the places changes. -/
theorem changesOnly_overPlaces {bs : List Block} {step : Nat → State → State} (s : State)
    (h : ∀ i s, changesOnly bs s (step i s)) : changesOnly bs s (overPlaces step s) :=
  overPlaces_induct (P := changesOnly bs s) step s (changesOnly_refl bs s)
    fun i _ _ ht => ht.trans (h i _)

/-! ### Reports and replies -/

theorem report_changes (r : Report) (s : State) : changesOnly [.link] s (report r s) := by
  simp [changesOnly_iff]

theorem emitSnapshot_changes (s : State) : changesOnly [.folio, .link] s (emitSnapshot s) := by
  simp [changesOnly_iff]

theorem answer_changes (f : Frame) (code : ResultCode) (body : ReplyBody) (s : State) :
    changesOnly [.link, .slot] s (answer f code body s) := by
  simp [changesOnly_iff]

/-! ### The Folio Unit -/

theorem settleWaiting_changes (s : State) : changesOnly [.folio, .link] s (settleWaiting s) := by
  refine settleWaiting_induct (P := changesOnly [.folio, .link] s) s (changesOnly_refl _ s) ?_
  intro i t _ ht
  refine ht.trans ?_
  obtain e | ⟨_, _, _, _, e⟩ | ⟨_, _, _, _, _, _, e⟩ := settlePlace_cases i t <;> rw [e]
  all_goals simp [changesOnly_iff, endEntry, filmReport, creditTotal, appendRecord]

@[simp] theorem settleWaiting_feed (s : State) : (settleWaiting s).feed = s.feed :=
  settleWaiting_changes s .feed (by decide)
@[simp] theorem settleWaiting_keys (s : State) : (settleWaiting s).keys = s.keys :=
  settleWaiting_changes s .keys (by decide)
@[simp] theorem settleWaiting_descrambler (s : State) :
    (settleWaiting s).descrambler = s.descrambler := settleWaiting_changes s .descrambler (by decide)
@[simp] theorem settleWaiting_outputs (s : State) : (settleWaiting s).outputs = s.outputs :=
  settleWaiting_changes s .outputs (by decide)
@[simp] theorem settleWaiting_gate (s : State) : (settleWaiting s).gate = s.gate :=
  settleWaiting_changes s .gate (by decide)
@[simp] theorem settleWaiting_stay (s : State) : (settleWaiting s).stay = s.stay :=
  settleWaiting_changes s .stay (by decide)
@[simp] theorem settleWaiting_clock (s : State) : (settleWaiting s).clock = s.clock :=
  settleWaiting_changes s .clock (by decide)
@[simp] theorem settleWaiting_loop (s : State) : (settleWaiting s).loop = s.loop :=
  settleWaiting_changes s .loop (by decide)
@[simp] theorem settleWaiting_desk (s : State) : (settleWaiting s).desk = s.desk :=
  settleWaiting_changes s .desk (by decide)
@[simp] theorem settleWaiting_pending (s : State) : (settleWaiting s).pending = s.pending :=
  settleWaiting_changes s .pending (by decide)
@[simp] theorem settleWaiting_slot (s : State) : (settleWaiting s).link.slot = s.link.slot :=
  settleWaiting_changes s .slot (by decide)
@[simp] theorem settleWaiting_served {l : SetLink} {s : State} (h : served l s.link) :
    served l (settleWaiting s).link := h.trans (settleWaiting_changes s .port (by decide))

theorem commitPlace_changes (i : Nat) (s : State) :
    changesOnly [.folio, .link] s (commitPlace i s) := by
  unfold commitPlace
  split <;> simp [changesOnly_iff, filmReport, appendRecord]

theorem commitTest_changes (i : Nat) (s : State) :
    changesOnly [.folio, .link] s (commitTest i s) := by
  unfold commitTest
  split
  · split
    · exact commitPlace_changes i s
    · rfl
  · rfl

theorem closePlace_changes (i : Nat) (s : State) :
    changesOnly [.folio, .link] s (closePlace i s) := by
  unfold closePlace
  dsimp only
  (repeat' split) <;> simp [changesOnly_iff, filmReport]

theorem countFlags_changes (before : Bool) (s : State) :
    changesOnly [.folio, .link] s (countFlags before s) := by
  cases before
  · rw [countFlags_after]
    exact changesOnly_overPlaces s closePlace_changes
  · rw [countFlags_before]

theorem periodicSnapshot_changes (s : State) :
    changesOnly [.folio, .link] s (periodicSnapshot s) := by
  unfold periodicSnapshot
  split_ifs <;> simp [changesOnly_iff, zeroSnapshotSeconds]

theorem closeSecond_changes (before : Bool) (s : State) :
    changesOnly [.folio, .link] s (closeSecond before s) := by
  have committed := (countFlags_changes before s).trans
    (changesOnly_overPlaces (countFlags before s) commitTest_changes)
  have advanced (t : State) : changesOnly [.folio, .link] t (advanceSecond t) := by
    simp [changesOnly_iff, advanceSecond]
  exact (committed.trans (advanced _)).trans (periodicSnapshot_changes _)

theorem placeForFilm_changes {film i : Nat} {s t : State} (h : placeForFilm film s = some (i, t)) :
    changesOnly [.folio] s t := by
  unfold placeForFilm at h
  split at h
  · simp only [Option.some.injEq, Prod.mk.injEq] at h
    rw [h.2]
  · split at h
    · simp only [Option.some.injEq, Prod.mk.injEq] at h
      rw [← h.2]
      simp [changesOnly_iff]
    · simp at h

theorem buyPlace_changes (state : EntryState) (t : Tariff) (i : Nat) (s : State) :
    changesOnly [.folio, .link] s (buyPlace state t i s) := by
  unfold buyPlace
  split <;> simp [changesOnly_iff]

theorem acceptPurchase_changes (t : Tariff) (i : Nat) (s : State) :
    changesOnly [.folio, .link] s (acceptPurchase t i s) := by
  have bought := buyPlace_changes .bought t i s
  have emitted : changesOnly [.folio, .link] s (emitSnapshot ((buyPlace .bought t i s).setFolio
      { (buyPlace .bought t i s).folio with
        reserved := (buyPlace .bought t i s).folio.reserved + t.price })) :=
    bought.trans (by simp [changesOnly_iff])
  unfold acceptPurchase
  dsimp only
  split
  · exact emitted.trans (commitPlace_changes i _)
  · exact emitted

theorem answerFolio_changes (f : Frame) (code : ResultCode) (s : State) :
    changesOnly [.folio, .link, .slot] s (answerFolio f code s) :=
  (answer_changes _ _ _ s).mono (by simp)

theorem purchaseFree_changes (f : Frame) (t : Tariff) (s : State) :
    changesOnly [.folio, .link, .slot] s (purchaseFree f t s) := by
  unfold purchaseFree
  split
  · exact answerFolio_changes _ _ _
  · rename_i i s' h
    have placed : changesOnly [.folio, .link] s s' := (placeForFilm_changes h).mono (by simp)
    have emitted : changesOnly [.folio, .link] s (emitSnapshot (buyPlace .charged t i s')) :=
      (placed.trans (buyPlace_changes .charged t i s')).trans (emitSnapshot_changes _)
    exact (emitted.mono (by simp)).trans (answerFolio_changes _ _ _)

theorem servePurchase_changes (f : Frame) (s : State) :
    changesOnly [.folio, .link, .slot] s (servePurchase f s) := by
  have placed {i : Nat} {t : State} (h : placeForFilm (bodyFilm f) s = some (i, t)) :
      changesOnly [.folio, .link, .slot] s t := (placeForFilm_changes h).mono (by simp)
  have refused (code : ResultCode) := answerFolio_changes f code s
  unfold servePurchase
  dsimp only
  split
  · exact refused _
  split
  · exact refused _
  split
  · exact refused _
  split
  · exact refused _
  split
  · exact refused _
  split
  · exact refused _
  split
  · exact refused _
  · exact refused _
  split
  · exact purchaseFree_changes f _ s
  split
  · exact refused _
  split
  · exact refused _
  split
  · exact refused _
  · rename_i h
    exact ((placed h).trans ((acceptPurchase_changes _ _ _).mono (by simp))).trans (answerFolio_changes _ _ _)

theorem serveCancel_changes (f : Frame) (s : State) :
    changesOnly [.folio, .link, .slot] s (serveCancel f s) := by
  have refused (code : ResultCode) := answerFolio_changes f code s
  unfold serveCancel
  dsimp only
  split
  · exact refused _
  split
  · exact refused _
  split
  · exact refused _
  split
  · exact refused _
  · refine changesOnly.trans (changesOnly.mono (changesOnly.trans ?_ (settleWaiting_changes _))
      (by simp)) (answerFolio_changes _ _ _)
    simp [changesOnly_iff]
  · exact refused _

theorem windowPlace_changes (minute i : Nat) (s : State) :
    changesOnly [.folio, .link] s (windowPlace minute i s) := by
  have settled (t : State) : changesOnly [.folio, .link] s t →
      changesOnly [.folio, .link] s (settleWaiting t) := fun ht => ht.trans (settleWaiting_changes t)
  unfold windowPlace
  split
  · split
    · split
      · refine settled _ ?_
        simp [changesOnly_iff, lapsePlace, filmReport]
      · refine changesOnly.trans (settled _ ?_) (emitSnapshot_changes _)
        simp [changesOnly_iff]
      · rfl
    · rfl
  · rfl

theorem folioMinute_changes (minute : Nat) (s : State) :
    changesOnly [.folio, .link] s (folioMinute minute s) :=
  changesOnly_overPlaces s (windowPlace_changes minute)

theorem leavePlace_changes (i : Nat) (s : State) :
    changesOnly [.folio, .link] s (leavePlace i s) := by
  unfold leavePlace
  split
  · split
    · simp [changesOnly_iff]
    · simp [changesOnly_iff]
    · exact changesOnly.trans (by simp [changesOnly_iff]) (settleWaiting_changes _)
    · rfl
  · rfl

theorem leaveTable_changes (s : State) : changesOnly [.folio, .link] s (leaveTable s) :=
  (changesOnly_overPlaces s leavePlace_changes).trans (settleWaiting_changes _)

theorem takeTariff_changes (film price window rating : Nat) (s : State) :
    changesOnly [.folio, .link, .tariffs] s (takeTariff film price window rating s) := by
  unfold takeTariff
  dsimp only
  (repeat' split) <;> simp [changesOnly_iff, tariffReport]

theorem removeTariff_changes (film : Nat) (s : State) :
    changesOnly [.folio, .tariffs] s (removeTariff film s) := by
  unfold removeTariff
  split <;> simp [changesOnly_iff]

/-! ### The Rating Gate -/

theorem wrongEntry_changes (s : State) : changesOnly [.gate, .link] s (wrongEntry s) := by
  unfold wrongEntry
  split <;> simp [changesOnly_iff, lockReport]

theorem answerLock_changes (f : Frame) (code : ResultCode) (s : State) :
    changesOnly [.gate, .link, .slot] s (answerLock f code s) :=
  (answer_changes _ _ _ s).mono (by simp)

theorem answerLock_wrongEntry_changes (f : Frame) (code : ResultCode) (s : State) :
    changesOnly [.gate, .link, .slot] s (answerLock f code (wrongEntry s)) :=
  ((wrongEntry_changes s).mono (by simp)).trans (answerLock_changes f code _)

theorem answerLock_setGate_changes (f : Frame) (code : ResultCode) (g : RatingGate) (s : State) :
    changesOnly [.gate, .link, .slot] s (answerLock f code (s.setGate g)) :=
  changesOnly.trans (by simp [changesOnly_iff]) (answerLock_changes f code (s.setGate g))

theorem serveUnlock_changes (f : Frame) (s : State) :
    changesOnly [.gate, .link, .slot] s (serveUnlock f s) := by
  have granted : changesOnly [.gate, .link, .slot] s (answerLock f .ok (grantUnlock s)) :=
    changesOnly.trans (by simp [changesOnly_iff, grantUnlock, lockReport])
      (answerLock_changes f .ok (grantUnlock s))
  unfold serveUnlock
  dsimp only
  split_ifs
  all_goals simp only [answerLock_changes, answerLock_wrongEntry_changes, granted]

theorem serveRelock_changes (f : Frame) (s : State) :
    changesOnly [.gate, .link, .slot] s (serveRelock f s) := by
  unfold serveRelock
  split
  · exact changesOnly.trans (by simp [changesOnly_iff, lockReport]) (answerLock_changes f .ok _)
  · exact answerLock_changes f .already s

theorem serveSetPin_changes (f : Frame) (s : State) :
    changesOnly [.gate, .link, .slot] s (serveSetPin f s) := by
  unfold serveSetPin
  dsimp only
  split_ifs
  all_goals simp only [answerLock_changes, answerLock_wrongEntry_changes, answerLock_setGate_changes]

theorem serveSetCeiling_changes (f : Frame) (s : State) :
    changesOnly [.gate, .link, .slot] s (serveSetCeiling f s) := by
  unfold serveSetCeiling
  dsimp only
  split_ifs
  all_goals simp only [answerLock_changes, answerLock_wrongEntry_changes, answerLock_setGate_changes]

theorem gateMinute_changes (minute : Nat) (s : State) :
    changesOnly [.gate, .link] s (gateMinute minute s) := by
  unfold gateMinute
  dsimp only
  split_ifs <;> simp [changesOnly_iff, lockReport]

/-! ### The Key Table and the Cell Descrambler -/

theorem takeDelivery_changes (group parity epoch upper lower : Nat) (s : State) :
    changesOnly [.keys, .link] s (takeDelivery group parity epoch upper lower s) := by
  unfold takeDelivery
  dsimp only
  (repeat' split) <;> simp [changesOnly_iff, refuseInvalid, refuseActive, countRepeat, loadSlot,
    keyReport, countRefusal, countLoad, setKeyGroup]

theorem takeWithdrawal_changes (group parity epoch : Nat) (s : State) :
    changesOnly [.keys, .link] s (takeWithdrawal group parity epoch s) := by
  unfold takeWithdrawal
  dsimp only
  (repeat' split) <;> simp [changesOnly_iff, refuseInvalid, refuseActive, countRepeat, emptySlot,
    keyReport, countRefusal, countWithdrawal, setKeyGroup]

theorem checkActiveParity_changes (c : Cell) (s : State) :
    changesOnly [.keys, .link] s (checkActiveParity c s) := by
  unfold checkActiveParity
  dsimp only
  (repeat' split) <;> simp [changesOnly_iff, keyReport, setKeyGroup]

theorem arrive_changes (c : Cell) (closesAhead : Nat) (s : State) :
    changesOnly [.keys, .descrambler, .link] s (arrive c closesAhead s) := by
  have checked : changesOnly [.keys, .descrambler, .link] s (checkActiveParity c s) :=
    (checkActiveParity_changes c s).mono (by simp)
  unfold arrive
  dsimp only
  split
  · exact checked.trans (by simp [changesOnly_iff])
  · exact checked

theorem askFilm_changes (film : Nat) (barred : Bool) (s : State) :
    changesOnly [.folio] s (askFilm film barred s).2 := by
  unfold askFilm
  split
  · rfl
  split
  · rfl
  · rename_i h
    split <;> exact placeForFilm_changes h

theorem askBlocks_changes (j : Judging) (s : State) : changesOnly [.folio] s (askBlocks j s).2 := by
  have asked := askFilm_changes j.cell.film j.cell.barred s
  unfold askBlocks
  split
  · rfl
  split
  · rfl
  · split
    all_goals
      rename_i h
      rw [h] at asked
      exact asked

theorem changeEntry_changes (i : Nat) (change : Entry → Entry) (s : State) :
    changesOnly [.folio] s (changeEntry i change s) := by
  obtain ⟨e, _, h⟩ | ⟨_, h⟩ := changeEntry_cases i change s <;> rw [h]
  simp [changesOnly_iff]

theorem reportAnswered_changes (intact : Bool) (s : State) :
    changesOnly [.folio] s (reportAnswered intact s) := by
  unfold reportAnswered
  split
  · exact changeEntry_changes _ _ s
  · rfl

theorem finishVerdict_changes (insetFirst : Bool) (j : Judging) (x : OutputStage)
    {tell : Bool → State → State} (s : State)
    (h : ∀ intact, changesOnly [.folio] s (tell intact s)) :
    changesOnly [.descrambler, .outputs, .folio] s (finishVerdict insetFirst j x tell s) := by
  have told : changesOnly [.descrambler, .outputs, .folio] s (tell (isIntact (descramble j.cell j.key)) s) :=
    (h _).mono (by simp)
  exact told.trans (by simp [changesOnly_iff, finishVerdict])

theorem judgeCell_changes (order : VerdictOrder) (j : Judging) (s : State) :
    changesOnly [.descrambler, .outputs, .folio] s (judgeCell order j s) := by
  have asked : changesOnly [.descrambler, .outputs, .folio] s (askBlocks j s).2 :=
    (askBlocks_changes j s).mono (by simp)
  unfold judgeCell
  dsimp only
  split
  · rename_i h
    rw [h] at asked
    exact asked.trans (by simp [changesOnly_iff])
  · rename_i i s' h
    rw [h] at asked
    split
    · have marked : changesOnly [.descrambler, .outputs, .folio] s' (markReference i s') :=
        (changeEntry_changes _ _ s').mono (by simp)
      exact (asked.trans marked).trans (by simp [changesOnly_iff])
    · exact asked.trans (finishVerdict_changes _ _ _ s' fun intact => changeEntry_changes _ _ s')

/-! ### The Output Stage -/

theorem carryOutTune_changes (f : Frame) (s : State) :
    changesOnly [.outputs, .link, .slot] s (carryOutTune f s) := by
  unfold carryOutTune
  dsimp only
  split
  · simp [changesOnly_iff]
  · split <;> simp [changesOnly_iff]

theorem carryOutUntune_changes (f : Frame) (s : State) :
    changesOnly [.outputs, .link, .slot] s (carryOutUntune f s) := by
  unfold carryOutUntune
  split
  · simp [changesOnly_iff]
  · split <;> simp [changesOnly_iff]

theorem unlessWaiting_changes {bs : List Block} {act : Frame → State → State} (f : Frame) (s : State)
    (h : ∀ f s, changesOnly bs s (act f s)) : changesOnly bs s (unlessWaiting act f s) := by
  unfold unlessWaiting
  split
  · rfl
  · exact h f s

theorem carryOutWaiting_changes (s : State) :
    changesOnly [.outputs, .link, .slot] s (carryOutWaiting s) := by
  unfold carryOutWaiting
  split
  · rename_i f _
    split_ifs
    · rfl
    · exact carryOutTune_changes f s
    · exact carryOutUntune_changes f s
    · rfl
  · rfl

theorem serveSetOutput_changes (f : Frame) (s : State) :
    changesOnly [.outputs, .link, .slot] s (serveSetOutput f s) := by
  unfold serveSetOutput
  split <;> simp [changesOnly_iff]

/-! ### The Desk Message Handler -/

theorem discardMalformed_changes (s : State) :
    changesOnly [.loop, .desk] s (discardMalformed s) := by
  unfold discardMalformed
  split <;> simp [changesOnly_iff]

theorem offerNote_changes (ix : BufferIx) (m : InboxMessage) (s : State) :
    changesOnly [.loop, .desk, .link] s (offerNote ix m s) := by
  unfold offerNote
  split
  · split <;> simp [changesOnly_iff]
  · rfl

theorem takeNote_changes (s : State) : changesOnly [.loop, .desk, .link] s (takeNote s) := by
  unfold takeNote
  split
  · exact offerNote_changes _ _ s
  · rfl

theorem offerWaitingNote_changes (s : State) :
    changesOnly [.loop, .desk, .link] s (offerWaitingNote s) := by
  unfold offerWaitingNote
  split
  · split
    · exact offerNote_changes _ _ s
    · rfl
  · rfl

/-! ### The Feed Tracker -/

theorem acceptCell_changes (c : Cell) (s : State) :
    changesOnly [.feed, .descrambler, .link] s (acceptCell c s) := by
  unfold acceptCell
  split_ifs <;> simp [changesOnly_iff]

theorem judgeComplete_changes (c : Cell) (s : State) :
    changesOnly [.feed, .descrambler, .link] s (judgeComplete c s) := by
  unfold judgeComplete
  dsimp only
  split
  · simp [changesOnly_iff]
  split
  · split <;> simp [changesOnly_iff, feedReport]
  · exact changesOnly.trans (by simp [changesOnly_iff]) (acceptCell_changes c _)

theorem trackByte_changes (b : Byte) (s : State) :
    changesOnly [.feed, .descrambler, .link] s (trackByte b s) := by
  unfold trackByte
  split
  · dsimp only
    split
    · rfl
    have joined (cell : Option (List Byte)) : changesOnly [.feed, .descrambler, .link] s
        (s.setFeed { s.feed with cell := cell }) := by simp [changesOnly_iff]
    split
    · exact (joined _).trans (judgeComplete_changes _ _)
    · exact joined _
  · rfl

theorem trackFrameMark_changes (s : State) :
    changesOnly [.feed, .folio, .link] s (trackFrameMark s) := by
  unfold trackFrameMark advanceFrameCount
  split
  · simp [changesOnly_iff, markEndsNoFeed, feedReport]
  · simp [changesOnly_iff, feedReport]
  · split <;> simp [changesOnly_iff]

theorem trackSlotMark_changes (s : State) : changesOnly [.feed, .link] s (trackSlotMark s) := by
  unfold trackSlotMark
  dsimp only
  split
  · simp [changesOnly_iff, markEndsNoFeed, feedReport]
  · simp [changesOnly_iff]
  · split <;> simp [changesOnly_iff, feedReport]

theorem loseFeed_changes (insetFirst : Bool) (s : State) :
    changesOnly [.feed, .outputs, .link] s (loseFeed insetFirst s) := by
  unfold loseFeed
  split <;> simp [changesOnly_iff, feedReport]

/-! ### The Set Link Port -/

theorem discardFrame_changes (cause : LinkCause) (bytes : List Byte) (s : State) :
    changesOnly [.link, .port] s (discardFrame cause bytes s) := by
  simp [changesOnly_iff, discardFrame]

theorem huntByte_changes (b : FifoByte) (s : State) : changesOnly [.link, .port] s (huntByte b s) := by
  unfold huntByte
  split_ifs
  · exact discardFrame_changes _ _ s
  · simp [changesOnly_iff]
  · rfl

theorem takeLengthByte_changes (b : FifoByte) (bytes : List Byte) (s : State) :
    changesOnly [.link, .port] s (takeLengthByte b bytes s) := by
  unfold takeLengthByte
  split
  · exact discardFrame_changes _ _ s
  · split
    · exact discardFrame_changes _ _ s
    · simp [changesOnly_iff]

theorem endFrame_changes (bytes : List Byte) (fault : Option LinkCause) (s : State) :
    changesOnly [.link, .port] s (endFrame bytes fault s) := by
  obtain ⟨cause, h⟩ | ⟨_, _, h⟩ := endFrame_cases bytes fault s <;> rw [h]
  · exact discardFrame_changes _ _ s
  · simp [changesOnly_iff]

theorem takeLaterByte_changes (b : FifoByte) (bytes : List Byte) (fault : Option LinkCause)
    (s : State) : changesOnly [.link, .port] s (takeLaterByte b bytes fault s) := by
  unfold takeLaterByte
  dsimp only
  split
  · exact endFrame_changes _ _ s
  · simp [changesOnly_iff]

theorem assembleByte_changes (s : State) : changesOnly [.link, .port] s (assembleByte s) := by
  have removed (rest : List FifoByte) : changesOnly [.link, .port] s (s.setLink (removeByte rest s.link)) := by
    simp [changesOnly_iff, removeByte]
  unfold assembleByte
  split
  · exact (removed _).trans (huntByte_changes _ _)
  · dsimp only
    split
    · exact (removed _).trans (takeLengthByte_changes _ _ _)
    · exact (removed _).trans (takeLaterByte_changes _ _ _ _)
  · rfl

theorem interByteExpires_changes (s : State) : changesOnly [.link, .port] s (interByteExpires s) := by
  unfold interByteExpires
  split
  · exact discardFrame_changes _ _ s
  · rfl

theorem answerUnknown_changes (s : State) : changesOnly [.link, .slot, .port] s (answerUnknown s) := by
  unfold answerUnknown
  split <;> simp [changesOnly_iff]

theorem serveGuide_changes (f : Frame) (s : State) : changesOnly [.link, .slot, .port] s (serveGuide f s) := by
  unfold serveGuide
  split <;> simp [changesOnly_iff]

theorem serveSoftReset_changes (f : Frame) (s : State) :
    changesOnly [.feed, .outputs, .folio, .link, .slot, .port] s (serveSoftReset f s) := by
  simp [changesOnly_iff, serveSoftReset, softResetFolio]

/-! ### The Stay Controller and the House Clock -/

theorem closureTest_changes (s : State) :
    changesOnly [.stay, .folio, .link] s (closureTest s) := by
  unfold closureTest
  split
  · simp [changesOnly_iff, stayReport, appendRecord]
  · rfl

theorem closeStay_changes (s : State) :
    changesOnly [.stay, .gate, .folio, .link] s (closeStay s) := by
  let emptied := gateVacant (s.setStay { s.stay with room := .closing })
  have vacated : changesOnly [.stay, .gate, .folio, .link] s emptied := by
    simp [changesOnly_iff, emptied, gateVacant, lockReport]
  have left : changesOnly [.stay, .gate, .folio, .link] emptied (leaveTable emptied) :=
    (leaveTable_changes emptied).mono (by simp)
  exact (vacated.trans left).trans ((closureTest_changes _).mono (by simp))

theorem reported_changes (cause : StayCause) (capClamped : Bool) (s : State) :
    changesOnly [.stay, .gate, .folio, .link] s (emitSnapshot (stayReport cause capClamped s)) := by
  simp [changesOnly_iff, stayReport]

theorem beginStay_changes (p : StayParams) (s : State) :
    changesOnly [.stay, .gate, .folio, .link] s (beginStay p s) := by
  have gated : changesOnly [.stay, .gate, .folio, .link] s (gateBegin p (openStay p s)) := by
    simp [changesOnly_iff, gateBegin, lockReport, openStay]
  have begun : changesOnly [.stay, .gate, .folio, .link] s
      (folioBegin p (gateBegin p (openStay p s))) :=
    gated.trans (by simp [changesOnly_iff, folioBegin])
  exact begun.trans (reported_changes .checkIn false _)

theorem updateStay_changes (p : StayParams) (s : State) :
    changesOnly [.stay, .gate, .folio, .loop, .link] s (updateStay p s) := by
  let taken := s.setStay { s.stay with
    previewAllowance := min p.previewAllowance 600, grace := min p.grace 900 }
  have gated : changesOnly [.stay, .gate, .folio, .loop, .link] s (gateUpdate p taken) := by
    simp [changesOnly_iff, gateUpdate, lockReport, taken]
  have updated : changesOnly [.stay, .gate, .folio, .loop, .link] (gateUpdate p taken)
      (folioUpdate p (gateUpdate p taken)) := by
    simp only [folioUpdate]
    split <;> simp [changesOnly_iff]
  exact (gated.trans updated).trans ((reported_changes _ _ _).mono (by simp))

theorem changeOver_changes (p : StayParams) (s : State) :
    changesOnly [.stay, .gate, .folio, .link] s (changeOver p s) :=
  (closeStay_changes s).trans (by simp [changesOnly_iff, changeOver, stayReport])

theorem endClosing_changes (s : State) :
    changesOnly [.stay, .gate, .folio, .link] s (endClosing s) := by
  unfold endClosing
  dsimp only
  split
  · refine changesOnly.trans ?_ (beginStay_changes _ _)
    simp [changesOnly_iff, stayReport]
  · simp [changesOnly_iff, stayReport]

theorem acknowledgeRecord_changes (serial stay : Nat) (s : State) :
    changesOnly [.stay, .gate, .folio, .link, .records] s (acknowledgeRecord serial stay s) := by
  unfold acknowledgeRecord
  split
  · rename_i r rest _
    dsimp only
    split
    · let posted := emitSnapshot (s.setFolio { s.folio with queue := rest })
      have taken : changesOnly [.folio, .link, .records] s posted := by simp [changesOnly_iff, posted]
      have settled : changesOnly [.stay, .gate, .folio, .link, .records] s (settleWaiting posted) :=
        (taken.trans ((settleWaiting_changes posted).mono (by simp))).mono (by simp)
      split
      · exact settled.trans ((endClosing_changes _).mono (by simp))
      · exact settled.trans ((closureTest_changes _).mono (by simp))
    · rfl
  · rfl

theorem takeCheckIn_changes (p : StayParams) (s : State) :
    changesOnly [.stay, .gate, .folio, .loop, .link] s (takeCheckIn p s) := by
  have begun : changesOnly [.stay, .gate, .folio, .loop, .link] s (beginStay p s) :=
    (beginStay_changes p s).mono (by simp)
  have refused : changesOnly [.stay, .gate, .folio, .loop, .link] s (stayReport .checkInRefused false s) := by
    simp [changesOnly_iff, stayReport]
  unfold takeCheckIn
  split
  · exact refused
  split
  · exact begun
  · exact begun
  · split
    · exact updateStay_changes p s
    · exact (changeOver_changes p s).mono (by simp)
  · split
    · exact refused
    · simp [changesOnly_iff, stayReport]

theorem takeCheckOut_changes (s : State) :
    changesOnly [.stay, .gate, .folio, .link] s (takeCheckOut s) := by
  unfold takeCheckOut
  split
  · exact changesOnly.trans (by simp [changesOnly_iff, gateVacant, lockReport])
      (reported_changes .checkOut false (gateVacant
        (s.setStay { s.stay with room := .vacant, startTimer := none })))
  · simp [changesOnly_iff, stayReport]
  · exact (closeStay_changes s).trans (by simp [changesOnly_iff, checkOutOccupied, stayReport])
  · rfl

theorem takeVacate_changes (s : State) :
    changesOnly [.stay, .gate, .folio, .link, .records] s (takeVacate s) := by
  let emptied := s.setStay { s.stay with
    room := .vacant, stay := 0, pendingCheckIn := none, closureQueued := false, startTimer := none }
  have vacated : changesOnly [.stay, .gate, .folio, .link, .records] s
      (gateVacant (emptied.setFolio (vacateFolio emptied.folio))) := by
    simp [changesOnly_iff, gateVacant, lockReport, emptied, vacateFolio]
  exact vacated.trans ((reported_changes .vacated false _).mono (by simp))

theorem startTimeout_changes (s : State) : changesOnly [.stay, .link] s (startTimeout s) := by
  unfold startTimeout
  split
  · simp [changesOnly_iff, stayReport]
  · rfl

theorem signalMinute_changes (folioFirst : Bool) (s : State) :
    changesOnly [.gate, .folio, .link] s (signalMinute folioFirst s) := by
  have folio (m : Nat) (t : State) : changesOnly [.gate, .folio, .link] t (folioMinute m t) :=
    (folioMinute_changes m t).mono (by simp)
  have gate (m : Nat) (t : State) : changesOnly [.gate, .folio, .link] t (gateMinute m t) :=
    (gateMinute_changes m t).mono (by simp)
  unfold signalMinute
  dsimp only
  split
  · exact (folio _ s).trans (gate _ _)
  · exact (gate _ s).trans (folio _ _)

theorem takeTime_changes (folioFirst : Bool) (minute : Nat) (s : State) :
    changesOnly [.clock, .gate, .folio, .link] s (takeTime folioFirst minute s) :=
  changesOnly.trans (by simp [changesOnly_iff]) ((signalMinute_changes folioFirst
    (s.setClock ⟨true, min minute lastMinute, some minuteMicros⟩)).mono (by simp))

theorem advanceMinute_changes (folioFirst : Bool) (s : State) :
    changesOnly [.clock, .gate, .folio, .link] s (advanceMinute folioFirst s) := by
  unfold advanceMinute
  split
  · split
    · exact changesOnly.trans (by simp [changesOnly_iff]) ((signalMinute_changes folioFirst
        (s.setClock { s.clock with minute := s.clock.minute + 1, elapsed := some minuteMicros })).mono
        (by simp))
    · simp [changesOnly_iff]
  · rfl

/-! ### The Loop Station -/

theorem setLoop_changes (l : LoopStation) (s : State) : changesOnly [.loop, .link] s (s.setLoop l) := by
  simp [changesOnly_iff]

theorem send_changes (p : LoopPacket) (expects : Option Window) (s : State) :
    changesOnly [.loop, .link] s (send p expects s) := setLoop_changes _ s

theorem endTurn_changes (s : State) : changesOnly [.loop, .link] s (endTurn s) := setLoop_changes _ s

theorem failExchange_changes (s : State) : changesOnly [.loop, .link] s (failExchange s) :=
  setLoop_changes _ s

theorem loopReport_changes (cause : LoopCause) (s : State) :
    changesOnly [.loop, .link] s (loopReport cause s) := by
  simp [changesOnly_iff, loopReport]

theorem searchFails_changes (s : State) : changesOnly [.loop, .link] s (searchFails s) := by
  unfold searchFails
  dsimp only
  split <;> simp [changesOnly_iff, loopReport, endTurn]

theorem searchFinds_changes (candidate : Nat) (s : State) :
    changesOnly [.loop, .link] s (searchFinds candidate s) := by
  unfold searchFinds
  dsimp only
  split <;> simp [changesOnly_iff, loopReport, endTurn]

theorem searchFrom_changes (address : Nat) (s : State) :
    changesOnly [.loop, .link] s (searchFrom address s) := by
  obtain ⟨_, h⟩ | ⟨_, h⟩ := searchFrom_cases address s <;> rw [h]
  · exact searchFails_changes s
  · exact (setLoop_changes _ s).trans (send_changes _ _ _)

theorem passToken_changes (s : State) : changesOnly [.loop, .link] s (passToken s) := by
  have cleared := setLoop_changes { s.loop with passDeferred := false, exchange := none } s
  unfold passToken
  dsimp only
  split
  · exact cleared.trans (searchFrom_changes _ _)
  split
  · exact cleared.trans (searchFrom_changes _ _)
  · exact (cleared.trans (setLoop_changes _ _)).trans (send_changes _ _ _)

theorem passingStep_changes (s : State) : changesOnly [.loop, .link] s (passingStep s) := by
  obtain ⟨_, h⟩ | ⟨_, h⟩ := passingStep_cases s <;> rw [h]
  · exact setLoop_changes _ s
  · exact passToken_changes s

theorem resumePass_changes (s : State) : changesOnly [.loop, .link] s (resumePass s) := by
  obtain ⟨_, h⟩ | ⟨_, h⟩ := resumePass_cases s <;> rw [h]
  exact passingStep_changes s

theorem dataStep_changes (s : State) : changesOnly [.loop, .link] s (dataStep s) := by
  unfold dataStep
  dsimp only
  split
  · exact (setLoop_changes _ s).trans (send_changes _ _ _)
  split
  · exact (setLoop_changes _ s).trans (send_changes _ _ _)
  · exact passingStep_changes s

theorem remakeToken_changes (s : State) : changesOnly [.loop, .link] s (remakeToken s) := by
  unfold remakeToken
  dsimp only
  refine changesOnly.trans ?_ (dataStep_changes _)
  split <;> simp [changesOnly_iff, loopReport]

theorem failIfAnswering_changes (h : HeardPacket) (s : State) :
    changesOnly [.loop, .link] s (failIfAnswering h s) := by
  obtain e | e := failIfAnswering_cases h s <;> rw [e]
  exact failExchange_changes s

theorem answerEnquiry_changes (s : State) : changesOnly [.loop, .link] s (answerEnquiry s) := by
  unfold answerEnquiry
  dsimp only
  split
  · exact (setLoop_changes _ s).trans (send_changes _ _ _)
  · exact (setLoop_changes _ s).trans (send_changes _ _ _)

theorem noteActivity_changes (s : State) : changesOnly [.loop, .link] s (noteActivity s) := by
  unfold noteActivity
  split <;> exact setLoop_changes _ s

theorem answerWindow_changes (w : Window) (p : Option LoopPacket) (s : State) :
    changesOnly [.loop, .link] s (answerWindow w p s) := by
  unfold answerWindow
  split
  · exact endTurn_changes s
  · split
    · exact searchFinds_changes _ s
    · exact endTurn_changes s
  · split
    · rfl
    · exact (setLoop_changes _ s).trans (loopReport_changes _ _)
  · split
    · rfl
    · exact setLoop_changes _ s
  · split
    · rfl
    · exact failExchange_changes s
  · split
    · rfl
    · exact failExchange_changes s

theorem hearStart_changes (chars : List Byte) (s : State) :
    changesOnly [.loop, .link] s (hearStart chars s) := by
  unfold hearStart
  split
  · rfl
  dsimp only
  have answered := answerWindows_induct (P := changesOnly [.loop, .link] s) (judgePacket chars)
    s.loop.windows ((noteActivity s).setLoop { (noteActivity s).loop with windows := [] })
    ((noteActivity_changes s).trans (setLoop_changes _ _))
    (fun w t ht => ht.trans (answerWindow_changes w _ t))
  split
  · exact answered.trans (setLoop_changes _ _)
  · exact answered.trans (resumePass_changes _)

theorem busyTest_changes (s : State) : changesOnly [.loop, .link] s (busyTest s) := by
  unfold busyTest
  split
  · exact (loopReport_changes _ s).trans (setLoop_changes _ _)
  · rfl

theorem endFaulty_changes (h : HeardPacket) (s : State) :
    changesOnly [.loop, .link] s (endFaulty h s) :=
  (setLoop_changes _ s).trans (failIfAnswering_changes h _)

theorem endToken_changes (h : HeardPacket) (s : State) :
    changesOnly [.loop, .link] s (endToken h s) := by
  unfold endToken
  split
  · rfl
  · exact setLoop_changes _ s
  · split
    · exact failIfAnswering_changes h s
    · exact (setLoop_changes _ s).trans (dataStep_changes _)

theorem endEnquiry_changes (source : Nat) (h : HeardPacket) (s : State) :
    changesOnly [.loop, .link] s (endEnquiry source h s) := by
  unfold endEnquiry
  dsimp only
  split
  · exact (failIfAnswering_changes h s).trans (answerEnquiry_changes _)
  · exact failIfAnswering_changes h s

theorem endAccept_changes (h : HeardPacket) (s : State) :
    changesOnly [.loop, .link] s (endAccept h s) := by
  unfold endAccept
  split
  · exact (setLoop_changes _ s).trans (send_changes _ _ _)
  · exact failIfAnswering_changes h s

theorem endDecline_changes (h : HeardPacket) (s : State) :
    changesOnly [.loop, .link] s (endDecline h s) := by
  unfold endDecline
  split
  · exact (setLoop_changes _ s).trans (busyTest_changes _)
  · exact failIfAnswering_changes h s

theorem endDataAck_changes (h : HeardPacket) (s : State) :
    changesOnly [.loop, .stay, .gate, .folio, .link, .records] s (endDataAck h s) := by
  have ended (l : LoopStation) : changesOnly [.loop, .stay, .gate, .folio, .link, .records] s (s.setLoop l) :=
    (setLoop_changes l s).mono (by simp)
  unfold endDataAck
  split
  · dsimp only
    split
    · exact ended _
    · exact (ended _).trans ((acknowledgeRecord_changes _ _ _).mono (by simp))
  · exact (failIfAnswering_changes h s).mono (by simp)

theorem endData_changes (source : Nat) (body : List Byte) (h : HeardPacket) (s : State) :
    changesOnly [.loop, .link] s (endData source body h s) := by
  have failed := failIfAnswering_changes h s
  unfold endData
  dsimp only
  split
  · split
    · exact (failed.trans (setLoop_changes _ _)).trans (send_changes _ _ _)
    · exact failed.trans (setLoop_changes _ _)
  · exact failed.trans (setLoop_changes _ _)

theorem endBroadcast_changes (source : Nat) (body : List Byte) (h : HeardPacket) (s : State) :
    changesOnly [.loop, .link] s (endBroadcast source body h s) := by
  have failed := failIfAnswering_changes h s
  unfold endBroadcast
  dsimp only
  split
  · split <;> exact failed.trans (setLoop_changes _ _)
  · exact failed.trans (setLoop_changes _ _)

/-- What the act at a packet's end changes, the end changes, with the loop and its reports. -/
theorem changesOnly_hearEnd {bs : List Block}
    {select : Option LoopPacket → Option (HeardPacket → State → State)} (s : State)
    (hbs : [.loop, .link] ⊆ bs)
    (h : ∀ p act, select p = some act → ∀ h s, changesOnly bs s (act h s)) :
    changesOnly bs s (hearEnd select s) := by
  obtain e | ⟨heard, act, _, ha, e⟩ := hearEnd_cases select s <;> rw [e]
  exact (((setLoop_changes _ s).mono hbs).trans (h _ act ha _ _)).trans
    ((resumePass_changes _).mono hbs)

theorem expireWindow_changes (w : Window) (s : State) :
    changesOnly [.loop, .link] s (expireWindow w s) := by
  have failed : changesOnly [.loop, .link] s (resumePass (failExchange s)) :=
    (failExchange_changes s).trans (resumePass_changes _)
  unfold expireWindow
  split
  · exact failed
  · exact failed
  · split <;> exact searchFrom_changes _ s
  · split
    · exact searchFrom_changes _ s
    · rfl
  · exact (setLoop_changes _ s).trans (resumePass_changes _)
  · rfl

theorem packetSent_changes (s : State) : changesOnly [.loop, .link] s (packetSent s) := by
  unfold packetSent
  split
  · rfl
  · exact setLoop_changes _ s

theorem idleExpires_changes (s : State) : changesOnly [.loop, .link] s (idleExpires s) := by
  unfold idleExpires
  split
  · exact setLoop_changes _ s
  · rfl

theorem rebuildWaitExpires_changes (s : State) :
    changesOnly [.loop, .link] s (rebuildWaitExpires s) := by
  unfold rebuildWaitExpires
  split
  · exact remakeToken_changes s
  · rfl

theorem serveSetStation_changes (f : Frame) (s : State) :
    changesOnly [.loop, .link, .slot] s (serveSetStation f s) := by
  unfold serveSetStation
  dsimp only
  split_ifs <;> simp [changesOnly_iff]

theorem serveJoin_changes (f : Frame) (s : State) :
    changesOnly [.loop, .link, .slot] s (serveJoin f s) := by
  unfold serveJoin
  split
  · simp [changesOnly_iff]
  · split <;> simp [changesOnly_iff]
  · simp [changesOnly_iff]

theorem serveLeave_changes (f : Frame) (s : State) :
    changesOnly [.loop, .link, .slot] s (serveLeave f s) := by
  unfold serveLeave
  split <;> simp [changesOnly_iff]

theorem serveLoopConfig_changes (f : Frame) (s : State) :
    changesOnly [.loop, .link, .slot] s (serveLoopConfig f s) := by
  simp [changesOnly_iff, serveLoopConfig]

/-! ### RESTORE -/

theorem restoreBlocks_changes (x : Snapshot) (s : State) :
    changesOnly [.stay, .gate, .folio, .link, .records] s (restoreBlocks x s) := by
  let opened := gateBegin (restoreParams x) (openStay (restoreParams x) s)
  let placed := opened.setFolio (restoreFolio x opened.stay.previewAllowance opened.folio)
  have started : changesOnly [.stay, .gate, .folio, .link, .records] s placed := by
    simp [changesOnly_iff, gateBegin, lockReport, openStay, placed, opened, restoreFolio]
  have settled : changesOnly [.stay, .gate, .folio, .link, .records] s (settleWaiting placed) :=
    started.trans ((settleWaiting_changes placed).mono (by simp))
  unfold restoreBlocks
  dsimp only
  split
  · exact settled.trans (by simp [changesOnly_iff, placed, opened])
  · exact settled

theorem acceptRestore_changes (x : Snapshot) (s : State) :
    changesOnly [.stay, .gate, .folio, .link, .records] s (acceptRestore x s) := by
  have restored := restoreBlocks_changes x s
  unfold acceptRestore
  dsimp only
  refine changesOnly.trans ?_ (t := if x.closing = 1 then closeStay (restoreBlocks x s)
    else restoreBlocks x s) (by simp [changesOnly_iff, stayReport])
  split
  · exact restored.trans ((closeStay_changes _).mono (by simp))
  · exact restored

theorem serveRestore_changes (f : Frame) (s : State) :
    changesOnly [.stay, .gate, .folio, .link, .slot, .records] s (serveRestore f s) := by
  unfold serveRestore
  split
  · simp [changesOnly_iff]
  · exact (acceptRestore_changes (parseSnapshot f.body) s).mono (by simp) |>.trans
      ((answer_changes _ _ _ _).mono (by simp))

/-! ### Every command -/

/-- The state that a command leaves. -/
def stateAfter (c : Instr) (s : State) : State :=
  match exec c s with
  | .next t => t
  | _ => s

/-- Every command completes. -/
theorem exec_eq_next (c : Instr) (s : State) : exec c s = .next (stateAfter c s) := by
  cases c <;> rfl

theorem stateAfter_of_exec {c : Instr} {s t : State} (h : exec c s = .next t) :
    t = stateAfter c s := by
  rw [exec_eq_next] at h
  exact (Host.Outcome.next.inj h).symm

/-- The blocks that a command can change. -/
def footprint : Instr → List Block
  | .powerOnReset .. =>
    [.feed, .keys, .descrambler, .outputs, .gate, .folio, .stay, .clock, .loop, .desk, .link, .slot,
      .port, .tariffs, .records]
  | .feedByte _ => [.feed, .descrambler, .link]
  | .frameMark _ => [.feed, .folio, .link]
  | .slotMark => [.feed, .link]
  | .feedLossTimerExpiry _ => [.feed, .outputs, .link]
  | .cellArrival => [.keys, .descrambler, .link]
  | .cellVerdict _ => [.descrambler, .outputs, .folio]
  | .decoderRequest | .itemDeliveryComplete => [.outputs]
  | .feedSecondClose => [.descrambler, .folio, .link]
  | .setLinkByteReceived .. | .assemblerByte | .interByteTimeout => [.link, .port]
  | .unknownKind | .status | .filmQuery | .guide | .transmitChoice _ | .frameSent => [.link, .slot, .port]
  | .tune | .untune | .setOutput => [.outputs, .link, .slot, .port]
  | .tuningAfterCell => [.outputs, .link, .slot]
  | .purchase | .cancel => [.folio, .link, .slot, .port]
  | .unlock | .relock | .setPin | .setCeiling => [.gate, .link, .slot, .port]
  | .setStation | .join | .leave | .loopConfig => [.loop, .link, .slot, .port]
  | .restore => [.stay, .gate, .folio, .link, .slot, .port, .records]
  | .softReset => [.feed, .outputs, .folio, .link, .slot, .port]
  | .deskNote | .deskNoteEntersQueue => [.loop, .desk, .link]
  | .malformedMessage => [.loop, .desk]
  | .loopActivity _ | .faultyPacket | .tokenReceived
  | .enquiryReceived | .acceptReceived | .declineReceived | .dataReceived | .broadcastReceived
  | .responseWindowExpiry | .idleTimerExpiry | .rebuildWaitExpiry | .loopPacketSent => [.loop, .link]
  | .dataAckReceived => [.loop, .stay, .gate, .folio, .link, .records]
  | .vacateNow => [.stay, .gate, .folio, .loop, .link, .records]
  | .checkIn | .checkOut => [.stay, .gate, .folio, .loop, .link]
  | .keyDelivery | .keyWithdrawal => [.keys, .loop, .link]
  | .tariffSet | .tariffRemove => [.folio, .loop, .link, .tariffs]
  | .time _ => [.clock, .gate, .folio, .loop, .link]
  | .roomQuery => [.loop]
  | .minuteAdvance _ => [.clock, .gate, .folio, .link]
  | .startTimeout => [.stay, .link]

theorem powerOn_changes (a b : Bool) (s : State) :
    changesOnly (footprint (.powerOnReset a b)) s (powerOn a b s) := by
  simp [changesOnly_iff, footprint, powerOn]

theorem cellArrival_changes (s : State) :
    changesOnly (footprint .cellArrival) s (stateAfter .cellArrival s) := by
  obtain h | ⟨c, rest, _, _, _, _, h⟩ := execCellArrival_cases s
  · rw [← stateAfter_of_exec (c := .cellArrival) h]
  · rw [← stateAfter_of_exec (c := .cellArrival) h]
    exact changesOnly.trans (by simp [changesOnly_iff, footprint]) (arrive_changes _ _ _)

theorem cellVerdict_changes (order : VerdictOrder) (s : State) :
    changesOnly (footprint (.cellVerdict order)) s (stateAfter (.cellVerdict order) s) := by
  change changesOnly [.descrambler, .outputs, .folio] s (match s.descrambler.judging with
    | some j =>
      if j.cell.film ≠ 0 ∧ j.closesAhead ≠ 0 then s
      else if j.answered then finishVerdict order.insetFirst j s.outputs reportAnswered s
      else judgeCell order j s
    | none => s)
  split
  · split_ifs
    · rfl
    · exact finishVerdict_changes _ _ _ s fun intact => reportAnswered_changes intact s
    · exact judgeCell_changes _ _ s
  · rfl

theorem feedSecondClose_changes (s : State) :
    changesOnly (footprint .feedSecondClose) s (stateAfter .feedSecondClose s) := by
  obtain h | ⟨_, _, h⟩ := execFeedSecondClose_cases s
  · rw [← stateAfter_of_exec (c := .feedSecondClose) h]
  · rw [← stateAfter_of_exec (c := .feedSecondClose) h]
    have taken : changesOnly (footprint .feedSecondClose) s (closeTaken s) := by
      simp [changesOnly_iff, footprint, closeTaken]
    exact taken.trans ((closeSecond_changes _ _).mono (by simp [footprint]))

theorem itemDeliveryComplete_changes (s : State) :
    changesOnly [.outputs] s (if s.outputs.delivering.isSome then
      s.setOutputs (completeDelivery s.outputs) else s) := by
  split
  · simp [changesOnly_iff]
  · rfl

theorem setLinkByteReceived_changes (b : Byte) (parityBit stopBit : Bool) (s : State) :
    changesOnly [.link, .port] s (s.setLink (receiveByte b parityBit stopBit s.link)) := by
  obtain ⟨_, h⟩ | ⟨_, h⟩ := receiveByte_cases b parityBit stopBit s.link <;> rw [h]
  all_goals simp [changesOnly_iff, enterByte]

theorem responseWindowExpiry_changes (s : State) :
    changesOnly [.loop, .link] s (stateAfter .responseWindowExpiry s) := by
  change changesOnly [.loop, .link] s (match s.loop.windows with
    | w :: rest => expireWindow w (s.setLoop { s.loop with windows := rest })
    | [] => s)
  split
  · exact (setLoop_changes _ s).trans (expireWindow_changes _ _)
  · rfl

theorem serveFilmQuery_changes (f : Frame) (s : State) :
    changesOnly [.link, .slot] s (serveFilmQuery f s) := by
  unfold serveFilmQuery
  dsimp only
  split
  · exact answer_changes _ _ _ s
  · split <;> exact answer_changes _ _ _ s

theorem requestRoomReport_changes (s : State) : changesOnly [.loop] s (requestRoomReport s) := by
  simp [changesOnly_iff]

/-- The frame of every command: it changes its footprint and nothing else. -/
theorem stateAfter_changes (c : Instr) (s : State) :
    changesOnly (footprint c) s (stateAfter c s) := by
  have port (l : SetLink) : changesOnly [.link, .slot, .port] s (s.setLink l) := by
    simp [changesOnly_iff]
  cases c with
  | powerOnReset a b => exact powerOn_changes a b s
  | feedByte b => exact trackByte_changes b s
  | frameMark fslt => exact trackFrameMark_changes s
  | slotMark => exact trackSlotMark_changes s
  | feedLossTimerExpiry insetFirst => exact loseFeed_changes insetFirst s
  | cellArrival => exact cellArrival_changes s
  | cellVerdict order => exact cellVerdict_changes order s
  | decoderRequest =>
    show changesOnly [.outputs] s (s.setOutputs _)
    simp [changesOnly_iff]
  | itemDeliveryComplete => exact itemDeliveryComplete_changes s
  | feedSecondClose => exact feedSecondClose_changes s
  | setLinkByteReceived b parityBit stopBit => exact setLinkByteReceived_changes b parityBit stopBit s
  | assemblerByte => exact assembleByte_changes s
  | interByteTimeout => exact interByteExpires_changes s
  | unknownKind => exact answerUnknown_changes s
  | status => exact changesOnly_serveRequest _ s (by simp [footprint]) fun f s => answer_changes _ _ _ s
  | tune =>
    exact changesOnly_serveRequest _ s (by simp [footprint])
      fun f s => unlessWaiting_changes f s carryOutTune_changes
  | untune =>
    exact changesOnly_serveRequest _ s (by simp [footprint])
      fun f s => unlessWaiting_changes f s carryOutUntune_changes
  | tuningAfterCell => exact carryOutWaiting_changes s
  | setOutput => exact changesOnly_serveRequest _ s (by simp [footprint]) serveSetOutput_changes
  | purchase => exact changesOnly_serveRequest _ s (by simp [footprint]) servePurchase_changes
  | cancel => exact changesOnly_serveRequest _ s (by simp [footprint]) serveCancel_changes
  | filmQuery => exact changesOnly_serveRequest _ s (by simp [footprint]) serveFilmQuery_changes
  | unlock => exact changesOnly_serveRequest _ s (by simp [footprint]) serveUnlock_changes
  | relock => exact changesOnly_serveRequest _ s (by simp [footprint]) serveRelock_changes
  | setPin => exact changesOnly_serveRequest _ s (by simp [footprint]) serveSetPin_changes
  | setCeiling => exact changesOnly_serveRequest _ s (by simp [footprint]) serveSetCeiling_changes
  | setStation => exact changesOnly_serveRequest _ s (by simp [footprint]) serveSetStation_changes
  | join => exact changesOnly_serveRequest _ s (by simp [footprint]) serveJoin_changes
  | leave => exact changesOnly_serveRequest _ s (by simp [footprint]) serveLeave_changes
  | loopConfig => exact changesOnly_serveRequest _ s (by simp [footprint]) serveLoopConfig_changes
  | guide => exact changesOnly_serveRequest _ s (by simp [footprint]) serveGuide_changes
  | restore => exact changesOnly_serveRequest _ s (by simp [footprint]) serveRestore_changes
  | softReset => exact changesOnly_serveRequest _ s (by simp [footprint]) serveSoftReset_changes
  | transmitChoice srdy => exact port _
  | frameSent => exact port _
  | deskNoteEntersQueue => exact offerWaitingNote_changes s
  | loopActivity chars => exact hearStart_changes chars s
  | faultyPacket =>
    exact changesOnly_hearEnd s (by simp [footprint]) fun
      | none, _, rfl => endFaulty_changes
  | tokenReceived =>
    exact changesOnly_hearEnd s (by simp [footprint]) fun
      | some (.token _), _, rfl => endToken_changes
  | enquiryReceived =>
    exact changesOnly_hearEnd s (by simp [footprint]) fun
      | some (.enquiry _ _), _, rfl => endEnquiry_changes _
  | acceptReceived =>
    exact changesOnly_hearEnd s (by simp [footprint]) fun
      | some (.accept _), _, rfl => endAccept_changes
  | declineReceived =>
    exact changesOnly_hearEnd s (by simp [footprint]) fun
      | some (.decline _), _, rfl => endDecline_changes
  | dataAckReceived =>
    exact changesOnly_hearEnd s (by simp [footprint]) fun
      | some (.dataAck _), _, rfl => endDataAck_changes
  | dataReceived =>
    exact changesOnly_hearEnd s (by simp [footprint]) fun
      | some (.data (_ + 1) _ _), _, rfl => endData_changes _ _
  | broadcastReceived =>
    exact changesOnly_hearEnd s (by simp [footprint]) fun
      | some (.data 0 _ _), _, rfl => endBroadcast_changes _ _
  | responseWindowExpiry => exact responseWindowExpiry_changes s
  | idleTimerExpiry => exact idleExpires_changes s
  | rebuildWaitExpiry => exact rebuildWaitExpires_changes s
  | malformedMessage => exact discardMalformed_changes s
  | checkIn =>
    exact changesOnly_serveMessage s (by simp [footprint]) fun
      | .guestStatus true false _, _, rfl => takeCheckIn_changes _ s
  | checkOut =>
    exact changesOnly_serveMessage s (by simp [footprint]) fun
      | .guestStatus false false _, _, rfl => (takeCheckOut_changes s).mono (by simp [footprint])
  | vacateNow =>
    exact changesOnly_serveMessage s (by simp [footprint]) fun
      | .guestStatus _ true _, _, rfl => (takeVacate_changes s).mono (by simp [footprint])
  | keyDelivery =>
    exact changesOnly_serveMessage s (by simp [footprint]) fun
      | .keyDelivery .., _, rfl => (takeDelivery_changes _ _ _ _ _ s).mono (by simp [footprint])
  | keyWithdrawal =>
    exact changesOnly_serveMessage s (by simp [footprint]) fun
      | .keyWithdrawal .., _, rfl => (takeWithdrawal_changes _ _ _ s).mono (by simp [footprint])
  | tariffSet =>
    exact changesOnly_serveMessage s (by simp [footprint]) fun
      | .tariffSet .., _, rfl => (takeTariff_changes _ _ _ _ s).mono (by simp [footprint])
  | tariffRemove =>
    exact changesOnly_serveMessage s (by simp [footprint]) fun
      | .tariffRemove _, _, rfl => (removeTariff_changes _ s).mono (by simp [footprint])
  | time folioFirst =>
    exact changesOnly_serveMessage s (by simp [footprint]) fun
      | .time _, _, rfl => (takeTime_changes _ _ s).mono (by simp [footprint])
  | deskNote => exact takeNote_changes s
  | roomQuery =>
    exact changesOnly_serveMessage s (by simp [footprint]) fun
      | .roomQuery, _, rfl => requestRoomReport_changes s
  | minuteAdvance folioFirst => exact advanceMinute_changes folioFirst s
  | startTimeout => exact startTimeout_changes s
  | loopPacketSent => exact packetSent_changes s

/-- A command leaves every block outside its footprint as it was. -/
theorem exec_agree {c : Instr} {s t : State} (h : exec c s = .next t) (b : Block)
    (hb : b ∉ footprint c) : agree s t b := by
  rw [stateAfter_of_exec h]
  exact stateAfter_changes c s b hb

end Sys2Proof.Machine
end

section
/-! PROOFS. One step (95_what_each_step_holds.md), power-on reset, and the state after it. -/

namespace Sys2Proof.Machine

theorem step_of_pending {s : State} {c : Instr} {rest : List Instr} (h : s.pending = c :: rest) :
    step s = exec c { s with pending := rest } := by
  simp only [step, h]

theorem step_of_idle {s : State} (h : s.pending = []) : step s = .next s := by
  simp only [step, h]

/-- Settles O1: the two cases of the queue of commands. -/
theorem stepRunsTheFrontCommand : Obligations.stepRunsTheFrontCommand :=
  ⟨fun _ _ _ => step_of_pending, fun _ => step_of_idle⟩

/-- A law of the state without its queue of commands that every command keeps, every step keeps. -/
theorem step_keeps {P : State → Prop} (hqueue : ∀ s rest, P s → P { s with pending := rest })
    (hexec : ∀ c s t, P s → exec c s = .next t → P t) {s t : State} (hs : P s)
    (h : step s = .next t) : P t := by
  cases hp : s.pending with
  | nil =>
    rw [step_of_idle hp] at h
    exact Host.Outcome.next.inj h ▸ hs
  | cons c rest =>
    rw [step_of_pending hp] at h
    exact hexec c _ t (hqueue s rest hs) h

theorem linkRateOf_eq (srate1 srate0 : Bool) :
    linkRateOf srate1 srate0 = if srate1 then (if srate0 then .r460800 else .r230400)
      else (if srate0 then .r115200 else .r57600) := by
  cases srate1 <;> cases srate0 <;> rfl

/-- Settles O3: each block is its own reset value, and the rate is the straps' choice. -/
theorem powerOnResetGivesThePowerOnValues : Obligations.powerOnResetGivesThePowerOnValues := by
  intro srate1 srate0 s
  refine ⟨powerOn srate1 srate0 s, rfl, ?_⟩
  have outputs : ∀ ix, outputAt OutputStage.reset ix =
      { state := .idle, service := none, queue := [], threshold := 2
        priority := if ix = .main then 2 else 1, expected := none, gapOwed := false
        overflows := 0, underruns := 0 } := by
    rintro (_ | _) <;> rfl
  have link : (powerOn srate1 srate0 s).link = { SetLink.reset false false s.link.srdy with
      rate := linkRateOf srate1 srate0 } := rfl
  rw [linkRateOf_eq] at link
  exact ⟨rfl, rfl, rfl, outputs, rfl, rfl, rfl, rfl, rfl, rfl, rfl, rfl, rfl, rfl, rfl, rfl, rfl, rfl,
    rfl, rfl, rfl, rfl, rfl, rfl, rfl, rfl, rfl, rfl, rfl, rfl, rfl, rfl, rfl, rfl, rfl, rfl, link, rfl⟩

/-- Settles O4: the reset values are closed, so the laws of each block evaluate. -/
theorem resetIsSound : Obligations.resetIsSound := by
  have feed : feedOk FeedTracker.reset = true := by decide
  have keys : keysOk KeyTable.reset = true := by decide
  have descrambler : descramblerOk Descrambler.reset = true := by decide
  have outputs : outputsOk OutputStage.reset = true := by decide
  have billing : billingOk State.reset = true := by decide
  have loop : loopOk LoopStation.reset = true := by decide
  have link : linkOk State.reset.link = true := by decide
  simp only [Obligations.resetIsSound, sound, Bool.and_eq_true]
  exact ⟨⟨⟨⟨⟨⟨feed, keys⟩, descrambler⟩, outputs⟩, billing⟩, loop⟩, link⟩

end Sys2Proof.Machine
end

section
/-! PROOFS. The laws of the Loop Station are not inductive: they let a packet that is still to be sent
expect the duplicate watch, and SET_STATION leaves what that packet expects as it is. -/

namespace Sys2Proof.Machine

/-- A station LISTENING at address 1 with a TOKEN on its way whose end would open a duplicate watch, and
the request SET_STATION of address 0 held at the port. -/
def watchStillToOpen : State := { State.reset with
  loop := { LoopStation.reset with
    state := .listening, address := 1, sending := [⟨.token 5, some .duplicate⟩], lde := true }
  link := { State.reset.link with assembler := .holding ⟨0x0C, 7, [0]⟩ }
  pending := [.setStation] }

/-- The station is OFF after that SET_STATION, and the TOKEN still expects its duplicate watch. -/
theorem step_watchStillToOpen : ∃ t, step watchStillToOpen = .next t ∧ t.loop.state = .off ∧
    t.loop.sending = [⟨.token 5, some .duplicate⟩] := ⟨_, rfl, rfl, rfl⟩

/-- A duplicate watch is awaited in LISTENING alone (R132). -/
theorem listening_of_duplicate_awaited {l : LoopStation} (h : loopOk l = true)
    (watch : .duplicate ∈ awaited l) : l.state = .listening := by
  have windows : windowsOk l = true := by simp_all [loopOk]
  have fits : (awaited l).all (windowFits l) = true := by simp_all [windowsOk]
  simpa [windowFits] using List.all_eq_true.mp fits _ watch

/-- Refutes O9: `watchStillToOpen` has every law of the Loop Station, and after its step a duplicate watch
is awaited in OFF. -/
theorem not_everyStepKeepsTheLoopLaws : ¬ Obligations.everyStepKeepsTheLoopLaws := by
  intro keeps
  obtain ⟨t, stepped, off, sending⟩ := step_watchStillToOpen
  have ok : loopOk t.loop = true := keeps watchStillToOpen t (by decide) stepped
  have watch : Window.duplicate ∈ awaited t.loop := by simp [awaited, sending]
  exact absurd (listening_of_duplicate_awaited ok watch) (by simp [off])

end Sys2Proof.Machine
end

section
/-! PROOFS. Every step keeps the laws of the Feed Tracker (sections 1.3 and 1.4). -/

namespace Sys2Proof.Machine

theorem satInc_le (n : Nat) : satInc n ≤ 65535 := Nat.min_le_right _ _

/-- The laws of the Feed Tracker, one by one. -/
theorem feedOk_iff (t : FeedTracker) : feedOk t = true ↔
    t.slot ≤ 47 ∧ t.frameCount ≤ 499 ∧ t.mismatchRun ≤ 2 ∧
    t.lossTimer.isSome = (t.state != .noFeed) ∧ t.cell.isSome = (t.state == .locked) ∧
    (t.cell.getD []).length ≤ 140 ∧ t.counts.headerFaults ≤ 65535 ∧ t.counts.runts ≤ 65535 ∧
    t.counts.slotMismatches ≤ 65535 ∧ t.counts.frameOverruns ≤ 65535 ∧
    t.counts.feedLosses ≤ 65535 := by
  simp [feedOk, isCount, and_assoc]

theorem acceptCell_feed (c : Cell) (s : State) : (acceptCell c s).feed = s.feed := by
  unfold acceptCell
  split_ifs <;> rfl

/-- The 140th byte is judged in LOCKED, which a third mismatch in a row loses. -/
theorem judgeComplete_keeps_feedOk (c : Cell) {s : State} (h : feedOk s.feed = true)
    (locked : s.feed.state = .locked) : feedOk (judgeComplete c s).feed = true := by
  have counted := satInc_le
  rw [feedOk_iff] at *
  unfold judgeComplete
  dsimp only
  split
  · simp_all
  split
  · split
    · simp_all [feedReport]
      rfl
    · simp_all
  · rw [acceptCell_feed]
    simp_all

theorem trackByte_keeps_feedOk (b : Byte) {s : State} (h : feedOk s.feed = true) :
    feedOk (trackByte b s).feed = true := by
  unfold trackByte
  split
  · rename_i bs locked cell
    dsimp only
    split
    · exact h
    have joined : feedOk { s.feed with cell := some (bs ++ [b]) } = true := by
      rw [feedOk_iff] at *
      simp_all
    split
    · exact judgeComplete_keeps_feedOk _ joined locked
    · exact joined
  · exact h

theorem markEndsNoFeed_keeps_feedOk {s : State} (h : feedOk s.feed = true) :
    feedOk (markEndsNoFeed s).feed = true := by
  rw [feedOk_iff] at *
  simp_all [markEndsNoFeed, feedReport]

/-- A mark adds a runt at the most. -/
theorem countsAtMark_cases (t : FeedTracker) :
    countsAtMark t = t.counts ∨
      countsAtMark t = { t.counts with runts := satInc t.counts.runts } := by
  unfold countsAtMark
  split <;> simp

/-- A mark in LOCKED opens a slot with its counts in range. -/
theorem slotOpened_keeps_feedOk {t : FeedTracker} (h : feedOk t = true) (locked : t.state = .locked)
    {slot : Nat} (hslot : slot ≤ 47) :
    feedOk { t with
      counts := countsAtMark t, slot := slot, cell := some []
      lossTimer := some feedLossMicros } = true := by
  have counted := satInc_le
  obtain e | e := countsAtMark_cases t <;> rw [e] <;> rw [feedOk_iff] at * <;> simp_all

theorem advanceFrameCount_keeps_feedOk {s : State} (h : feedOk s.feed = true) :
    feedOk (advanceFrameCount s).feed = true := by
  unfold advanceFrameCount
  rw [feedOk_iff] at *
  split
  · simp_all
  · simp_all

theorem trackFrameMark_keeps_feedOk {s : State} (h : feedOk s.feed = true) :
    feedOk (trackFrameMark s).feed = true := by
  unfold trackFrameMark
  split
  · exact markEndsNoFeed_keeps_feedOk h
  · rw [feedOk_iff] at *
    simp_all [feedReport]
  · rename_i locked
    exact advanceFrameCount_keeps_feedOk (slotOpened_keeps_feedOk h locked (by omega))

theorem trackSlotMark_keeps_feedOk {s : State} (h : feedOk s.feed = true) :
    feedOk (trackSlotMark s).feed = true := by
  unfold trackSlotMark
  dsimp only
  split
  · exact markEndsNoFeed_keeps_feedOk h
  · rw [feedOk_iff] at *
    simp_all
  · rename_i locked
    split
    · exact slotOpened_keeps_feedOk h locked (by omega)
    · have opened := slotOpened_keeps_feedOk h locked (slot := 0) (by omega)
      have counted := satInc_le
      rw [feedOk_iff] at *
      simp_all [feedReport]

theorem loseFeed_keeps_feedOk (insetFirst : Bool) {s : State} (h : feedOk s.feed = true) :
    feedOk (loseFeed insetFirst s).feed = true := by
  have counted := satInc_le
  unfold loseFeed
  split
  · exact h
  · rw [feedOk_iff] at *
    simp_all [feedReport]

theorem softResetFeed_feedOk {t : FeedTracker} (h : feedOk t = true) :
    feedOk (softResetFeed t) = true := by
  rw [feedOk_iff] at *
  simp_all [softResetFeed]

theorem exec_keeps_feedOk (c : Instr) (s t : State) (hs : feedOk s.feed = true)
    (h : exec c s = .next t) : feedOk t.feed = true := by
  have other (hc : .feed ∉ footprint c) : feedOk t.feed = true := by
    rwa [show t.feed = s.feed from exec_agree h .feed hc]
  rw [stateAfter_of_exec h]
  rw [stateAfter_of_exec h] at other
  cases c with
  | powerOnReset a b => exact (by decide : feedOk FeedTracker.reset = true)
  | feedByte b => exact trackByte_keeps_feedOk b hs
  | frameMark fslt => exact trackFrameMark_keeps_feedOk hs
  | slotMark => exact trackSlotMark_keeps_feedOk hs
  | feedLossTimerExpiry insetFirst => exact loseFeed_keeps_feedOk insetFirst hs
  | softReset =>
    exact serveRequest_induct (P := fun t => feedOk t.feed = true) 0x12 serveSoftReset s hs
      (fun _ _ _ => softResetFeed_feedOk hs) (fun _ _ => hs)
  | _ => exact other (by simp [footprint])

/-- Settles O5: only five commands and power-on touch the tracker, and each keeps its laws. -/
theorem everyStepKeepsTheFeedLaws : Obligations.everyStepKeepsTheFeedLaws := fun _ _ =>
  step_keeps (P := fun s => feedOk s.feed = true) (fun _ _ h => h) exec_keeps_feedOk

end Sys2Proof.Machine
end

section
/-! PROOFS. The Key Table: its laws, the active key that no message changes (R19), the keys and tariffs
that belong to the television (R16, R90), and KEY_DELIVERY and KEY_WITHDRAWAL case by case. -/

namespace Sys2Proof.Machine

/-! ### Slots and groups -/

theorem keySlot_setKeySlot_self (g : KeyGroup) (p : Parity) (k : Option LoadedKey) :
    keySlot (setKeySlot g p k) p = k := by cases p <;> rfl

theorem keySlot_setKeySlot_of_ne (g : KeyGroup) {p q : Parity} (k : Option LoadedKey) (h : q ≠ p) :
    keySlot (setKeySlot g p k) q = keySlot g q := by cases p <;> cases q <;> simp_all <;> rfl

@[simp] theorem setKeySlot_active (g : KeyGroup) (p : Parity) (k : Option LoadedKey) :
    (setKeySlot g p k).active = g.active := by cases p <;> rfl

/-- Reading a group of a table after one has been replaced. -/
theorem keyGroup_set (t : KeyTable) (i j : Nat) (g : KeyGroup) :
    keyGroup { t with groups := t.groups.set i g } j = g ∨
      keyGroup { t with groups := t.groups.set i g } j = keyGroup t j := by
  simp only [keyGroup, List.getD_eq_getElem?_getD, List.getElem?_set]
  split_ifs <;> simp_all

theorem keyGroup_set_of_ne (t : KeyTable) {i j : Nat} (g : KeyGroup) (h : i ≠ j) :
    keyGroup { t with groups := t.groups.set i g } j = keyGroup t j := by
  simp [keyGroup, h]

/-! ### The laws of the table -/

theorem groupOk_iff (g : KeyGroup) :
    groupOk g = true ↔ ∀ p, g.active = some p → (keySlot g p).isSome = true := by
  unfold groupOk
  cases g.active <;> simp

theorem keysOk_iff (t : KeyTable) : keysOk t = true ↔
    t.groups.length = 16 ∧ (∀ g, g ∈ t.groups → groupOk g = true) ∧ t.counts.loads ≤ 65535 ∧
    t.counts.withdrawals ≤ 65535 ∧ t.counts.refusals ≤ 65535 ∧ t.counts.repeats ≤ 65535 := by
  simp [keysOk, isCount, and_assoc]

theorem groupOk_keyGroup {t : KeyTable} (h : keysOk t = true) (i : Nat) :
    groupOk (keyGroup t i) = true := by
  obtain ⟨_, groups, _⟩ := (keysOk_iff t).mp h
  simp only [keyGroup, List.getD_eq_getElem?_getD]
  cases e : t.groups[i]? with
  | none => rfl
  | some g => exact groups g (List.mem_of_getElem? e)

theorem keysOk_set {t : KeyTable} (h : keysOk t = true) (i : Nat) {g : KeyGroup}
    (hg : groupOk g = true) : keysOk { t with groups := t.groups.set i g } = true := by
  rw [keysOk_iff] at *
  obtain ⟨length, groups, counts⟩ := h
  refine ⟨by simpa using length, fun g' hg' => ?_, counts⟩
  rcases List.mem_or_eq_of_mem_set hg' with old | rfl
  · exact groups g' old
  · exact hg

/-- A slot other than the active one may take any value (R19). -/
theorem groupOk_setKeySlot {g : KeyGroup} (h : groupOk g = true) {p : Parity} (k : Option LoadedKey)
    (inactive : g.active ≠ some p) : groupOk (setKeySlot g p k) = true := by
  rw [groupOk_iff] at *
  intro q hq
  rw [setKeySlot_active] at hq
  have other : q ≠ p := by
    rintro rfl
    exact inactive hq
  rw [keySlot_setKeySlot_of_ne g k other]
  exact h q hq

/-! ### What a message does to the table -/

/-- What a delivery or a withdrawal may do: count, and write one slot that is not active. -/
def writesInactive (t t' : KeyTable) : Prop :=
  (t'.counts.loads = t.counts.loads ∨ t'.counts.loads = satInc t.counts.loads) ∧
  (t'.counts.withdrawals = t.counts.withdrawals ∨
    t'.counts.withdrawals = satInc t.counts.withdrawals) ∧
  (t'.counts.refusals = t.counts.refusals ∨ t'.counts.refusals = satInc t.counts.refusals) ∧
  (t'.counts.repeats = t.counts.repeats ∨ t'.counts.repeats = satInc t.counts.repeats) ∧
  (t'.groups = t.groups ∨ ∃ i p k, (keyGroup t i).active ≠ some p ∧
    t'.groups = t.groups.set i (setKeySlot (keyGroup t i) p k))

theorem takeDelivery_writesInactive (group parity epoch upper lower : Nat) (s : State) :
    writesInactive s.keys (takeDelivery group parity epoch upper lower s).keys := by
  unfold takeDelivery
  dsimp only
  split
  · simp [writesInactive, refuseInvalid, keyReport, countRefusal]
  split
  · simp [writesInactive, refuseInvalid, keyReport, countRefusal]
  split
  · simp [writesInactive, countRepeat]
  split
  · simp [writesInactive, refuseActive, keyReport, countRefusal]
  · rename_i p _ _ _ inactive
    exact ⟨.inr rfl, .inl rfl, .inl rfl, .inl rfl, .inr ⟨group, p, _, inactive, rfl⟩⟩

theorem takeWithdrawal_writesInactive (group parity epoch : Nat) (s : State) :
    writesInactive s.keys (takeWithdrawal group parity epoch s).keys := by
  unfold takeWithdrawal
  dsimp only
  split
  · simp [writesInactive, refuseInvalid, keyReport, countRefusal]
  split
  · simp [writesInactive, refuseInvalid, keyReport, countRefusal]
  split
  · simp [writesInactive, refuseActive, keyReport, countRefusal]
  split
  · rename_i p _ _ inactive _
    exact ⟨.inl rfl, .inr rfl, .inl rfl, .inl rfl, .inr ⟨group, p, _, inactive, rfl⟩⟩
  · simp [writesInactive, countRepeat]

theorem writesInactive_refl (t : KeyTable) : writesInactive t t :=
  ⟨.inl rfl, .inl rfl, .inl rfl, .inl rfl, .inl rfl⟩

/-- The two messages, served or not. -/
theorem keyMessage_writesInactive {c : Instr} (hc : c = .keyDelivery ∨ c = .keyWithdrawal)
    {s t : State} (h : exec c s = .next t) : writesInactive s.keys t.keys := by
  rw [stateAfter_of_exec h]
  rcases hc with rfl | rfl
  · exact serveMessage_induct (P := fun t => writesInactive s.keys t.keys) _ s
      (writesInactive_refl _) fun ix m d act _ ha => match d, act, ha with
        | .keyDelivery .., _, rfl => takeDelivery_writesInactive _ _ _ _ _ s
  · exact serveMessage_induct (P := fun t => writesInactive s.keys t.keys) _ s
      (writesInactive_refl _) fun ix m d act _ ha => match d, act, ha with
        | .keyWithdrawal .., _, rfl => takeWithdrawal_writesInactive _ _ _ s

theorem keysOk_of_writesInactive {t t' : KeyTable} (h : keysOk t = true)
    (writes : writesInactive t t') : keysOk t' = true := by
  obtain ⟨loads, withdrawals, refusals, repeats, groups⟩ := writes
  have counted := satInc_le
  have groups' : t'.groups.length = 16 ∧ ∀ g, g ∈ t'.groups → groupOk g = true := by
    rcases groups with e | ⟨i, p, k, inactive, e⟩
    · rw [e]
      exact ⟨((keysOk_iff t).mp h).1, ((keysOk_iff t).mp h).2.1⟩
    · have written := keysOk_set h i (groupOk_setKeySlot (groupOk_keyGroup h i) k inactive)
      rw [e]
      exact ⟨((keysOk_iff _).mp written).1, ((keysOk_iff _).mp written).2.1⟩
  rw [keysOk_iff] at *
  grind

/-! ### The active-parity check (R20) -/

/-- The check at a cell's arrival leaves the table, or makes the parity of a LOADED slot active. -/
theorem checkActiveParity_keys (c : Cell) (s : State) :
    (checkActiveParity c s).keys = s.keys ∨
    ∃ p k, keySlot (keyGroup s.keys c.group) p = some k ∧ (checkActiveParity c s).keys =
      { s.keys with
        groups := s.keys.groups.set c.group ({ keyGroup s.keys c.group with active := some p }) } := by
  unfold checkActiveParity
  dsimp only
  split
  · rename_i p k mode slot
    split
    · exact .inl rfl
    · exact .inr ⟨p, k, by simpa [namedSlot, mode] using slot, rfl⟩
  · exact .inl rfl

theorem arrive_keys (c : Cell) (closesAhead : Nat) (s : State) :
    (arrive c closesAhead s).keys = (checkActiveParity c s).keys := by
  unfold arrive
  dsimp only
  split <;> rfl

/-- CELL_ARRIVAL leaves the table or checks the active parity. -/
theorem cellArrival_keys {s t : State} (h : exec .cellArrival s = .next t) :
    t.keys = s.keys ∨ ∃ c u, u.keys = s.keys ∧ t.keys = (checkActiveParity c u).keys := by
  obtain e | ⟨h', rest, _, _, _, _, e⟩ := execCellArrival_cases s
  · exact .inl (congrArg State.keys (Host.Outcome.next.inj (h.symm.trans e)))
  · refine .inr ⟨h'.cell, s.setDescrambler { handedOn := rest, judging := none }, rfl, ?_⟩
    rw [Host.Outcome.next.inj (h.symm.trans e), arrive_keys]

theorem keysOk_checkActiveParity (c : Cell) {s : State} (h : keysOk s.keys = true) :
    keysOk (checkActiveParity c s).keys = true := by
  obtain e | ⟨p, k, slot, e⟩ := checkActiveParity_keys c s <;> rw [e]
  · exact h
  · refine keysOk_set h _ ?_
    rw [groupOk_iff]
    rintro q ⟨⟩
    have : keySlot { keyGroup s.keys c.group with active := some p } p = some k := by
      cases p <;> exact slot
    simp [this]

theorem exec_keeps_keysOk (c : Instr) (s t : State) (hs : keysOk s.keys = true)
    (h : exec c s = .next t) : keysOk t.keys = true := by
  have other (hc : .keys ∉ footprint c) : keysOk t.keys = true := by
    rwa [show t.keys = s.keys from exec_agree h .keys hc]
  cases c with
  | powerOnReset a b =>
    rw [stateAfter_of_exec h]
    exact (by decide : keysOk KeyTable.reset = true)
  | keyDelivery => exact keysOk_of_writesInactive hs (keyMessage_writesInactive (.inl rfl) h)
  | keyWithdrawal => exact keysOk_of_writesInactive hs (keyMessage_writesInactive (.inr rfl) h)
  | cellArrival =>
    obtain e | ⟨cell, u, hu, e⟩ := cellArrival_keys h <;> rw [e]
    · exact hs
    · exact keysOk_checkActiveParity cell (by rwa [hu])
  | _ => exact other (by simp [footprint])

/-- Settles O6: messages write inactive slots alone, and a cell makes a LOADED slot active. -/
theorem everyStepKeepsTheKeyLaws : Obligations.everyStepKeepsTheKeyLaws := fun _ _ =>
  step_keeps (P := fun s => keysOk s.keys = true) (fun _ _ h => h) exec_keeps_keysOk

/-! ### The active key -/

theorem keyGroup_congr {t t' : KeyTable} (h : t'.groups = t.groups) (i : Nat) :
    keyGroup t' i = keyGroup t i := by
  simp only [keyGroup, h]

/-- Settles O16: the one slot a message writes is not that of its group's active parity. -/
theorem theActiveKeyNeverChanges : Obligations.theActiveKeyNeverChanges := by
  intro c s t hc h i p active
  obtain ⟨_, _, _, _, groups⟩ := keyMessage_writesInactive hc h
  rcases groups with e | ⟨j, q, k, inactive, e⟩
  · rw [keyGroup_congr e]
    exact ⟨rfl, active⟩
  · have group : keyGroup t.keys i = keyGroup s.keys i ∨
        (j = i ∧ keyGroup t.keys i = setKeySlot (keyGroup s.keys j) q k) := by
      have read := keyGroup_congr (t := { s.keys with
        groups := s.keys.groups.set j (setKeySlot (keyGroup s.keys j) q k) }) (t' := t.keys) e i
      rw [read]
      by_cases hj : j = i
      · exact (keyGroup_set ..).symm.imp id fun e => ⟨hj, e⟩
      · exact .inl (keyGroup_set_of_ne _ _ hj)
    rcases group with e | ⟨rfl, e⟩ <;> rw [e]
    · exact ⟨rfl, active⟩
    · have other : p ≠ q := by
        rintro rfl
        exact inactive active
      exact ⟨keySlot_setKeySlot_of_ne _ _ other, by rwa [setKeySlot_active]⟩

/-! ### What belongs to the television -/

theorem checkActiveParity_keySlot (c : Cell) (s : State) (i : Nat) (p : Parity) :
    keySlot (keyGroup (checkActiveParity c s).keys i) p = keySlot (keyGroup s.keys i) p := by
  obtain e | ⟨q, k, _, e⟩ := checkActiveParity_keys c s <;> rw [e]
  by_cases hi : c.group = i
  · subst hi
    obtain e | e := keyGroup_set s.keys c.group c.group
      { keyGroup s.keys c.group with active := some q } <;> rw [e]
    cases p <;> rfl
  · rw [keyGroup_set_of_ne _ _ hi]

/-- Settles O17: of the other commands CELL_ARRIVAL alone writes the Key Table, and no slot; the tariffs
are outside the footprint of all but three. -/
theorem keysAndTariffsBelongToTheTelevision : Obligations.keysAndTariffsBelongToTheTelevision := by
  intro c s t h notReset
  refine ⟨fun notDelivery notWithdrawal i p => ?_, fun notSet notRemove => ?_⟩
  · have other (hc : .keys ∉ footprint c) :
        keySlot (keyGroup t.keys i) p = keySlot (keyGroup s.keys i) p := by
      rw [show t.keys = s.keys from exec_agree h .keys hc]
    cases c with
    | powerOnReset a b => exact absurd rfl (notReset a b)
    | keyDelivery => exact absurd rfl notDelivery
    | keyWithdrawal => exact absurd rfl notWithdrawal
    | cellArrival =>
      obtain e | ⟨cell, u, hu, e⟩ := cellArrival_keys h <;> rw [e]
      rw [checkActiveParity_keySlot, hu]
    | _ => exact other (by simp [footprint])
  · have kept (hc : .tariffs ∉ footprint c) := exec_agree h .tariffs hc
    cases c with
    | powerOnReset a b => exact absurd rfl (notReset a b)
    | tariffSet => exact absurd rfl notSet
    | tariffRemove => exact absurd rfl notRemove
    | _ => exact kept (by simp [footprint])

/-! ### Records leave only on acknowledgement (R105) -/

/-- A room that is STARTING holds no records. -/
theorem queue_of_starting {s : State} (ok : billingOk s = true) (starting : s.stay.room = .starting) :
    s.folio.queue = [] := by
  have room : roomOk s = true := by simp_all [billingOk]
  simp_all [roomOk, folioEmpty]

theorem restoreCause_of_not_starting {room : RoomState} (h : room ≠ .starting) (body : List Byte) :
    restoreCause room body = some .notStarting := by
  simp [restoreCause, h]

/-- RESTORE takes a snapshot's records in STARTING alone. -/
theorem serveRestore_keeps_records {s : State} (ok : billingOk s = true) (f : Frame) :
    s.folio.queue <+: (serveRestore f (takeFrame f s)).folio.queue := by
  by_cases starting : s.stay.room = .starting
  · simp [queue_of_starting ok starting]
  · have refused : restoreCause (takeFrame f s).stay.room f.body = some .notStarting :=
      restoreCause_of_not_starting starting f.body
    simp only [serveRestore, refused, answer_folio, takeFrame_folio]
    exact List.prefix_refl _

/-- Settles O18: RESTORE finds the queue empty, and every other command has the records outside its
footprint. -/
theorem recordsLeaveOnlyOnAcknowledgement : Obligations.recordsLeaveOnlyOnAcknowledgement := by
  intro c s t ok h notAck notVacate notReset
  have kept (hc : .records ∉ footprint c) : s.folio.queue <+: t.folio.queue :=
    exec_agree h .records hc
  cases c with
  | powerOnReset a b => exact absurd rfl (notReset a b)
  | dataAckReceived => exact absurd rfl notAck
  | vacateNow => exact absurd rfl notVacate
  | restore =>
    rw [stateAfter_of_exec h]
    exact serveRequest_induct (P := fun t => s.folio.queue <+: t.folio.queue) 0x11 serveRestore s
      (List.prefix_refl _) (fun f _ _ => serveRestore_keeps_records ok f)
      (fun _ _ => List.prefix_refl _)
  | _ => exact kept (by simp [footprint])

end Sys2Proof.Machine
end

section
/-! PROOFS. The Rating Gate: what begins an unlock (R58), the wrong PINs (R59), and UNLOCK, SET_PIN and
SET_CEILING check by check (R57, R58, R61, R62). -/

namespace Sys2Proof.Machine

/-! ### What the other blocks leave of the gate -/

@[simp] theorem folioMinute_gate (minute : Nat) (s : State) : (folioMinute minute s).gate = s.gate :=
  folioMinute_changes minute s .gate (by simp)

@[simp] theorem closureTest_gate (s : State) : (closureTest s).gate = s.gate :=
  closureTest_changes s .gate (by simp)

@[simp] theorem leaveTable_gate (s : State) : (leaveTable s).gate = s.gate :=
  leaveTable_changes s .gate (by simp)

/-- A stay that closes leaves the vacant values (R56, R112). -/
@[simp] theorem closeStay_gate (s : State) : (closeStay s).gate = gateVacated s.gate := by
  unfold closeStay
  rw [closureTest_gate, leaveTable_gate]
  rfl

@[simp] theorem checkOutOccupied_gate (s : State) : (checkOutOccupied s).gate = gateVacated s.gate := by
  unfold checkOutOccupied
  rw [emitSnapshot_gate, stayReport, report_gate, closeStay_gate]

@[simp] theorem changeOver_gate (p : StayParams) (s : State) :
    (changeOver p s).gate = gateVacated s.gate := by
  simp only [changeOver]
  rw [emitSnapshot_gate, stayReport, report_gate, State.setStay_gate, closeStay_gate]

@[simp] theorem folioUpdate_gate (p : StayParams) (s : State) : (folioUpdate p s).gate = s.gate := by
  unfold folioUpdate
  dsimp only
  split <;> rfl

/-- A RESTORE brings the gate's values from the snapshot (R54, R176). -/
@[simp] theorem restoreBlocks_gate (x : Snapshot) (s : State) :
    (restoreBlocks x s).gate = gateOfStay (restoreParams x) := by
  have settled (f : Folio) : (settleWaiting ((gateBegin (restoreParams x)
      (openStay (restoreParams x) s)).setFolio f)).gate = gateOfStay (restoreParams x) :=
    settleWaiting_gate _
  simp only [restoreBlocks]
  split
  · rw [State.setStay_gate, settled]
  · rw [settled]

theorem acceptRestore_unlockExpiry (x : Snapshot) (s : State) :
    (acceptRestore x s).gate.unlockExpiry = none := by
  unfold acceptRestore
  rw [emitSnapshot_gate, stayReport, report_gate]
  split
  · rw [closeStay_gate]
    rfl
  · rw [restoreBlocks_gate]
    rfl

/-! ### What begins an unlock (R58) -/

theorem wrongEntry_unlockExpiry (s : State) :
    (wrongEntry s).gate.unlockExpiry = s.gate.unlockExpiry := by
  unfold wrongEntry
  split <;> rfl

/-- UNLOCK leaves the unlock as it stands, or has passed its six checks. -/
theorem serveUnlock_unlockExpiry (f : Frame) (s : State) :
    (serveUnlock f s).gate.unlockExpiry = s.gate.unlockExpiry ∨
    (s.stay.room = .occupied ∧ s.clock.set = true ∧ s.gate.lockoutExpiry = none ∧
      s.gate.pin = some (bodyPin f.body 1)) := by
  unfold serveUnlock
  dsimp only
  split_ifs with form room clock noPin lockout wrong
  · exact .inl rfl
  · exact .inl rfl
  · exact .inl rfl
  · exact .inl rfl
  · exact .inl rfl
  · exact .inl (wrongEntry_unlockExpiry s)
  · exact .inr ⟨by simpa using room, by simpa using clock, by simpa using lockout, by simpa using wrong⟩

section
variable {s : State} (locked : s.gate.unlockExpiry = none)
include locked

theorem serveRelock_locked (f : Frame) : (serveRelock f s).gate.unlockExpiry = none := by
  unfold serveRelock
  split
  · rfl
  · exact locked

theorem serveSetPin_locked (f : Frame) : (serveSetPin f s).gate.unlockExpiry = none := by
  have wrong := (wrongEntry_unlockExpiry s).trans locked
  unfold serveSetPin
  dsimp only
  split_ifs
  all_goals simpa [answerLock]

theorem serveSetCeiling_locked (f : Frame) : (serveSetCeiling f s).gate.unlockExpiry = none := by
  have wrong := (wrongEntry_unlockExpiry s).trans locked
  unfold serveSetCeiling
  dsimp only
  split_ifs
  all_goals simpa [answerLock]

theorem serveRestore_locked (f : Frame) : (serveRestore f s).gate.unlockExpiry = none := by
  unfold serveRestore
  split
  · exact locked
  · exact acceptRestore_unlockExpiry _ s

theorem gateMinute_locked (minute : Nat) : (gateMinute minute s).gate.unlockExpiry = none := by
  have not_due : reached s.gate.unlockExpiry minute = false := by simp [locked, reached]
  unfold gateMinute
  simp only [not_due, Bool.false_eq_true, if_false]
  split
  · exact locked
  · exact locked

theorem signalMinute_locked (folioFirst : Bool) :
    (signalMinute folioFirst s).gate.unlockExpiry = none := by
  unfold signalMinute
  split
  · refine gateMinute_locked ?_ _
    rwa [folioMinute_gate]
  · rw [folioMinute_gate]
    exact gateMinute_locked locked _

theorem advanceMinute_locked (folioFirst : Bool) :
    (advanceMinute folioFirst s).gate.unlockExpiry = none := by
  unfold advanceMinute
  split_ifs
  · refine signalMinute_locked ?_ folioFirst
    exact locked
  · exact locked
  · exact locked

theorem takeTime_locked (folioFirst : Bool) (minute : Nat) :
    (takeTime folioFirst minute s).gate.unlockExpiry = none := by
  refine signalMinute_locked ?_ folioFirst
  exact locked

theorem endClosing_locked : (endClosing s).gate.unlockExpiry = none := by
  unfold endClosing
  dsimp only
  split
  · rfl
  · exact locked

theorem acknowledgeRecord_locked (serial stay : Nat) :
    (acknowledgeRecord serial stay s).gate.unlockExpiry = none := by
  unfold acknowledgeRecord
  split
  · have settled (f : Folio) :
        (settleWaiting (emitSnapshot (s.setFolio f))).gate.unlockExpiry = none := by
      rw [settleWaiting_gate]
      exact locked
    dsimp only
    split_ifs
    · exact endClosing_locked (settled _)
    · rw [closureTest_gate]
      exact settled _
    · exact locked
  · exact locked

theorem updateStay_locked (p : StayParams) : (updateStay p s).gate.unlockExpiry = none := by
  unfold updateStay
  rw [emitSnapshot_gate, stayReport, report_gate, folioUpdate_gate]
  exact locked

theorem takeCheckIn_locked (p : StayParams) : (takeCheckIn p s).gate.unlockExpiry = none := by
  unfold takeCheckIn
  split
  · exact locked
  split
  · rfl
  · rfl
  · split
    · exact updateStay_locked locked p
    · rw [changeOver_gate]
      rfl
  · split
    · exact locked
    · exact locked

theorem takeCheckOut_locked : (takeCheckOut s).gate.unlockExpiry = none := by
  unfold takeCheckOut
  split
  · rfl
  · exact locked
  · rw [checkOutOccupied_gate]
    rfl
  · exact locked

end

/-- DATA_ACK_RECEIVED is an acknowledgement of a record, or none, between steps of the loop. -/
theorem dataAckReceived_acts {s t : State} (h : exec .dataAckReceived s = .next t) :
    ∃ u v, changesOnly [.loop, .link] s u ∧ (v = u ∨ ∃ serial stay, v = acknowledgeRecord serial stay u) ∧
      changesOnly [.loop, .link] v t := by
  rw [stateAfter_of_exec h]
  obtain e | ⟨heard, act, _, ha, e⟩ := hearEnd_cases (fun
    | some (.dataAck _) => some endDataAck
    | _ => none) s
  · exact ⟨s, s, changesOnly_refl _ s, .inl rfl, by rw [show stateAfter .dataAckReceived s = s from e]⟩
  · match heard.packet, ha with
    | some (.dataAck _), rfl => ?_
    rw [show stateAfter .dataAckReceived s = _ from e]
    have begun := setLoop_changes { s.loop with heard := none } s
    have resumed (v : State) : changesOnly [.loop, .link] v (resumePass v) := resumePass_changes v
    unfold endDataAck
    split
    · dsimp only
      split
      · exact ⟨_, _, begun.trans ((setLoop_changes _ _).trans (setLoop_changes _ _)), .inl rfl,
          resumed _⟩
      · exact ⟨_, _, begun.trans (setLoop_changes _ _), .inr ⟨_, _, rfl⟩, resumed _⟩
    · exact ⟨_, _, begun.trans (failIfAnswering_changes _ _), .inl rfl, resumed _⟩

/-- No command but UNLOCK begins an unlock. -/
theorem exec_locked {c : Instr} {s t : State} (h : exec c s = .next t) (hc : c ≠ .unlock)
    (locked : s.gate.unlockExpiry = none) : t.gate.unlockExpiry = none := by
  have other (outside : .gate ∉ footprint c) : t.gate.unlockExpiry = none := by
    rwa [show t.gate = s.gate from exec_agree h .gate outside]
  have request {kind : Nat} {owner : Frame → State → State}
      (e : stateAfter c s = serveRequest kind owner s)
      (ho : ∀ f, (owner f (takeFrame f s)).gate.unlockExpiry = none) :
      t.gate.unlockExpiry = none := by
    rw [stateAfter_of_exec h, e]
    exact serveRequest_induct (P := fun t => t.gate.unlockExpiry = none) kind owner s locked
      (fun f _ _ => ho f) (fun _ _ => locked)
  have message {select : DeskMessage → Option (State → State)}
      (e : stateAfter c s = serveMessage select s)
      (ho : ∀ d act, select d = some act → (act s).gate.unlockExpiry = none) :
      t.gate.unlockExpiry = none := by
    rw [stateAfter_of_exec h, e]
    exact serveMessage_induct (P := fun t => t.gate.unlockExpiry = none) select s locked
      fun _ _ d act _ ha => ho d act ha
  cases c with
  | unlock => exact absurd rfl hc
  | powerOnReset a b => rw [stateAfter_of_exec h]; rfl
  | relock => exact request rfl fun f => serveRelock_locked (s := takeFrame f s) locked f
  | setPin => exact request rfl fun f => serveSetPin_locked (s := takeFrame f s) locked f
  | setCeiling => exact request rfl fun f => serveSetCeiling_locked (s := takeFrame f s) locked f
  | restore => exact request rfl fun f => serveRestore_locked (s := takeFrame f s) locked f
  | dataAckReceived =>
    obtain ⟨u, v, before, act, after⟩ := dataAckReceived_acts h
    have locked' : u.gate.unlockExpiry = none := by
      rwa [show u.gate = s.gate from before .gate (by simp)]
    rw [show t.gate = v.gate from after .gate (by simp)]
    obtain rfl | ⟨serial, stay, rfl⟩ := act
    · exact locked'
    · exact acknowledgeRecord_locked locked' serial stay
  | vacateNow => exact message rfl fun | .guestStatus _ true _, _, rfl => rfl
  | checkIn =>
    exact message rfl fun | .guestStatus true false p, _, rfl => takeCheckIn_locked locked p
  | checkOut =>
    exact message rfl fun | .guestStatus false false _, _, rfl => takeCheckOut_locked locked
  | time folioFirst =>
    exact message rfl fun | .time minute, _, rfl => takeTime_locked locked folioFirst minute
  | minuteAdvance folioFirst =>
    rw [stateAfter_of_exec h]
    exact advanceMinute_locked locked folioFirst
  | _ => exact other (by simp [footprint])

/-- Settles O19: of the commands with the gate in their footprint only UNLOCK begins an unlock, and it
passes its six checks first. -/
theorem onlyTheRoomsPinUnlocks : Obligations.onlyTheRoomsPinUnlocks := by
  intro c s t h locked unlocked
  by_cases hc : c = .unlock
  · subst hc
    rw [stateAfter_of_exec h] at unlocked
    obtain ⟨_, e⟩ | ⟨f, held, _, e⟩ | ⟨_, _, _, e⟩ := serveRequest_cases 0x08 serveUnlock s
    · rw [show stateAfter .unlock s = _ from e, locked] at unlocked
      simp at unlocked
    · rw [show stateAfter .unlock s = _ from e] at unlocked
      obtain kept | ⟨room, clock, lockout, pin⟩ := serveUnlock_unlockExpiry f (takeFrame f s)
      · rw [kept, takeFrame_gate, locked] at unlocked
        simp at unlocked
      · exact ⟨rfl, room, clock, lockout, f, held, pin⟩
    · rw [show stateAfter .unlock s = _ from e, answer_gate, takeFrame_gate, locked] at unlocked
      simp at unlocked
  · rw [exec_locked h hc locked] at unlocked
    simp at unlocked

/-! ### A wrong PIN (R59) -/

theorem answerLock_setGate_takeFrame (f : Frame) (code : ResultCode) (g : RatingGate) (s : State) :
    answerLock f code ((takeFrame f s).setGate g) =
      { s with gate := g, link := replied f code (.lock (lockSummary g)) s.link } := rfl

theorem expiryAfter_of_set {s : State} (set : s.clock.set = true) (length : Nat) :
    expiryAfter length s = min (s.clock.minute + length) 16777215 := by
  simp [expiryAfter, minuteAfter, houseMinute, set, lastMinute]

theorem answerLock_wrongEntry_of_few {s : State} (f : Frame) (code : ResultCode)
    (few : s.gate.failures < 2) :
    let counted := { s.gate with failures := s.gate.failures + 1 }
    answerLock f code (wrongEntry (takeFrame f s)) =
      { s with gate := counted, link := replied f code (.lock (lockSummary counted)) s.link } := by
  have notThird : ¬ s.gate.failures + 1 ≥ 3 := by omega
  simp only [wrongEntry, takeFrame_gate, notThird, if_false, answerLock_setGate_takeFrame]

theorem answerLock_wrongEntry_of_third {s : State} (f : Frame) (code : ResultCode)
    (set : s.clock.set = true) (third : 2 ≤ s.gate.failures) :
    let locked := { s.gate with
      failures := 0
      lockoutExpiry := some (min (s.clock.minute + s.gate.lockoutLength) 16777215) }
    answerLock f code (wrongEntry (takeFrame f s)) = { s with
      gate := locked
      link := replied f code (.lock (lockSummary locked))
        (queueReport (.lockState .lockoutBegun none (lockSummary locked)) s.link) } := by
  have isThird : s.gate.failures + 1 ≥ 3 := by omega
  have expiry := expiryAfter_of_set (s := takeFrame f s) set s.gate.lockoutLength
  simp only [wrongEntry, takeFrame_gate, isThird, if_true, expiry, answerLock_lockReport_takeFrame,
    takeFrame_clock]

theorem pinWellFormed_iff (zero : Bool) (digits : List Nat) : pinWellFormed zero digits = true ↔
    ((zero = true ∧ digits = []) ∨ (4 ≤ digits.length ∧ digits.length ≤ 8)) ∧
      ∀ d, d ∈ digits → d ≤ 9 := by
  simp [pinWellFormed]

/-- A PIN of 4 to 8 digits has the form of every field that takes one, and is not absent. -/
theorem pinWellFormed_of_required {digits : List Nat} (h : pinWellFormed false digits = true) :
    pinWellFormed true digits = true ∧ digits ≠ [] := by
  rw [pinWellFormed_iff] at *
  obtain ⟨⟨⟨⟩, _⟩ | length, small⟩ := h
  refine ⟨⟨.inr length, small⟩, ?_⟩
  rintro rfl
  simp at length

/-- Settles O42: in each of the three requests the wrong PIN passes the checks before it. -/
theorem threeWrongPinsLockOut : Obligations.threeWrongPinsLockOut := by
  intro s f c digits request formed room set lockout known wrong counted locked
  have served : exec c s = .next (answerLock f .wrongPin (wrongEntry (takeFrame f s))) := by
    obtain ⟨formed', given⟩ := pinWellFormed_of_required formed
    rcases request with ⟨rfl, h, rfl⟩ | ⟨rfl, h, rfl, new⟩ | ⟨rfl, h, rfl, low, raise⟩
    · have : serveUnlock f (takeFrame f s) = answerLock f .wrongPin (wrongEntry (takeFrame f s)) := by
        simp [serveUnlock, formed, room, set, lockout, known, wrong]
      rw [← this]
      exact congrArg _ (serveRequest_of_requested _ h)
    · have : serveSetPin f (takeFrame f s) = answerLock f .wrongPin (wrongEntry (takeFrame f s)) := by
        simp [serveSetPin, formed', new, room, set, lockout, known, wrong, given,
          Option.isSome_iff_ne_none]
      rw [← this]
      exact congrArg _ (serveRequest_of_requested _ h)
    · have : serveSetCeiling f (takeFrame f s) =
          answerLock f .wrongPin (wrongEntry (takeFrame f s)) := by
        simp [serveSetCeiling, formed', room, set, lockout, known, wrong, given, low.not_gt, raise.not_ge]
      rw [← this]
      exact congrArg _ (serveRequest_of_requested _ h)
  rw [served]
  exact ⟨fun few => by rw [answerLock_wrongEntry_of_few f .wrongPin few],
    fun third => by rw [answerLock_wrongEntry_of_third f .wrongPin set third]⟩

/-! ### UNLOCK, SET_PIN and SET_CEILING check by check (R58, R61, R62) -/

theorem effectiveCeiling_of_unlock {g : RatingGate} {e : Nat} (h : g.unlockExpiry = some e) :
    effectiveCeiling g = g.hardCeiling := by
  simp [effectiveCeiling, h]

theorem answerLock_grantUnlock {s : State} (f : Frame) (set : s.clock.set = true) :
    let gate := { s.gate with
      failures := 0, unlockExpiry := some (min (s.clock.minute + s.gate.unlockDuration) 16777215) }
    let cause := if s.gate.unlockExpiry = none then LockCause.unlockBegun else .unlockExtended
    answerLock f .ok (grantUnlock (takeFrame f s)) = { s with
      gate := gate
      link := replied f .ok (.lock (lockSummary gate))
        (queueReport (.lockState cause none (lockSummary gate)) s.link) } := by
  have expiry := expiryAfter_of_set (s := takeFrame f s) set s.gate.unlockDuration
  simp only [grantUnlock, takeFrame_gate, expiry, answerLock_lockReport_takeFrame, takeFrame_clock]
  by_cases locked : s.gate.unlockExpiry = none <;> simp [locked, Option.isSome_iff_ne_none]

section
variable {s : State} {f : Frame} {c : Instr} {kind : Nat} {owner : Frame → State → State}
  (request : exec c s = .next (serveRequest kind owner s)) (h : requested kind f s)
include request h

theorem exec_of_requested {t : State} (e : owner f (takeFrame f s) = t) : exec c s = .next t := by
  rw [request, serveRequest_of_requested owner h, e]

/-- A check that fails: the owner answers, and nothing else changes. -/
theorem exec_refused {code : ResultCode}
    (e : owner f (takeFrame f s) = answerLock f code (takeFrame f s)) :
    exec c s = .next { s with link := replied f code (.lock (lockSummary s.gate)) s.link } :=
  exec_of_requested request h (e.trans (answerLock_takeFrame ..))

end

/-- Settles O44: a chain of refusals for each request, each under the checks passed before it, and at its
end the effect with the room's PIN. -/
theorem thePinUnlocksAndSets : Obligations.thePinUnlocksAndSets := by
  intro s f
  dsimp only
  refine ⟨pinWellFormed_iff, fun h => ?_, fun h => ?_, fun h => ?_⟩
  · have refused {code : ResultCode} := exec_refused (c := .unlock) (code := code) rfl h
    refine ⟨fun unformed => refused (by simp [serveUnlock, unformed]), fun formed =>
      ⟨fun elsewhere => refused (by simp [serveUnlock, formed, elsewhere]), fun here =>
      ⟨fun unset => refused (by simp [serveUnlock, formed, here, unset]), fun set =>
      ⟨fun noPin => refused (by simp [serveUnlock, formed, here, set, noPin]), fun known =>
      ⟨fun lockout => refused (by
        simp [serveUnlock, formed, here, set, known, Option.isSome_iff_ne_none, lockout]),
      fun free right => ⟨effectiveCeiling_of_unlock rfl, ?_⟩⟩⟩⟩⟩⟩
    rw [← answerLock_grantUnlock f set]
    exact exec_of_requested (c := .unlock) rfl h (by simp [serveUnlock, formed, here, set, free, right])
  · have refused {code : ResultCode} := exec_refused (c := .setPin) (code := code) rfl h
    refine ⟨fun unformed => refused ?_, fun ⟨formed, formed'⟩ =>
      ⟨fun elsewhere => refused (by simp [serveSetPin, formed, formed', elsewhere]), fun here =>
      ⟨fun unset => refused (by simp [serveSetPin, formed, formed', here, unset]), fun set =>
      ⟨fun lockout => refused (by
        simp [serveSetPin, formed, formed', here, set, Option.isSome_iff_ne_none, lockout]), fun free =>
      ⟨fun ⟨known, noOld⟩ => refused (by
        simp [serveSetPin, here, set, free, Option.isSome_iff_ne_none, known, noOld, pinWellFormed]), fun allowed => ?_⟩⟩⟩⟩⟩
    · have : (pinWellFormed true (bodyPin f.body 1) &&
          pinWellFormed false (bodyPin f.body (2 + byteAt f.body 1))) = false := by
        simpa [← Bool.not_eq_true] using unformed
      simp [serveSetPin, this]
    · rw [← answerLock_setGate_takeFrame]
      refine exec_of_requested (c := .setPin) rfl h ?_
      rcases allowed with noPin | ⟨given, right⟩
      · simp [serveSetPin, formed, formed', here, set, free, noPin]
      · simp [serveSetPin, formed, formed', here, set, free, given, right]
  · have refused {code : ResultCode} := exec_refused (c := .setCeiling) (code := code) rfl h
    refine ⟨fun unformed => refused ?_, fun ⟨small, formed⟩ =>
      ⟨fun elsewhere => refused (by simp [serveSetCeiling, small.not_gt, formed, elsewhere]), fun here =>
      ⟨fun lower => ?_, fun raise =>
      ⟨fun unset => refused (by
        simp [serveSetCeiling, small.not_gt, formed, here, raise.not_ge, unset]), fun set =>
      ⟨fun noPin => refused (by
        simp [serveSetCeiling, small.not_gt, formed, here, raise.not_ge, set, noPin]), fun known =>
      ⟨fun lockout => refused (by
        simp [serveSetCeiling, small.not_gt, formed, here, raise.not_ge, set, known,
          Option.isSome_iff_ne_none, lockout]), fun free =>
      ⟨fun none_given => refused (by
        simp [serveSetCeiling, small.not_gt, here, raise.not_ge, set, known, free, none_given,
          pinWellFormed]), fun given right => ?_⟩⟩⟩⟩⟩⟩⟩
    · have : 7 < byteAt f.body 1 ∨ pinWellFormed true (bodyPin f.body 2) = false := by
        rwa [← Bool.not_eq_true, ← Nat.not_le, ← not_and_or]
      simp [serveSetCeiling, this]
    · rw [← answerLock_setGate_takeFrame]
      exact exec_of_requested (c := .setCeiling) rfl h (by
        simp [serveSetCeiling, small.not_gt, formed, here, lower])
    · rw [← answerLock_setGate_takeFrame, ← min_def]
      exact exec_of_requested (c := .setCeiling) rfl h (by
        simp [serveSetCeiling, small.not_gt, formed, here, raise.not_ge, set, free, given, right])

end Sys2Proof.Machine
end

section
/-! PROOFS. Desk messages: KEY_DELIVERY and KEY_WITHDRAWAL (R17 to R22), TARIFF_SET and TARIFF_REMOVE (R91
to R93), and CHECK_IN and CHECK_OUT where no stay closes (R109 to R117, R119). -/

namespace Sys2Proof.Machine

/-! ### Tables of places (R68, R90) -/

/-- The first place whose occupant has a property. -/
def placeWhere {α : Type} (p : α → Bool) (ts : List (Option α)) : Option Nat :=
  ts.findIdx? fun o => o.any p

section
variable {α β : Type} {p : α → Bool} {ts : List (Option α)} {i : Nat}

theorem placeWhere_eq_some_iff : placeWhere p ts = some i ↔
    (∃ x, ts[i]? = some (some x) ∧ p x = true) ∧
      ∀ (k : Nat) x, k < i → ts[k]? = some (some x) → p x = false := by
  simp only [placeWhere, List.findIdx?_eq_some_iff_getElem]
  constructor
  · rintro ⟨hi, found, first⟩
    refine ⟨?_, fun k x hk e => ?_⟩
    · cases e : ts[i] with
      | none => simp [e] at found
      | some x => exact ⟨x, by simp [hi, e], by simpa [e] using found⟩
    · obtain ⟨hk', e⟩ := List.getElem?_eq_some_iff.mp e
      simpa [e] using first k hk
  · rintro ⟨⟨x, e, found⟩, first⟩
    obtain ⟨hi, e⟩ := List.getElem?_eq_some_iff.mp e
    refine ⟨hi, by simpa [e] using found, fun k hk => ?_⟩
    cases e : ts[k] with
    | none => simp
    | some y => simpa using first k y hk (by simp [hk.trans hi, e])

theorem placeWhere_eq_none_iff : placeWhere p ts = none ↔
    ∀ (k : Nat) x, ts[k]? = some (some x) → p x = false := by
  simp only [placeWhere, List.findIdx?_eq_none_iff]
  constructor
  · intro h k x e
    simpa using h (some x) (List.mem_of_getElem? e)
  · intro h o ho
    obtain ⟨k, hk⟩ := List.mem_iff_getElem?.mp ho
    cases o with
    | none => rfl
    | some x => simpa using h k x hk

theorem findIdx?_isNone_eq_some_iff : ts.findIdx? Option.isNone = some i ↔
    ts[i]? = some none ∧ ∀ k : Nat, k < i → ts[k]? ≠ some none := by
  simp only [List.findIdx?_eq_some_iff_getElem, Option.isNone_iff_eq_none]
  constructor
  · rintro ⟨hi, free, first⟩
    refine ⟨by simp [hi, free], fun k hk e => ?_⟩
    obtain ⟨_, e⟩ := List.getElem?_eq_some_iff.mp e
    simpa [e] using first k hk
  · rintro ⟨free, first⟩
    obtain ⟨hi, e⟩ := List.getElem?_eq_some_iff.mp free
    refine ⟨hi, e, fun k hk e => first k hk ?_⟩
    simpa [hk.trans hi] using e

theorem findIdx?_isNone_eq_none_iff : ts.findIdx? Option.isNone = none ↔
    ∀ k : Nat, ts[k]? ≠ some none := by
  simp only [List.findIdx?_eq_none_iff, Option.isNone_eq_false_iff]
  constructor
  · intro h k e
    simpa using h none (List.mem_of_getElem? e)
  · intro h o ho
    obtain ⟨k, hk⟩ := List.mem_iff_getElem?.mp ho
    cases o with
    | none => exact absurd hk (h k)
    | some x => rfl

theorem mem_occupants_iff {x : α} : x ∈ ts.filterMap id ↔ ∃ k : Nat, ts[k]? = some (some x) := by
  rw [List.mem_filterMap]
  simp [List.mem_iff_getElem?]

/-- No key occurs twice among the occupants. -/
theorem nodup_occupants_iff {key : α → β} : ((ts.filterMap id).map key).Nodup ↔
    ∀ (i k : Nat) x y, i < k → ts[i]? = some (some x) → ts[k]? = some (some y) → key x ≠ key y := by
  rw [List.Nodup, List.pairwise_map, List.pairwise_filterMap, List.pairwise_iff_getElem]
  constructor
  · intro h i k x y hik hx hy
    obtain ⟨hi, ex⟩ := List.getElem?_eq_some_iff.mp hx
    obtain ⟨hk, ey⟩ := List.getElem?_eq_some_iff.mp hy
    exact h i k hi hk hik x ex y ey
  · intro h i k hi hk hik x ex y ey
    exact h i k x y hik (List.getElem?_eq_some_iff.mpr ⟨hi, ex⟩) (List.getElem?_eq_some_iff.mpr ⟨hk, ey⟩)

/-- Where no key occurs twice, an occupant has its key to itself. -/
theorem place_unique {key : α → β} (nodup : ((ts.filterMap id).map key).Nodup) {k : Nat} {x y : α}
    (hx : ts[i]? = some (some x)) (hy : ts[k]? = some (some y)) (same : key x = key y) : i = k := by
  rw [nodup_occupants_iff] at nodup
  rcases lt_trichotomy i k with hik | rfl | hki
  · exact absurd same (nodup i k x y hik hx hy)
  · rfl
  · exact absurd same.symm (nodup k i y x hki hy hx)

end

/-- Replacing an occupant leaves the others. -/
theorem set_place_eq {α : Type} {ts : List (Option α)} {i : Nat} {o : Option α} (hi : i < ts.length)
    (k : Nat) : (ts.set i o)[k]? = if i = k then some o else ts[k]? := by
  simp [List.getElem?_set, hi]

/-! ### KEY_DELIVERY and KEY_WITHDRAWAL -/

theorem parityOf_of_large {n : Nat} (h : 2 ≤ n) : parityOf n = none := by
  match n with
  | n + 2 => rfl

theorem parityOf_code (p : Parity) : parityOf (if p = .even then 0 else 1) = some p := by
  cases p <;> rfl

theorem parityCode_eq (p : Parity) : parityCode p = if p = .even then 0 else 1 := by cases p <;> rfl

theorem holdsEpoch_eq (slot : Option LoadedKey) (epoch : Nat) :
    holdsEpoch slot epoch = slot.any fun k => k.epoch == epoch := by
  cases slot <;> rfl

section
variable {s : State} {group parity epoch upper lower : Nat}

theorem takeDelivery_of_invalid (h : 15 < group ∨ 2 ≤ parity) :
    takeDelivery group parity epoch upper lower s = refuseInvalid group parity epoch s := by
  unfold takeDelivery
  split
  · rfl
  · rename_i p code
    have : 15 < group := h.resolve_right fun large => by simp [parityOf_of_large large] at code
    rw [if_pos this]

theorem takeWithdrawal_of_invalid (h : 15 < group ∨ 2 ≤ parity) :
    takeWithdrawal group parity epoch s = refuseInvalid group parity epoch s := by
  unfold takeWithdrawal
  split
  · rfl
  · rename_i p code
    have : 15 < group := h.resolve_right fun large => by simp [parityOf_of_large large] at code
    rw [if_pos this]

theorem takeDelivery_of_parity {p : Parity} (valid : group ≤ 15) (code : parityOf parity = some p) :
    takeDelivery group parity epoch upper lower s =
      if holdsEpoch (keySlot (keyGroup s.keys group) p) epoch then countRepeat s
      else if (keyGroup s.keys group).active = some p then refuseActive group p epoch s
      else loadSlot group p ⟨BitVec.ofNat 32 upper, BitVec.ofNat 32 lower, epoch⟩ s := by
  simp [takeDelivery, code, valid.not_gt]

theorem takeWithdrawal_of_parity {p : Parity} (valid : group ≤ 15) (code : parityOf parity = some p) :
    takeWithdrawal group parity epoch s =
      if (keyGroup s.keys group).active = some p then refuseActive group p epoch s
      else if (keySlot (keyGroup s.keys group) p).isSome then emptySlot group p epoch s
      else countRepeat s := by
  simp [takeWithdrawal, code, valid.not_gt]

end

/-- Settles O45: each branch of the two messages, with the report of the counts it leaves. -/
theorem keysAreDeliveredAndWithdrawn : Obligations.keysAreDeliveredAndWithdrawn := by
  intro s ix m c group parity epoch key h message
  dsimp only
  rcases message with ⟨rfl, upper, lower, rfl, parsed⟩ | ⟨rfl, rfl, parsed⟩
  · have served : exec .keyDelivery s =
        .next (freeBuffer ix (takeDelivery group parity epoch upper lower s)) :=
      congrArg _ (serveMessage_of_atHandler h parsed rfl)
    rw [served]
    refine ⟨fun invalid => ?_, fun p valid code => ?_⟩
    · rw [takeDelivery_of_invalid invalid]
      rfl
    · subst code
      rw [takeDelivery_of_parity valid (parityOf_code p), holdsEpoch_eq, ← parityCode_eq]
      refine ⟨fun _ held => ?_, fun active fresh => ?_, fun inactive => ⟨fun _ fresh => ?_, ?_, ?_⟩⟩
      · rw [if_pos held]
        rfl
      · rw [if_neg (ne_true_of_eq_false (fresh rfl)), if_pos active]
        rfl
      · rw [if_neg (ne_true_of_eq_false fresh), if_neg inactive]
        rfl
      · exact nofun
      · exact nofun
  · have served : exec .keyWithdrawal s =
        .next (freeBuffer ix (takeWithdrawal group parity epoch s)) :=
      congrArg _ (serveMessage_of_atHandler h parsed rfl)
    rw [served]
    refine ⟨fun invalid => ?_, fun p valid code => ?_⟩
    · rw [takeWithdrawal_of_invalid invalid]
      rfl
    · subst code
      rw [takeWithdrawal_of_parity valid (parityOf_code p), ← parityCode_eq]
      refine ⟨nofun, fun active _ => ?_, fun inactive => ⟨nofun, fun _ empty => ?_, fun _ loaded => ?_⟩⟩
      · rw [if_pos active]
        rfl
      · rw [if_neg inactive, empty]
        rfl
      · rw [if_neg inactive, if_pos (Option.isSome_iff_ne_none.mpr loaded)]
        rfl

/-! ### TARIFF_SET and TARIFF_REMOVE (R91 to R93) -/

theorem clampTariff_eq (film price window rating : Nat) :
    clampTariff film price window rating = {
      film := film
      price := if 60000 < price then 60000 else price
      window := if window = 0 then 1 else if 2880 < window then 2880 else window
      rating := if 7 < rating then 7 else rating } := by
  simp only [clampTariff, clampTo, Tariff.mk.injEq, true_and]
  refine ⟨?_, ?_, ?_⟩ <;> split_ifs <;> omega

section
variable {film price window rating : Nat} {s : State}

theorem takeTariff_of_invalid (h : film = 0 ∨ 4095 < film) :
    takeTariff film price window rating s = tariffReport film false s := by
  have : validFilm film = false := by
    simp only [validFilm, Bool.and_eq_false_iff, decide_eq_false_iff_not]
    omega
  simp [takeTariff, this]

theorem takeTariff_of_valid (low : 1 ≤ film) (high : film ≤ 4095) :
    takeTariff film price window rating s =
      match (placeWhere (fun x => x.film == film) s.folio.tariffs).or (s.folio.tariffs.findIdx? Option.isNone) with
      | some i => s.setFolio { s.folio with
          tariffs := s.folio.tariffs.set i (some (clampTariff film price window rating)) }
      | none => tariffReport film true
          (s.setFolio { s.folio with tariffFull := satInc s.folio.tariffFull }) := by
  have : validFilm film = true := by simp [validFilm, low, high]
  simp only [takeTariff, this, placeWhere]
  cases s.folio.tariffs.findIdx? fun o => o.any fun x => x.film == film <;> rfl

end

theorem tariffOf_eq_none_iff {f : Folio} {film : Nat} : tariffOf f film = none ↔
    ∀ (k : Nat) x, f.tariffs[k]? = some (some x) → x.film ≠ film := by
  simp only [tariffOf, List.find?_eq_none, mem_occupants_iff, forall_exists_index, beq_iff_eq]
  exact forall_comm

theorem films_nodup_of_tariffsOk {ts : List (Option Tariff)} (ok : tariffsOk ts = true) :
    ((ts.filterMap id).map (·.film)).Nodup := by
  simp only [tariffsOk, Bool.and_eq_true, decide_eq_true_eq] at ok
  exact ok.1.2

theorem removeTariff_eq (film : Nat) (s : State) : removeTariff film s =
    match placeWhere (fun x => x.film == film) s.folio.tariffs with
    | some i => s.setFolio { s.folio with tariffs := s.folio.tariffs.set i none }
    | none => s := rfl

theorem removeTariff_of_absent {film : Nat} {s : State} (absent : tariffOf s.folio film = none) :
    removeTariff film s = s := by
  have missing : placeWhere (fun x => x.film == film) s.folio.tariffs = none :=
    placeWhere_eq_none_iff.mpr fun k x e => by simpa using tariffOf_eq_none_iff.mp absent k x e
  rw [removeTariff_eq, missing]

theorem removeTariff_of_place {film i : Nat} {x : Tariff} {s : State}
    (nodup : ((s.folio.tariffs.filterMap id).map (·.film)).Nodup)
    (place : s.folio.tariffs[i]? = some (some x)) (hx : x.film = film) :
    removeTariff film s = s.setFolio { s.folio with tariffs := s.folio.tariffs.set i none } := by
  have found : placeWhere (fun x => x.film == film) s.folio.tariffs = some i :=
    placeWhere_eq_some_iff.mpr ⟨⟨x, place, by simp [hx]⟩, fun k y hk e => by
      by_contra same
      exact hk.ne (place_unique nodup e place (by simp_all))⟩
  rw [removeTariff_eq, found]

/-- Settles O40: the place of the film, else the lowest free one, else the count of a full table. -/
theorem tariffsAreSetAndRemoved : Obligations.tariffsAreSetAndRemoved := by
  refine ⟨fun s ix m film price window rating h parsed => ?_, fun s ix m film h parsed => ?_⟩
  · have served : exec .tariffSet s =
        .next (freeBuffer ix (takeTariff film price window rating s)) :=
      congrArg _ (serveMessage_of_atHandler h parsed rfl)
    dsimp only
    rw [served]
    refine ⟨fun invalid => ?_, fun low high => ?_⟩
    · rw [takeTariff_of_invalid invalid]
      rfl
    · rw [takeTariff_of_valid low high, ← clampTariff_eq]
      refine ⟨fun i x place hx first => ?_, fun lacks => ?_⟩
      · have found : placeWhere (fun x => x.film == film) s.folio.tariffs = some i :=
          placeWhere_eq_some_iff.mpr ⟨⟨x, place, by simp [hx]⟩, fun k y hk e => by
            simpa using first k hk y e⟩
        rw [found]
        rfl
      · have missing : placeWhere (fun x => x.film == film) s.folio.tariffs = none :=
          placeWhere_eq_none_iff.mpr fun k x e => by simpa using lacks k x e
        rw [missing, Option.none_or]
        refine ⟨fun i free first => ?_, fun full => ?_⟩
        · rw [findIdx?_isNone_eq_some_iff.mpr ⟨free, first⟩]
          rfl
        · rw [findIdx?_isNone_eq_none_iff.mpr full]
          rfl
  · have served : exec .tariffRemove s = .next (freeBuffer ix (removeTariff film s)) :=
      congrArg _ (serveMessage_of_atHandler h parsed rfl)
    rw [served]
    refine ⟨fun absent => ?_, fun ok i x place hx => ⟨_, rfl, ?_, ?_⟩⟩
    · rw [removeTariff_of_absent absent]
      rfl
    · rw [removeTariff_of_place (films_nodup_of_tariffsOk ok) place hx]
      rfl
    · refine tariffOf_eq_none_iff.mpr fun k y e => ?_
      have place' : i < s.folio.tariffs.length := (List.getElem?_eq_some_iff.mp place).1
      rw [set_place_eq place'] at e
      split at e
      · simp at e
      · rename_i other
        intro hy
        exact other (place_unique (films_nodup_of_tariffsOk ok) place e (hx.trans hy.symm))

end Sys2Proof.Machine
end

section
/-! PROOFS. CHECK_IN where no stay closes (R109 to R111, R116), and CHECK_OUT and START_TIMEOUT outside
OCCUPIED (R116, R117, R119). -/

namespace Sys2Proof.Machine

/-! ### What the reports of a stay's change show (R64, R120, R173) -/

/-- The gate's change, the stay's and the snapshot are reported in turn, and no report shows the snapshot
second count: all three show the state as it is left. -/
theorem emitSnapshot_stayReport_lockReport (cause : StayCause) (capClamped : Bool) (s : State) :
    let t : State := { s with folio := { s.folio with snapshotSeconds := 0 } }
    emitSnapshot (stayReport cause capClamped (lockReport .stayChange none s)) =
      stayChangeTold [stayTold cause capClamped t, snapshotTold t] t := rfl

theorem freeBuffer_queueReport (ix : BufferIx) (r : Report) (t : State) :
    freeBuffer ix (report r t) =
      { t with link := queueReport r t.link, loop := setBuffer t.loop ix .free } := rfl

/-! ### A stay begins (R54, R70, R94, R110) -/

theorem gateOfStay_eq_gateFor (p : StayParams) : gateOfStay p = gateFor p := by
  have ceiling : clampCeiling p.roomCeiling p.hardCeiling = min p.roomCeiling (min p.hardCeiling 7) := by
    unfold clampCeiling
    omega
  simp only [gateOfStay, gateFor, ceiling, clampTo]

theorem beginStay_eq (p : StayParams) (s : State) : beginStay p s = stayBegun p s := by
  let begun : State := { s with
    stay := (openStay p s).stay, gate := gateOfStay p, folio := (folioBegin p s).folio }
  calc beginStay p s
      = emitSnapshot (stayReport .checkIn false (lockReport .stayChange none begun)) := rfl
    _ = stayBegun p s := by
      rw [emitSnapshot_stayReport_lockReport]
      simp only [begun, gateOfStay_eq_gateFor]
      rfl

theorem freeBuffer_stayBegun (ix : BufferIx) (p : StayParams) (s : State) :
    freeBuffer ix (stayBegun p s) = { stayBegun p s with loop := setBuffer s.loop ix .free } := rfl

/-! ### An update (R55, R94, R96, R111) -/

theorem max_cap_eq (cap owed : Nat) :
    max (min cap 9999999) owed = if min cap 9999999 < owed then owed else min cap 9999999 := by
  split_ifs <;> omega

theorem pin_or_eq (new old : Option (List Nat)) : new.or old = if new = none then old else new := by
  cases new <;> rfl

/-- The state an update leaves, but for its reports and the pending reply. -/
def updated (p : StayParams) (s : State) : State :=
  { s with
    stay := { s.stay with
      previewAllowance := min p.previewAllowance 600, grace := min p.grace 900 }
    gate := { s.gate with
      roomCeiling := min p.roomCeiling (min p.hardCeiling 7), hardCeiling := min p.hardCeiling 7
      pin := if p.pin = none then s.gate.pin else p.pin
      unlockDuration := max 1 (min p.unlockDuration 240)
      lockoutLength := max 1 (min p.lockoutLength 255) }
    folio := { s.folio with
      cap := if min p.cap 9999999 < s.folio.total + s.folio.reserved
        then s.folio.total + s.folio.reserved else min p.cap 9999999
      quality := max 1 (min p.quality 100), snapshotSeconds := 0 } }

theorem updateStay_eq (p : StayParams) (s : State) :
    let clamped := decide (min p.cap 9999999 < s.folio.total + s.folio.reserved)
    updateStay p s = { stayChangeTold
        [stayTold .update clamped (updated p s), snapshotTold (updated p s)] (updated p s) with
      loop := if clamped then (requestRoomReport s).loop else s.loop } := by
  have ceiling : clampCeiling p.roomCeiling p.hardCeiling = min p.roomCeiling (min p.hardCeiling 7) := by
    unfold clampCeiling
    omega
  by_cases clamped : min p.cap 9999999 < s.folio.total + s.folio.reserved
  · have clamped' : capClamped p s.folio = true := decide_eq_true clamped
    simp only [updateStay, folioUpdate, gateUpdate, lockReport, report_folio, State.setGate_folio,
      State.setStay_folio, clamped', if_true, ceiling, updated, clamped, decide_true, pin_or_eq,
      maxTotal, max_cap_eq]
    rfl
  · have clamped' : capClamped p s.folio = false := decide_eq_false clamped
    simp only [updateStay, folioUpdate, gateUpdate, lockReport, report_folio, State.setGate_folio,
      State.setStay_folio, clamped', if_false, ceiling, updated, clamped, decide_false, pin_or_eq,
      Bool.false_eq_true, maxTotal, max_cap_eq]
    rfl

/-- Settles O47: by the room state, as the Stay Controller answers. -/
theorem aStayBegins : Obligations.aStayBegins := by
  intro s ix m p h parsed
  have served : exec .checkIn s = .next (freeBuffer ix (takeCheckIn p s)) :=
    congrArg _ (serveMessage_of_atHandler h parsed rfl)
  dsimp only
  rw [served]
  refine ⟨fun zero => ?_, fun stay room => ?_, fun stay room same => ?_, fun stay room => ⟨fun same => ?_,
    fun other => ?_⟩⟩
  · simp only [takeCheckIn, zero, if_true]
    rfl
  · rw [← freeBuffer_stayBegun, ← beginStay_eq]
    rcases room with room | room <;> simp only [takeCheckIn, stay, if_false, room]
  · have update : takeCheckIn p s = updateStay p s := by
      simp only [takeCheckIn, if_neg stay, room, if_pos same]
    rw [update, updateStay_eq]
    rfl
  · simp only [takeCheckIn, if_neg stay, room, if_pos same]
    rfl
  · simp only [takeCheckIn, stay, if_false, room, other]
    rfl

/-! ### CHECK_OUT outside OCCUPIED, and START_TIMEOUT -/

/-- Settles O49: by the room state. -/
theorem anEmptyRoomChecksOut : Obligations.anEmptyRoomChecksOut := by
  intro s
  refine ⟨fun ix m p h parsed => ?_, fun d room timer => ?_⟩
  · have served : exec .checkOut s = .next (freeBuffer ix (takeCheckOut s)) :=
      congrArg _ (serveMessage_of_atHandler h parsed rfl)
    rw [served]
    refine ⟨fun room => ?_, fun room => ?_, fun room => ?_⟩
    · simp only [takeCheckOut, room, checkOutStarting, emitSnapshot_stayReport_gateVacant,
        freeBuffer_stayChangeTold]
      rfl
    · simp only [takeCheckOut, room]
      rfl
    · simp only [takeCheckOut, room]
      rfl
  · have expires : s.stay.room = .starting ∧ s.stay.startTimer.isSome := by simp [room, timer]
    exact congrArg Host.Outcome.next (if_pos expires)

end Sys2Proof.Machine
end

section
/-! PROOFS. The Desk Message Handler: the form check (R150, R151), the order of the buffers (R149), and
MALFORMED_MESSAGE, DESK_NOTE, DESK_NOTE_ENTERS_QUEUE and ROOM_QUERY (R150, R156, R157). -/

namespace Sys2Proof.Machine

/-! ### The form check (R150, R151) -/

/-- A conditional answer, told by its two cases. -/
theorem ite_some_iff {α : Type} {p q : Prop} [Decidable p] (x : α) (h : q ↔ p) :
    (q → (if p then some x else none) = some x) ∧ (¬ q → (if p then some x else none) = none) :=
  ⟨fun hq => if_pos (h.mp hq), fun hq => if_neg (mt h.mpr hq)⟩

section
variable {m : InboxMessage}

theorem parseDesk_of_unknown (h : byteAt m.body 1 < 0x10 ∨ 0x16 < byteAt m.body 1) :
    parseDesk m = none := by
  unfold parseDesk
  dsimp only
  split
  case h_8 => rfl
  all_goals omega

/-- A digit count that fits the body leaves all of the bytes after it digits. -/
theorem digits_of_length {b : List Byte} {n : Nat} (h : b.length = 18 + n) :
    digitsOf ((b.drop 18).take n) = (b.drop 18).map (·.toNat) := by
  rw [List.take_of_length_le (by simp [h])]
  rfl

theorem parseDesk_guestStatus (kind : byteAt m.body 1 = 0x10) :
    let b := m.body
    let digits := (b.drop 18).map (·.toNat)
    parseDesk m =
      if m.broadcast = false ∧ (byteAt b 2 = 1 ∨ byteAt b 2 = 2) ∧ byteAt b 3 ≤ 1 ∧
        (byteAt b 18 = 0 ∨ (4 ≤ byteAt b 18 ∧ byteAt b 18 ≤ 8)) ∧ b.length = 18 + byteAt b 18 ∧
        ∀ d, d ∈ digits → d ≤ 9 then
      some (.guestStatus (byteAt b 2 == 1) (byteAt b 3 == 1) {
        stay := field b 4 2, cap := field b 6 3, roomCeiling := byteAt b 9, hardCeiling := byteAt b 10
        unlockDuration := byteAt b 11, lockoutLength := byteAt b 12, previewAllowance := field b 13 2
        grace := field b 15 2, quality := byteAt b 17
        pin := if digits = [] then none else some digits })
      else none := by
  simp only [parseDesk, kind]
  by_cases length : m.body.length = 18 + byteAt m.body 18
  · rw [digits_of_length length]
    refine ite_congr ?_ (fun _ => ?_) fun _ => rfl
    · simp only [length, List.all_eq_true, decide_eq_true_eq, true_and, eq_iff_iff]
      tauto
    · simp [pinOf]
  · simp [length]

theorem parseDesk_key (kind : byteAt m.body 1 = 0x11) :
    let b := m.body
    parseDesk m =
      if byteAt b 6 = 0 ∧ b.length = 14 then
        some (.keyDelivery (byteAt b 2) (byteAt b 3) (field b 4 2) (field b 7 4) (field b 11 4))
      else if byteAt b 6 = 1 ∧ b.length = 6 then
        some (.keyWithdrawal (byteAt b 2) (byteAt b 3) (field b 4 2))
      else none := by
  simp only [parseDesk, kind]

theorem parseDesk_deskNote (kind : byteAt m.body 1 = 0x15) :
    let b := m.body
    parseDesk m =
      if 1 ≤ byteAt b 2 ∧ byteAt b 2 ≤ 48 ∧ b.length = 2 + byteAt b 2 ∧
        (b.drop 2).all (fun c => 0x20 ≤ c.toNat && c.toNat ≤ 0x7E) = true then
        some (.deskNote (b.drop 2))
      else none := by
  simp only [parseDesk, kind]

end

/-- The first clause of R150 and R151, kind by kind. -/
theorem parseDesk_spec (m : InboxMessage) :
    let b := m.body
    let n := b.length
    let kind (k : Nat) := byteAt b 1 = k
    let is (ok : Prop) (d : DeskMessage) :=
      (ok → parseDesk m = some d) ∧ (¬ ok → parseDesk m = none)
    let digits := (b.drop 18).map (·.toNat)
    let chars := b.drop 2
    (byteAt b 1 < 0x10 ∨ 0x16 < byteAt b 1 → parseDesk m = none) ∧
    (kind 0x10 → is (m.broadcast = false ∧ (byteAt b 2 = 1 ∨ byteAt b 2 = 2) ∧ byteAt b 3 ≤ 1 ∧
        (byteAt b 18 = 0 ∨ (4 ≤ byteAt b 18 ∧ byteAt b 18 ≤ 8)) ∧ n = 18 + byteAt b 18 ∧
        ∀ d, d ∈ digits → d ≤ 9)
      (.guestStatus (byteAt b 2 == 1) (byteAt b 3 == 1) {
        stay := field b 4 2, cap := field b 6 3, roomCeiling := byteAt b 9, hardCeiling := byteAt b 10
        unlockDuration := byteAt b 11, lockoutLength := byteAt b 12, previewAllowance := field b 13 2
        grace := field b 15 2, quality := byteAt b 17
        pin := if digits = [] then none else some digits })) ∧
    (kind 0x11 →
      (byteAt b 6 = 0 → is (n = 14) (.keyDelivery (byteAt b 2) (byteAt b 3) (field b 4 2)
        (field b 7 4) (field b 11 4))) ∧
      (byteAt b 6 = 1 → is (n = 6) (.keyWithdrawal (byteAt b 2) (byteAt b 3) (field b 4 2))) ∧
      (2 ≤ byteAt b 6 → parseDesk m = none)) ∧
    (kind 0x12 → is (n = 8)
      (.tariffSet (field b 2 2) (field b 4 2) (field b 6 2) (byteAt b 8))) ∧
    (kind 0x13 → is (n = 3) (.tariffRemove (field b 2 2))) ∧
    (kind 0x14 → is (n = 4) (.time (field b 2 3))) ∧
    (kind 0x15 → is (1 ≤ byteAt b 2 ∧ byteAt b 2 ≤ 48 ∧ n = 2 + byteAt b 2 ∧
        ∀ c, c ∈ chars → 0x20 ≤ c.toNat ∧ c.toNat ≤ 0x7E) (.deskNote chars)) ∧
    (kind 0x16 → is (n = 1) .roomQuery) := by
  dsimp only
  refine ⟨parseDesk_of_unknown, fun kind => ?_, fun kind => ⟨fun delivery => ?_, fun withdrawal => ?_,
    fun neither => ?_⟩, fun kind => ?_, fun kind => ?_, fun kind => ?_, fun kind => ?_, fun kind => ?_⟩
  · rw [parseDesk_guestStatus kind]
    exact ite_some_iff _ Iff.rfl
  · rw [parseDesk_key kind]
    simp [delivery]
  · rw [parseDesk_key kind]
    simp [withdrawal]
  · rw [parseDesk_key kind, if_neg (by omega), if_neg (by omega)]
  · simp only [parseDesk, kind]
    exact ite_some_iff _ Iff.rfl
  · simp only [parseDesk, kind]
    exact ite_some_iff _ Iff.rfl
  · simp only [parseDesk, kind]
    exact ite_some_iff _ Iff.rfl
  · rw [parseDesk_deskNote kind]
    exact ite_some_iff _ (by simp)
  · simp only [parseDesk, kind]
    exact ite_some_iff _ Iff.rfl

/-! ### The oldest FILLED buffer (R149) -/

theorem filledMessage_eq_some {b : InboxBuffer} {m : InboxMessage} :
    filledMessage b = some m ↔ b = .filled m := by
  cases b <;> simp [filledMessage]

theorem filledMessage_eq_none {b : InboxBuffer} :
    filledMessage b = none ↔ ∀ m, b ≠ .filled m := by
  cases b <;> simp [filledMessage]

@[simp] theorem otherBuffer_otherBuffer (k : BufferIx) : otherBuffer (otherBuffer k) = k := by
  cases k <;> rfl

/-- The oldest FILLED buffer: a FILLED one whose fellow is not FILLED or was filled after it. -/
theorem oldestFilled_eq_some {l : LoopStation} {k : BufferIx} {m : InboxMessage} :
    oldestFilled l = some (k, m) ↔ bufferAt l k = .filled m ∧
      ((∀ m', bufferAt l (otherBuffer k) ≠ .filled m') ∨ l.older = k) := by
  rw [← filledMessage_eq_some, ← filledMessage_eq_none]
  unfold oldestFilled
  cases k <;> cases e0 : filledMessage l.buffer0 <;> cases e1 : filledMessage l.buffer1 <;>
    cases l.older <;> simp [bufferAt, otherBuffer, e0, e1]

theorem otherBuffer_eq (k : BufferIx) : otherBuffer k = if k = .b0 then .b1 else .b0 := by
  cases k <;> rfl

theorem eq_otherBuffer_of_ne {k k' : BufferIx} (h : k' ≠ k) : k' = otherBuffer k := by
  cases k <;> cases k' <;> simp_all [otherBuffer]

theorem bufferAt_setBuffer (l : LoopStation) (ix k : BufferIx) (b : InboxBuffer) :
    bufferAt (setBuffer l ix b) k = if ix = k then b else bufferAt l k := by
  cases ix <;> cases k <;> rfl

/-! ### The oldest stays the oldest (R149) -/

/-- Nothing has been filled: a buffer is as it was, or is no longer FILLED. -/
def unfilled (l l' : LoopStation) : Prop :=
  l'.older = l.older ∧ ∀ k m, bufferAt l' k = .filled m → bufferAt l k = .filled m

/-- The oldest message is still the oldest while its buffer holds it. -/
def keepsOldest (l l' : LoopStation) : Prop :=
  ∀ k m, oldestFilled l = some (k, m) → bufferAt l' k = .filled m → oldestFilled l' = some (k, m)

theorem unfilled_refl (l : LoopStation) : unfilled l l := ⟨rfl, fun _ _ h => h⟩

theorem unfilled.trans {l l' l'' : LoopStation} (h : unfilled l l') (h' : unfilled l' l'') :
    unfilled l l'' :=
  ⟨h'.1.trans h.1, fun k m hk => h.2 k m (h'.2 k m hk)⟩

theorem unfilled.keepsOldest {l l' : LoopStation} (h : unfilled l l') : keepsOldest l l' := by
  intro k m oldest still
  obtain ⟨_, first⟩ := oldestFilled_eq_some.mp oldest
  refine oldestFilled_eq_some.mpr ⟨still, ?_⟩
  rcases first with alone | older
  · exact .inl fun m' hm' => alone m' (h.2 _ m' hm')
  · exact .inr (h.1.trans older)

theorem keepsOldest.trans_unfilled {l l' l'' : LoopStation} (h : keepsOldest l l')
    (h' : unfilled l' l'') : keepsOldest l l'' := fun k m oldest still =>
  h'.keepsOldest k m (h k m oldest (h'.2 k m still)) still

/-- A buffer that is not FILLED is filled: the other one was filled before it. -/
theorem keepsOldest_fillBuffer {l : LoopStation} {ix : BufferIx} (m : InboxMessage)
    (empty : ∀ m', bufferAt l ix ≠ .filled m') : keepsOldest l (fillBuffer ix m l) := by
  intro k m' oldest still
  have filled := (oldestFilled_eq_some.mp oldest).1
  have other : k ≠ ix := by
    rintro rfl
    exact empty m' filled
  refine oldestFilled_eq_some.mpr ⟨still, .inr ?_⟩
  exact (eq_otherBuffer_of_ne other).symm

theorem unfilled_setBuffer (l : LoopStation) (ix : BufferIx) {b : InboxBuffer}
    (hb : ∀ m, b ≠ .filled m) : unfilled l (setBuffer l ix b) := by
  refine ⟨by cases ix <;> rfl, fun k m hk => ?_⟩
  rw [bufferAt_setBuffer] at hk
  split at hk
  · exact absurd hk (hb m)
  · exact hk

theorem unfilled_free (l : LoopStation) (ix : BufferIx) : unfilled l (setBuffer l ix .free) :=
  unfilled_setBuffer l ix (by simp)

/-- What touches neither the buffers nor their order. -/
theorem unfilled_of_inbox {l l' : LoopStation} (h0 : l'.buffer0 = l.buffer0)
    (h1 : l'.buffer1 = l.buffer1) (older : l'.older = l.older) : unfilled l l' := by
  refine ⟨older, fun k m hk => ?_⟩
  cases k
  · exact h0.symm.trans hk
  · exact h1.symm.trans hk

theorem releaseReservation_unfilled (l : LoopStation) : unfilled l (releaseReservation l) := by
  obtain ⟨_, e⟩ | ⟨ix, _, e⟩ := releaseReservation_cases l <;> rw [e]
  · exact unfilled_refl l
  · exact (unfilled_free l ix).trans (unfilled_of_inbox rfl rfl rfl)

/-! ### Steps of the loop that fill no buffer -/

theorem send_unfilled (p : LoopPacket) (expects : Option Window) (s : State) :
    unfilled s.loop (send p expects s).loop := unfilled_of_inbox rfl rfl rfl

theorem endTurn_unfilled (s : State) : unfilled s.loop (endTurn s).loop :=
  unfilled_of_inbox rfl rfl rfl

theorem searchFails_unfilled (s : State) : unfilled s.loop (searchFails s).loop := by
  unfold searchFails
  dsimp only
  split <;> exact unfilled_of_inbox rfl rfl rfl

theorem searchFinds_unfilled (candidate : Nat) (s : State) :
    unfilled s.loop (searchFinds candidate s).loop := by
  unfold searchFinds
  dsimp only
  split <;> exact unfilled_of_inbox rfl rfl rfl

theorem searchFrom_unfilled (address : Nat) (s : State) :
    unfilled s.loop (searchFrom address s).loop := by
  unfold searchFrom
  split
  · exact searchFails_unfilled s
  · exact unfilled_of_inbox rfl rfl rfl

theorem passToken_unfilled (s : State) : unfilled s.loop (passToken s).loop := by
  unfold passToken
  dsimp only
  split
  · exact (unfilled_of_inbox rfl rfl rfl).trans (searchFrom_unfilled _ _)
  · split
    · exact (unfilled_of_inbox rfl rfl rfl).trans (searchFrom_unfilled _ _)
    · exact unfilled_of_inbox rfl rfl rfl

theorem passingStep_unfilled (s : State) : unfilled s.loop (passingStep s).loop := by
  obtain ⟨_, e⟩ | ⟨_, e⟩ := passingStep_cases s <;> rw [e]
  · exact unfilled_of_inbox rfl rfl rfl
  · exact passToken_unfilled s

theorem resumePass_unfilled (s : State) : unfilled s.loop (resumePass s).loop := by
  obtain ⟨_, e⟩ | ⟨_, e⟩ := resumePass_cases s <;> rw [e]
  · exact unfilled_refl _
  · exact passingStep_unfilled s

theorem dataStep_unfilled (s : State) : unfilled s.loop (dataStep s).loop := by
  unfold dataStep
  dsimp only
  split
  · exact unfilled_of_inbox rfl rfl rfl
  · split
    · exact unfilled_of_inbox rfl rfl rfl
    · exact passingStep_unfilled s

theorem countTurn_unfilled (l : LoopStation) : unfilled l (countTurn l) := by
  unfold countTurn
  split <;> exact unfilled_of_inbox rfl rfl rfl

theorem beginTurn_unfilled (s : State) : unfilled s.loop (beginTurn s).loop := by
  refine unfilled.trans ?_ (dataStep_unfilled _)
  exact unfilled.trans (unfilled_of_inbox rfl rfl rfl) (countTurn_unfilled _)

theorem remakeToken_unfilled (s : State) : unfilled s.loop (remakeToken s).loop := by
  refine unfilled.trans ?_ (dataStep_unfilled _)
  refine unfilled.trans (unfilled.trans ?_ (countTurn_unfilled _)) (unfilled_of_inbox rfl rfl rfl)
  split <;> exact unfilled_of_inbox rfl rfl rfl

theorem failIfAnswering_unfilled (h : HeardPacket) (s : State) :
    unfilled s.loop (failIfAnswering h s).loop := by
  obtain e | e := failIfAnswering_cases h s <;> rw [e]
  · exact unfilled_refl _
  · exact unfilled_of_inbox rfl rfl rfl

theorem restartIdle_unfilled (l : LoopStation) : unfilled l (restartIdle l) := by
  unfold restartIdle
  split <;> exact unfilled_of_inbox rfl rfl rfl

theorem answerWindow_unfilled (w : Window) (p : Option LoopPacket) (s : State) :
    unfilled s.loop (answerWindow w p s).loop := by
  have failed : unfilled s.loop (failExchange s).loop := unfilled_of_inbox rfl rfl rfl
  cases w with
  | passing => exact endTurn_unfilled s
  | probing =>
    simp only [answerWindow]
    split
    · exact searchFinds_unfilled _ s
    · exact endTurn_unfilled s
  | duplicate =>
    simp only [answerWindow]
    split <;> exact unfilled_of_inbox rfl rfl rfl
  | reservation =>
    simp only [answerWindow]
    split
    · exact unfilled_refl _
    · exact releaseReservation_unfilled _
  | enquiring =>
    simp only [answerWindow]
    split
    · exact unfilled_refl _
    · exact failed
  | posting =>
    simp only [answerWindow]
    split
    · exact unfilled_refl _
    · exact failed

theorem hearStart_unfilled (chars : List Byte) (s : State) :
    unfilled s.loop (hearStart chars s).loop := by
  have noted : unfilled s.loop (noteActivity s).loop := by
    unfold noteActivity
    split
    · exact unfilled.trans (unfilled_of_inbox rfl rfl rfl) (restartIdle_unfilled _)
    · exact restartIdle_unfilled _
  unfold hearStart
  split
  · exact unfilled_refl _
  · have answered := answerWindows_induct (P := fun t => unfilled s.loop t.loop) (judgePacket chars)
      s.loop.windows ((noteActivity s).setLoop { (noteActivity s).loop with windows := [] })
      (noted.trans (unfilled_of_inbox rfl rfl rfl)) fun w t ht =>
        ht.trans (answerWindow_unfilled w _ t)
    dsimp only
    split
    · exact answered.trans (unfilled_of_inbox rfl rfl rfl)
    · exact answered.trans (resumePass_unfilled _)

theorem busyTest_unfilled (s : State) : unfilled s.loop (busyTest s).loop := by
  unfold busyTest
  split <;> exact unfilled_of_inbox rfl rfl rfl

theorem answerEnquiry_unfilled (s : State) : unfilled s.loop (answerEnquiry s).loop := by
  have released := releaseReservation_unfilled s.loop
  unfold answerEnquiry
  dsimp only
  split
  · exact (released.trans (unfilled_setBuffer _ _ (by simp))).trans (unfilled_of_inbox rfl rfl rfl)
  · exact released.trans (unfilled_of_inbox rfl rfl rfl)

theorem expireWindow_unfilled (w : Window) (s : State) : unfilled s.loop (expireWindow w s).loop := by
  have failed : unfilled s.loop (resumePass (failExchange s)).loop :=
    unfilled.trans (unfilled_of_inbox rfl rfl rfl) (resumePass_unfilled _)
  cases w with
  | enquiring => exact failed
  | posting => exact failed
  | passing =>
    simp only [expireWindow]
    split <;> exact searchFrom_unfilled _ s
  | probing =>
    simp only [expireWindow]
    split
    · exact searchFrom_unfilled _ s
    · exact unfilled_refl _
  | reservation =>
    exact (releaseReservation_unfilled s.loop).trans (resumePass_unfilled (s.setLoop _))
  | duplicate => exact unfilled_refl _

/-- The ends of packets that carry no DATA. -/
theorem hearEnd_unfilled {select : Option LoopPacket → Option (HeardPacket → State → State)}
    (s : State) (h : ∀ p act, select p = some act → ∀ h s, unfilled s.loop (act h s).loop) :
    unfilled s.loop (hearEnd select s).loop := by
  obtain e | ⟨heard, act, _, ha, e⟩ := hearEnd_cases select s <;> rw [e]
  · exact unfilled_refl _
  · have begun : unfilled s.loop (s.setLoop { s.loop with heard := none }).loop :=
      unfilled_of_inbox rfl rfl rfl
    exact (begun.trans (h _ act ha heard _)).trans (resumePass_unfilled _)

/-! ### The two commands that fill a buffer (R144, R145) -/

theorem not_filled_of_reserved {l : LoopStation} {ix : BufferIx} (h : reservedBufferIx l = some ix) :
    ∀ m, bufferAt l ix ≠ .filled m := by
  unfold reservedBufferIx at h
  split_ifs at h with h0 h1 <;> cases h <;> simp_all [bufferAt]

theorem not_filled_of_free {l : LoopStation} {ix : BufferIx} (h : freeBufferIx l = some ix) :
    ∀ m, bufferAt l ix ≠ .filled m := by
  unfold freeBufferIx at h
  split_ifs at h with h0 h1 <;> cases h <;> simp_all [bufferAt]

theorem failIfAnswering_inbox (h : HeardPacket) (s : State) :
    (failIfAnswering h s).loop.buffer0 = s.loop.buffer0 ∧
      (failIfAnswering h s).loop.buffer1 = s.loop.buffer1 ∧
      (failIfAnswering h s).loop.older = s.loop.older := by
  obtain e | e := failIfAnswering_cases h s <;> rw [e] <;> exact ⟨rfl, rfl, rfl⟩

theorem keepsOldest_of_inbox {l l' l'' : LoopStation} (h : keepsOldest l' l'')
    (inbox : l'.buffer0 = l.buffer0 ∧ l'.buffer1 = l.buffer1 ∧ l'.older = l.older) :
    keepsOldest l l'' := by
  obtain ⟨h0, h1, older⟩ := inbox
  intro k m oldest
  exact h k m (by simpa only [oldestFilled, h0, h1, older] using oldest)

theorem endData_keepsOldest (source : Nat) (body : List Byte) (h : HeardPacket) (s : State) :
    keepsOldest s.loop (endData source body h s).loop := by
  refine keepsOldest_of_inbox ?_ (failIfAnswering_inbox h s)
  have dropped : keepsOldest (failIfAnswering h s).loop (dropData (failIfAnswering h s).loop) :=
    (unfilled_of_inbox rfl rfl rfl).keepsOldest
  unfold endData
  dsimp only
  split
  · rename_i ix reserved
    split
    · exact (keepsOldest_fillBuffer _ (not_filled_of_reserved reserved)).trans_unfilled
        (unfilled_of_inbox rfl rfl rfl)
    · exact dropped
  · exact dropped

theorem endBroadcast_keepsOldest (source : Nat) (body : List Byte) (h : HeardPacket) (s : State) :
    keepsOldest s.loop (endBroadcast source body h s).loop := by
  refine keepsOldest_of_inbox ?_ (failIfAnswering_inbox h s)
  have dropped : keepsOldest (failIfAnswering h s).loop (dropData (failIfAnswering h s).loop) :=
    (unfilled_of_inbox rfl rfl rfl).keepsOldest
  unfold endBroadcast
  dsimp only
  split
  · rename_i ix free
    split
    · exact keepsOldest_fillBuffer _ (not_filled_of_free free)
    · exact dropped
  · exact dropped

theorem hearEnd_keepsOldest {select : Option LoopPacket → Option (HeardPacket → State → State)}
    (s : State) (h : ∀ p act, select p = some act → ∀ h s, keepsOldest s.loop (act h s).loop) :
    keepsOldest s.loop (hearEnd select s).loop := by
  obtain e | ⟨heard, act, _, ha, e⟩ := hearEnd_cases select s <;> rw [e]
  · exact (unfilled_refl _).keepsOldest
  · have acted : keepsOldest (s.setLoop { s.loop with heard := none }).loop _ := h _ act ha heard _
    exact (keepsOldest_of_inbox acted ⟨rfl, rfl, rfl⟩).trans_unfilled (resumePass_unfilled _)

/-! ### No command puts another message before the oldest -/

theorem endToken_unfilled (h : HeardPacket) (s : State) : unfilled s.loop (endToken h s).loop := by
  unfold endToken
  split
  · exact unfilled_refl _
  · exact unfilled_of_inbox rfl rfl rfl
  · split
    · exact failIfAnswering_unfilled h s
    · exact beginTurn_unfilled s

theorem endEnquiry_unfilled (source : Nat) (h : HeardPacket) (s : State) :
    unfilled s.loop (endEnquiry source h s).loop := by
  have failed := failIfAnswering_unfilled h s
  unfold endEnquiry
  dsimp only
  split
  · exact failed.trans (answerEnquiry_unfilled _)
  · exact failed

theorem endAccept_unfilled (h : HeardPacket) (s : State) : unfilled s.loop (endAccept h s).loop := by
  unfold endAccept
  split
  · exact unfilled_of_inbox rfl rfl rfl
  · exact failIfAnswering_unfilled h s

theorem endDecline_unfilled (h : HeardPacket) (s : State) :
    unfilled s.loop (endDecline h s).loop := by
  unfold endDecline
  split
  · exact unfilled.trans (unfilled_of_inbox rfl rfl rfl) (busyTest_unfilled _)
  · exact failIfAnswering_unfilled h s

theorem endDataAck_unfilled (h : HeardPacket) (s : State) :
    unfilled s.loop (endDataAck h s).loop := by
  unfold endDataAck
  split
  · dsimp only
    split
    · exact unfilled_of_inbox rfl rfl rfl
    · rw [show (acknowledgeRecord _ _ _).loop = _ from acknowledgeRecord_changes _ _ _ .loop (by simp)]
      exact unfilled_of_inbox rfl rfl rfl
  · exact failIfAnswering_unfilled h s

theorem updateStay_unfilled (p : StayParams) (s : State) : unfilled s.loop (updateStay p s).loop := by
  rw [updateStay_eq]
  dsimp only
  split <;> exact unfilled_of_inbox rfl rfl rfl

theorem takeCheckIn_unfilled (p : StayParams) (s : State) :
    unfilled s.loop (takeCheckIn p s).loop := by
  have kept {t : State} (h : t.loop = s.loop) : unfilled s.loop t.loop := by rw [h]; exact unfilled_refl _
  unfold takeCheckIn
  split
  · exact unfilled_refl _
  split
  · exact kept (beginStay_changes p s .loop (by simp))
  · exact kept (beginStay_changes p s .loop (by simp))
  · split
    · exact updateStay_unfilled p s
    · exact kept (changeOver_changes p s .loop (by simp))
  · split <;> exact unfilled_refl _

theorem freeBuffer_unfilled (ix : BufferIx) (s : State) :
    unfilled s.loop (freeBuffer ix s).loop := unfilled_free s.loop ix

theorem serveMessage_unfilled {select : DeskMessage → Option (State → State)} (s : State)
    (h : ∀ d act, select d = some act → unfilled s.loop (act s).loop) :
    unfilled s.loop (serveMessage select s).loop :=
  serveMessage_induct (P := fun t => unfilled s.loop t.loop) select s (unfilled_refl _)
    fun ix _ d act _ ha => (h d act ha).trans (freeBuffer_unfilled ix _)

/-- An owner that leaves the loop alone. -/
theorem serveMessage_unfilled_of_agree {select : DeskMessage → Option (State → State)} (s : State)
    (h : ∀ d act, select d = some act → (act s).loop = s.loop) :
    unfilled s.loop (serveMessage select s).loop :=
  serveMessage_unfilled s fun d act ha => by rw [h d act ha]; exact unfilled_refl _

theorem serveRequest_unfilled (kind : Nat) (owner : Frame → State → State) (s : State)
    (h : ∀ f t, unfilled t.loop (owner f t).loop) : unfilled s.loop (serveRequest kind owner s).loop :=
  serveRequest_induct (P := fun t => unfilled s.loop t.loop) kind owner s (unfilled_refl _)
    (fun f _ _ => h f (takeFrame f s)) (fun _ _ => unfilled_refl _)

theorem offerNote_unfilled (ix : BufferIx) (m : InboxMessage) (s : State) :
    unfilled s.loop (offerNote ix m s).loop := by
  unfold offerNote
  split
  · split
    · exact freeBuffer_unfilled ix s
    · exact unfilled_refl _
  · exact unfilled_refl _

theorem stationAt_unfilled (address : Nat) (l : LoopStation) : unfilled l (stationAt address l) :=
  (releaseReservation_unfilled l).trans (unfilled_of_inbox rfl rfl rfl)

theorem packetSent_unfilled (s : State) : unfilled s.loop (packetSent s).loop := by
  unfold packetSent
  split
  · exact unfilled_refl _
  · exact unfilled.trans (unfilled_of_inbox rfl rfl rfl) (restartIdle_unfilled _)

/-- Every command but power-on and the two that bring DATA fills no buffer and keeps their order. -/
theorem exec_unfilled {c : Instr} {s t : State} (h : exec c s = .next t)
    (notReset : ∀ a b, c ≠ .powerOnReset a b) (notData : c ≠ .dataReceived)
    (notBroadcast : c ≠ .broadcastReceived) : unfilled s.loop t.loop := by
  have other (hc : .loop ∉ footprint c) : unfilled s.loop t.loop := by
    rw [show t.loop = s.loop from exec_agree h .loop hc]
    exact unfilled_refl _
  cases c with
  | powerOnReset a b => exact absurd rfl (notReset a b)
  | setStation =>
    rw [stateAfter_of_exec h]
    refine serveRequest_unfilled 0x0C serveSetStation s fun f t => ?_
    unfold serveSetStation
    dsimp only
    split_ifs
    · exact unfilled_refl _
    · exact stationAt_unfilled _ _
    · exact unfilled_refl _
  | join =>
    rw [stateAfter_of_exec h]
    refine serveRequest_unfilled 0x0D serveJoin s fun f t => ?_
    unfold serveJoin
    split
    · exact unfilled_refl _
    · split <;> exact unfilled_of_inbox rfl rfl rfl
    · exact unfilled_refl _
  | leave =>
    rw [stateAfter_of_exec h]
    refine serveRequest_unfilled 0x0E serveLeave s fun f t => ?_
    unfold serveLeave
    split
    · exact unfilled_refl _
    · exact unfilled_refl _
    · exact unfilled_of_inbox rfl rfl rfl
  | loopConfig =>
    rw [stateAfter_of_exec h]
    exact serveRequest_unfilled 0x0F serveLoopConfig s fun f t => unfilled_of_inbox rfl rfl rfl
  | deskNote =>
    rw [stateAfter_of_exec h]
    change unfilled s.loop (takeNote s).loop
    unfold takeNote
    split
    · exact offerNote_unfilled _ _ s
    · exact unfilled_refl _
  | deskNoteEntersQueue =>
    rw [stateAfter_of_exec h]
    change unfilled s.loop (offerWaitingNote s).loop
    unfold offerWaitingNote
    split
    · split
      · exact offerNote_unfilled _ _ s
      · exact unfilled_refl _
    · exact unfilled_refl _
  | malformedMessage =>
    rw [stateAfter_of_exec h]
    change unfilled s.loop (discardMalformed s).loop
    unfold discardMalformed
    split
    · exact freeBuffer_unfilled _ s
    · exact unfilled_refl _
  | loopActivity chars =>
    rw [stateAfter_of_exec h]
    exact hearStart_unfilled chars s
  | faultyPacket =>
    rw [stateAfter_of_exec h]
    exact hearEnd_unfilled s fun
      | none, _, rfl => fun h s => (unfilled_of_inbox rfl rfl rfl).trans (failIfAnswering_unfilled h _)
  | tokenReceived =>
    rw [stateAfter_of_exec h]
    exact hearEnd_unfilled s fun | some (.token _), _, rfl => endToken_unfilled
  | enquiryReceived =>
    rw [stateAfter_of_exec h]
    exact hearEnd_unfilled s fun | some (.enquiry _ source), _, rfl => endEnquiry_unfilled source
  | acceptReceived =>
    rw [stateAfter_of_exec h]
    exact hearEnd_unfilled s fun | some (.accept _), _, rfl => endAccept_unfilled
  | declineReceived =>
    rw [stateAfter_of_exec h]
    exact hearEnd_unfilled s fun | some (.decline _), _, rfl => endDecline_unfilled
  | dataAckReceived =>
    rw [stateAfter_of_exec h]
    exact hearEnd_unfilled s fun | some (.dataAck _), _, rfl => endDataAck_unfilled
  | dataReceived => exact absurd rfl notData
  | broadcastReceived => exact absurd rfl notBroadcast
  | responseWindowExpiry =>
    rw [stateAfter_of_exec h]
    change unfilled s.loop (match s.loop.windows with
      | w :: rest => expireWindow w (s.setLoop { s.loop with windows := rest })
      | [] => s).loop
    split
    · exact (unfilled_of_inbox rfl rfl rfl).trans (expireWindow_unfilled _ _)
    · exact unfilled_refl _
  | idleTimerExpiry =>
    rw [stateAfter_of_exec h]
    change unfilled s.loop (idleExpires s).loop
    unfold idleExpires
    split
    · exact unfilled_of_inbox rfl rfl rfl
    · exact unfilled_refl _
  | rebuildWaitExpiry =>
    rw [stateAfter_of_exec h]
    change unfilled s.loop (rebuildWaitExpires s).loop
    unfold rebuildWaitExpires
    split
    · exact remakeToken_unfilled s
    · exact unfilled_refl _
  | loopPacketSent =>
    rw [stateAfter_of_exec h]
    exact packetSent_unfilled s
  | vacateNow =>
    rw [stateAfter_of_exec h]
    exact serveMessage_unfilled_of_agree s fun
      | .guestStatus _ true _, _, rfl => takeVacate_changes s .loop (by simp)
  | checkIn =>
    rw [stateAfter_of_exec h]
    exact serveMessage_unfilled s fun | .guestStatus true false p, _, rfl => takeCheckIn_unfilled p s
  | checkOut =>
    rw [stateAfter_of_exec h]
    exact serveMessage_unfilled_of_agree s fun
      | .guestStatus false false _, _, rfl => takeCheckOut_changes s .loop (by simp)
  | keyDelivery =>
    rw [stateAfter_of_exec h]
    exact serveMessage_unfilled_of_agree s fun
      | .keyDelivery .., _, rfl => takeDelivery_changes _ _ _ _ _ s .loop (by simp)
  | keyWithdrawal =>
    rw [stateAfter_of_exec h]
    exact serveMessage_unfilled_of_agree s fun
      | .keyWithdrawal .., _, rfl => takeWithdrawal_changes _ _ _ s .loop (by simp)
  | tariffSet =>
    rw [stateAfter_of_exec h]
    exact serveMessage_unfilled_of_agree s fun
      | .tariffSet .., _, rfl => takeTariff_changes _ _ _ _ s .loop (by simp)
  | tariffRemove =>
    rw [stateAfter_of_exec h]
    exact serveMessage_unfilled_of_agree s fun
      | .tariffRemove _, _, rfl => removeTariff_changes _ s .loop (by simp)
  | time folioFirst =>
    rw [stateAfter_of_exec h]
    exact serveMessage_unfilled_of_agree s fun
      | .time _, _, rfl => takeTime_changes folioFirst _ s .loop (by simp)
  | roomQuery =>
    rw [stateAfter_of_exec h]
    exact serveMessage_unfilled s fun | .roomQuery, _, rfl => unfilled_of_inbox rfl rfl rfl
  | _ => exact other (by simp [footprint])

theorem exec_keepsOldest {c : Instr} {s t : State} (h : exec c s = .next t) :
    keepsOldest s.loop t.loop := by
  have other (notReset : ∀ a b, c ≠ .powerOnReset a b) (notData : c ≠ .dataReceived)
      (notBroadcast : c ≠ .broadcastReceived) : keepsOldest s.loop t.loop :=
    (exec_unfilled h notReset notData notBroadcast).keepsOldest
  cases c with
  | powerOnReset a b =>
    rw [stateAfter_of_exec h]
    rintro (_ | _) m _ ⟨⟩
  | dataReceived =>
    rw [stateAfter_of_exec h]
    exact hearEnd_keepsOldest s fun
      | some (.data (_ + 1) source body), _, rfl => endData_keepsOldest source body
  | broadcastReceived =>
    rw [stateAfter_of_exec h]
    exact hearEnd_keepsOldest s fun
      | some (.data 0 source body), _, rfl => endBroadcast_keepsOldest source body
  | _ => exact other nofun nofun nofun

/-! ### Notes and queries (R156, R157) -/

theorem queueReport_deskNote_of_room {chars : List Byte} {broadcast : Bool} {l : SetLink}
    (room : l.reports.length < 16) : queueReport (.deskNote chars broadcast) l =
      { l with reports := l.reports ++ [.deskNote chars broadcast] } := by
  have notSingle : l.reports.any (sameSingleKind · (.deskNote chars broadcast)) = false := by
    simp only [List.any_eq_false]
    intro r _
    cases r <;> simp [sameSingleKind]
  simp [queueReport, notSingle, room]

section
variable {ix : BufferIx} {m : InboxMessage} {s : State} {chars : List Byte}
  (parsed : parseDesk m = some (.deskNote chars))
include parsed

theorem offerNote_of_room (room : s.link.reports.length < 16) : offerNote ix m s = { s with
    desk := { s.desk with handling := none }
    link := { s.link with reports := s.link.reports ++ [.deskNote chars m.broadcast] }
    loop := setBuffer s.loop ix .free } := by
  have told : noteReport m = some (.deskNote chars m.broadcast) := by simp only [noteReport, parsed]
  simp only [offerNote, told, if_pos room, freeBuffer_queueReport, State.setDesk,
    queueReport_deskNote_of_room room]

theorem offerNote_of_full (full : 16 ≤ s.link.reports.length) : offerNote ix m s =
    { s with desk := { s.desk with handling := some ix } } := by
  have told : noteReport m = some (.deskNote chars m.broadcast) := by simp only [noteReport, parsed]
  simp only [offerNote, told, if_neg full.not_gt, State.setDesk]

end

theorem discardMalformed_of_atHandler {ix : BufferIx} {m : InboxMessage} {s : State}
    (h : atHandler ix m s) (malformed : parseDesk m = none) : discardMalformed s = { s with
      desk := { s.desk with malformed := satInc s.desk.malformed }
      loop := setBuffer s.loop ix .free } := by
  obtain ⟨idle, oldest⟩ := h
  have next : nextMessage s = some (ix, m, none) :=
    nextMessage_eq_some.mpr ⟨idle, oldest, malformed.symm⟩
  simp only [discardMalformed, next]
  rfl

theorem takeNote_of_atHandler {ix : BufferIx} {m : InboxMessage} {s : State} {chars : List Byte}
    (h : atHandler ix m s) (parsed : parseDesk m = some (.deskNote chars)) :
    takeNote s = offerNote ix m s := by
  obtain ⟨idle, oldest⟩ := h
  have next : nextMessage s = some (ix, m, some (.deskNote chars)) :=
    nextMessage_eq_some.mpr ⟨idle, oldest, parsed.symm⟩
  simp only [takeNote, next]

theorem offerWaitingNote_of_handling {ix : BufferIx} {m : InboxMessage} {s : State}
    (handling : s.desk.handling = some ix) (buffer : bufferAt s.loop ix = .filled m) :
    offerWaitingNote s = offerNote ix m s := by
  simp only [offerWaitingNote, handling, buffer, filledMessage]

theorem desk_of_idle {s : State} (idle : s.desk.handling = none) :
    { s.desk with handling := none } = s.desk := by
  rw [← idle]

theorem desk_of_handling {s : State} {ix : BufferIx} (handling : s.desk.handling = some ix) :
    { s.desk with handling := some ix } = s.desk := by
  rw [← handling]

/-- Settles O46: the form check is `parseDesk_spec`, the order of the buffers `exec_keepsOldest`. -/
theorem theHandlerTakesMessages : Obligations.theHandlerTakesMessages := by
  refine ⟨parseDesk_spec, fun l k m filled => ?_, fun c s t k m h => exec_keepsOldest h k m,
    fun s ix m => ⟨fun h => ⟨fun malformed => ?_, fun chars parsed => ⟨fun room => ?_, fun full => ?_⟩,
      fun parsed => ?_⟩, fun chars handling buffer parsed => ⟨fun room => ?_, fun full => ?_⟩⟩⟩
  · dsimp only
    rw [← otherBuffer_eq]
    refine ⟨fun alone => oldestFilled_eq_some.mpr ⟨filled, .inl alone⟩, fun m' other => ?_⟩
    split
    · exact oldestFilled_eq_some.mpr ⟨filled, .inr ‹_›⟩
    · rename_i notFirst
      refine oldestFilled_eq_some.mpr ⟨other, .inr (eq_otherBuffer_of_ne notFirst)⟩
  · exact congrArg _ (discardMalformed_of_atHandler h malformed)
  · have : exec .deskNote s = .next (takeNote s) := rfl
    rw [this, takeNote_of_atHandler h parsed, offerNote_of_room parsed room, desk_of_idle h.1]
  · have : exec .deskNote s = .next (takeNote s) := rfl
    rw [this, takeNote_of_atHandler h parsed, offerNote_of_full parsed full]
  · have served : exec .roomQuery s = .next (freeBuffer ix (requestRoomReport s)) :=
      congrArg _ (serveMessage_of_atHandler h parsed rfl)
    dsimp only
    rw [served]
    refine ⟨fun r posting exchange => ?_, fun other => ?_⟩
    · simp only [requestRoomReport, posting, exchange]
      rfl
    · simp only [requestRoomReport]
      split
      · rename_i r posting exchange
        rcases other with notPosting | notReport
        · exact absurd posting notPosting
        · exact absurd exchange (notReport r)
      · rfl
  · have : exec .deskNoteEntersQueue s = .next (offerWaitingNote s) := rfl
    rw [this, offerWaitingNote_of_handling handling buffer, offerNote_of_room parsed room]
  · have : exec .deskNoteEntersQueue s = .next (offerWaitingNote s) := rfl
    rw [this, offerWaitingNote_of_handling handling buffer, offerNote_of_full parsed full,
      desk_of_handling handling]

end Sys2Proof.Machine
end

section
/-! PROOFS. The programme feed: bytes (R5, R7 to R11), the fields of a cell (section 12.1), the marks (R4 to
R7, R12), and a cell's arrival at the Cell Descrambler (R20, R24). -/

namespace Sys2Proof.Machine

/-! ### FEED_BYTE before and after the last byte (R4, R5, R7) -/

/-- Settles O20: the byte finds no open slot, a full one, or one it joins. -/
theorem aByteJoinsTheOpenSlot : Obligations.aByteJoinsTheOpenSlot := by
  intro b s
  refine ⟨fun unlocked => congrArg Host.Outcome.next ?_,
    fun bs locked cell full => congrArg Host.Outcome.next ?_,
    fun bs locked cell short => congrArg Host.Outcome.next ?_⟩
  · unfold trackByte
    split
    · exact absurd ‹_› unlocked
    · rfl
  · simp only [trackByte, locked, cell, if_pos full]
  · have notFull : ¬ 140 ≤ bs.length := by omega
    have notLast : ¬ (bs ++ [b]).length = 140 := by simp; omega
    simp only [trackByte, locked, cell, if_neg notFull, if_neg notLast]
    rfl

/-! ### The fields of a cell (section 12.1) -/

theorem take_drop_eq_map {bs : List Byte} {first count : Nat} (h : first + count ≤ bs.length) :
    (bs.drop first).take count = (List.range count).map fun i => bs.getD (first + i) 0 := by
  apply List.ext_getElem
  · simp; omega
  · intro i hi _
    have : first + i < bs.length := by simp at hi; omega
    simp [this]

theorem take_eq_map {bs : List Byte} {count : Nat} (h : count ≤ bs.length) :
    bs.take count = (List.range count).map fun i => bs.getD i 0 := by
  simpa using take_drop_eq_map (bs := bs) (first := 0) (count := count) (by omega)

theorem toNat_append_byte {n : Nat} (x : BitVec n) (b : Byte) :
    (x ++ b).toNat = x.toNat * 256 + b.toNat := by
  rw [BitVec.toNat_append, ← Nat.shiftLeft_add_eq_or_of_lt b.isLt, Nat.shiftLeft_eq]

/-- The word that four bytes spell is the four of them one after another. -/
theorem bytesWord_eq_append (a b c d : Byte) : bytesWord [a, b, c, d] = a ++ b ++ c ++ d := by
  apply BitVec.eq_of_toNat_eq
  simp only [bytesWord, beNat, List.foldl_cons, List.foldl_nil, BitVec.toNat_ofNat, toNat_append_byte]
  omega

theorem scrambleCode_eq {n : Nat} (h : n < 4) : n = match scrambleModeOf n with
    | .clear => 0
    | .even => 1
    | .odd => 2
    | .invalid => 3 := by
  interval_cases n <;> rfl

theorem parseCell_fields {bs : List Byte} (h : bs.length = 140) :
    let c := parseCell bs
    let byte (i : Nat) := bs.getD (i - 1) 0
    (byte 1).toNat = c.slot ∧ (byte 2).toNat = c.service ∧
      (byte 3).toNat = c.film / 16 ∧
      (byte 4).toNat = 16 * (c.film % 16) + 2 * c.rating + (if c.barred then 1 else 0) ∧ c.rating ≤ 7 ∧
      (byte 5).toNat = 16 * c.group + 4 * (match c.mode with
        | .clear => 0
        | .even => 1
        | .odd => 2
        | .invalid => 3) + c.spare ∧ c.spare ≤ 3 ∧
      (byte 6).toNat = c.frameSeq ∧ (byte 7).toNat = c.continuity ∧ byte 8 = c.headerCheck ∧
      c.headerXor = byte 1 ^^^ byte 2 ^^^ byte 3 ^^^ byte 4 ^^^ byte 5 ^^^ byte 6 ^^^ byte 7 ∧
      c.payload.length = 128 ∧ (∀ i, i < 128 → c.payload.getD i 0 = byte (9 + i)) ∧
      c.check = byte 137 ++ byte 138 ++ byte 139 ++ byte 140 := by
  have film := (bs.getD 3 0).isLt
  have mode : byteAt bs 5 / 4 % 4 < 4 := by omega
  intro c byte
  refine ⟨rfl, rfl, ?_, ?_, ?_, ?_, ?_, rfl, rfl, rfl, ?_, ?_, fun i hi => ?_, ?_⟩
  · simp only [c, byte, parseCell, byteAt]
    omega
  · simp only [c, byte, parseCell, byteAt, beq_iff_eq]
    split_ifs <;> omega
  · simp only [c, parseCell]
    omega
  · simp only [c, parseCell]
    rw [← scrambleCode_eq mode]
    change byteAt bs 5 = _
    omega
  · simp only [c, parseCell]
    omega
  · simp only [c, byte, parseCell]
    rw [take_eq_map (by omega)]
    simp [List.range_succ]
  · simp [c, parseCell, h]
  · simp [c, byte, parseCell, hi]
  · simp only [c, byte, parseCell]
    rw [take_drop_eq_map (by omega)]
    simp only [List.range_succ, List.range_zero, List.nil_append, List.cons_append, List.map_cons, List.map_nil]
    exact bytesWord_eq_append ..

/-! ### The 140th byte (R8 to R11) -/

theorem trackByte_of_last {b : Byte} {s : State} {bs : List Byte} (locked : s.feed.state = .locked)
    (cell : s.feed.cell = some bs) (last : bs.length = 139) :
    trackByte b s =
      judgeComplete (parseCell (bs ++ [b])) (s.setFeed { s.feed with cell := some (bs ++ [b]) }) := by
  have notFull : ¬ 140 ≤ bs.length := by omega
  have isLast : (bs ++ [b]).length = 140 := by simp [last]
  simp only [trackByte, locked, cell, if_neg notFull, if_pos isLast]

theorem headerFault_iff (c : Cell) : headerFault c = true ↔
    c.headerXor ≠ c.headerCheck ∨ c.mode = .invalid ∨ c.spare ≠ 0 ∨ (c.service = 0 ∧ c.film ≠ 0) := by
  simp [headerFault, or_assoc]

section
variable {c : Cell} {u : State}

theorem judgeComplete_of_fault (fault : headerFault c = true) : judgeComplete c u =
    u.setFeed { u.feed with
      counts := { u.feed.counts with headerFaults := satInc u.feed.counts.headerFaults } } := by
  simp only [judgeComplete, fault, if_true]

theorem judgeComplete_of_mismatch (sound : ¬ headerFault c = true) (slot : c.slot ≠ u.feed.slot)
    (few : u.feed.mismatchRun < 2) : judgeComplete c u = u.setFeed { u.feed with
      mismatchRun := u.feed.mismatchRun + 1
      counts := { u.feed.counts with slotMismatches := satInc u.feed.counts.slotMismatches } } := by
  have notThird : ¬ u.feed.mismatchRun + 1 ≥ 3 := by omega
  simp only [judgeComplete, if_neg sound, if_pos slot, if_neg notThird]

theorem judgeComplete_of_third (sound : ¬ headerFault c = true) (slot : c.slot ≠ u.feed.slot)
    (third : 2 ≤ u.feed.mismatchRun) : judgeComplete c u = feedReport .slotMismatch (u.setFeed { u.feed with
      state := .searching, mismatchRun := 0, cell := none
      counts := { u.feed.counts with slotMismatches := satInc u.feed.counts.slotMismatches } }) := by
  have isThird : u.feed.mismatchRun + 1 ≥ 3 := by omega
  simp only [judgeComplete, if_neg sound, if_pos slot, if_pos isThird]

theorem judgeComplete_of_accepted (sound : ¬ headerFault c = true) (slot : c.slot = u.feed.slot) :
    judgeComplete c u = acceptCell c (u.setFeed { u.feed with mismatchRun := 0 }) := by
  simp only [judgeComplete, if_neg sound, ne_eq, slot, not_true, if_false]

end

/-- Settles O21: the cell's fields are `parseCell_fields`, and each verdict of the tracker a branch of
`judgeComplete`. -/
theorem theLastByteJudgesTheCell : Obligations.theLastByteJudgesTheCell := by
  intro b s bs locked cell last
  have served : exec (.feedByte b) s = .next
      (judgeComplete (parseCell (bs ++ [b])) (s.setFeed { s.feed with cell := some (bs ++ [b]) })) :=
    congrArg Host.Outcome.next (trackByte_of_last locked cell last)
  dsimp only
  rw [served, ← headerFault_iff]
  refine ⟨parseCell_fields (by simp [last]), fun fault => ?_, fun sound slot few => ?_,
    fun sound slot third => ?_, fun sound slot service => ?_, fun sound slot service => ?_⟩
  · rw [judgeComplete_of_fault fault]
    rfl
  · rw [judgeComplete_of_mismatch sound]
    exacts [rfl, slot, few]
  · rw [judgeComplete_of_third sound]
    exacts [rfl, slot, third]
  · rw [judgeComplete_of_accepted sound, acceptCell, if_neg service]
    exacts [rfl, slot]
  · rw [judgeComplete_of_accepted sound, acceptCell, if_pos service]
    · cases guide : s.link.guide <;> simp only [State.setFeed_link, guide] <;> rfl
    · exact slot

/-! ### The marks (R4 to R7, R12) -/

theorem countsAtMark_eq {t : FeedTracker} {bs : List Byte} (cell : t.cell = some bs) :
    countsAtMark t = if 1 ≤ bs.length ∧ bs.length ≤ 139 then
      { t.counts with runts := satInc t.counts.runts } else t.counts := by
  simp only [countsAtMark, isRunt, cell, Bool.and_eq_true, decide_eq_true_eq]

/-- Settles O22: by the tracker's state and the mark. -/
theorem marksKeepTheSlots : Obligations.marksKeepTheSlots := by
  intro s fslt c hc
  dsimp only
  refine ⟨fun noFeed => ?_, fun searching mark => ?_, fun searching mark => ?_, fun bs locked cell => ?_⟩
  · rcases hc with rfl | rfl
    · exact congrArg Host.Outcome.next (by simp only [trackFrameMark, noFeed]; rfl)
    · exact congrArg Host.Outcome.next (by simp only [trackSlotMark, noFeed]; rfl)
  · subst mark
    exact congrArg Host.Outcome.next (by simp only [trackSlotMark, searching]; rfl)
  · subst mark
    exact congrArg Host.Outcome.next (by simp only [trackFrameMark, searching]; rfl)
  · rw [← countsAtMark_eq cell]
    refine ⟨fun mark early => ?_, fun mark last => ?_, fun mark early => ?_, fun mark last => ?_⟩ <;>
      subst mark <;> refine congrArg Host.Outcome.next ?_
    · have : ¬ s.feed.frameCount + 1 ≥ 500 := by omega
      simp only [trackFrameMark, locked, advanceFrameCount, State.setFeed_feed, if_neg this]
      rfl
    · have : s.feed.frameCount + 1 ≥ 500 := by omega
      simp only [trackFrameMark, locked, advanceFrameCount, State.setFeed_feed, if_pos this]
      rfl
    · simp only [trackSlotMark, locked, if_pos early]
      rfl
    · simp only [trackSlotMark, locked, if_neg last.not_gt]
      rfl

/-! ### CELL_ARRIVAL (R20, R24) -/

theorem execCellArrival_of_arrival {s : State} {h : HandedCell} {rest : List HandedCell}
    (handed : s.descrambler.handedOn = h :: rest) (free : s.descrambler.judging = none)
    (feed : s.feed.state ≠ .noFeed) (notServing : ∀ f, s.link.slot ≠ .serving f) :
    exec .cellArrival s = .next
      (arrive h.cell h.closesAhead (s.setDescrambler { handedOn := rest, judging := none })) := by
  have notDue : tuningDue s = false := by
    unfold tuningDue
    split
    · exact absurd ‹_› (notServing _)
    · rfl
  have may : mayArrive s = true := by simp [mayArrive, feed, notDue]
  refine congrArg Host.Outcome.next ?_
  simp only [handed, free, may, if_true]

section
variable {c : Cell} {s : State}

theorem checkActiveParity_of_no_key (h : namedSlot s.keys c = none) : checkActiveParity c s = s := by
  simp only [checkActiveParity, h]
  split <;> simp_all

theorem checkActiveParity_of_key {p : Parity} {k : LoadedKey} (mode : modeParity c.mode = some p)
    (h : namedSlot s.keys c = some k) : checkActiveParity c s =
      if (keyGroup s.keys c.group).active = some p then s
      else keyReport c.group (parityCode p) .switched k.epoch (some p)
        (setKeyGroup c.group { keyGroup s.keys c.group with active := some p } s) := by
  simp only [checkActiveParity, mode, h]

theorem arrive_eq (closesAhead : Nat) : arrive c closesAhead s =
    (checkActiveParity c s).setDescrambler { s.descrambler with
      judging :=
        if tunedTo s.outputs.main c.service || tunedTo s.outputs.inset c.service then
          some ⟨c, closesAhead, namedSlot s.keys c, tunedTo s.outputs.main c.service,
            tunedTo s.outputs.inset c.service, false⟩
        else s.descrambler.judging } := by
  have kept : (checkActiveParity c s).descrambler = s.descrambler :=
    checkActiveParity_changes c s .descrambler (by simp)
  unfold arrive
  dsimp only
  split
  · rw [kept]
  · rw [← kept]
    rfl

end

/-- Settles O24: a slot that is LOADED and not active switches the parity, and the outputs' tunings decide
what becomes of the cell. -/
theorem aCellArrives : Obligations.aCellArrives := by
  intro s h rest handed free feed notServing
  have arrived := execCellArrival_of_arrival handed free feed notServing
  rw [arrive_eq] at arrived
  intro c g key tuned descrambler stays switches
  have key_eq : key = namedSlot s.keys c := by
    simp only [key, namedSlot]
    cases c.mode <;> rfl
  clear_value key
  subst key_eq
  dsimp only [stays, switches, descrambler, tuned]
  rw [arrived]
  refine ⟨fun noKey => ?_, fun k key even => ?_, fun k key odd => ?_⟩
  · rw [checkActiveParity_of_no_key]
    exacts [rfl, noKey]
  · have mode : modeParity h.cell.mode = some .even := by rw [show h.cell.mode = _ from even]; rfl
    rw [checkActiveParity_of_key mode]
    · split
      · exact congrArg Host.Outcome.next (by rw [if_pos]; exacts [rfl, ‹_›])
      · exact congrArg Host.Outcome.next (by rw [if_neg]; exacts [rfl, ‹_›])
    · exact key
  · have mode : modeParity h.cell.mode = some .odd := by rw [show h.cell.mode = _ from odd]; rfl
    rw [checkActiveParity_of_key mode]
    · split
      · exact congrArg Host.Outcome.next (by rw [if_pos]; exacts [rfl, ‹_›])
      · exact congrArg Host.Outcome.next (by rw [if_neg]; exacts [rfl, ‹_›])
    · exact key

end Sys2Proof.Machine
end

section
/-! PROOFS. The Output Stage's operations: continuity (R42), the grant (R46), events at both outputs with
the request that they answer (R31, R39, R47), and DECODER_REQUEST and ITEM_DELIVERY_COMPLETE (R46, R48). -/

namespace Sys2Proof.Machine

/-! ### Continuity (R42) -/

theorem takeContinuity_eq (value : Nat) (o : Output) : takeContinuity value o =
    { (if o.expected = none ∨ o.expected = some value then o
        else admitItem (.marker .gap) value o) with expected := some ((value + 1) % 256) } := by
  unfold takeContinuity
  cases o.expected with
  | none => simp
  | some e => by_cases he : e = value <;> simp [he]

/-- Settles O29: the value after 255 is 0. -/
theorem continuityGivesTheGaps : Obligations.continuityGivesTheGaps := by
  intro value o range next
  have next_eq : some ((value + 1) % 256) = next := by
    simp only [next]
    split <;> congr 1 <;> omega
  rw [takeContinuity_eq, next_eq]
  refine ⟨fun known => by rw [if_pos known], fun e expected differs => ?_⟩
  rw [if_neg]
  simp [expected, differs]

/-! ### Admission and the output's state -/

theorem appendItems_idle_iff (items : List Item) (o : Output) :
    (appendItems items o).state = .idle ↔ o.state = .idle := by
  rw [appendItems_eq]
  dsimp only
  split
  · simp_all
  · rfl

theorem admitItem_idle_iff (item : Item) (value : Nat) (o : Output) :
    (admitItem item value o).state = .idle ↔ o.state = .idle := by
  have appended (items : List Item) := appendItems_idle_iff items o
  have dropped : (dropItem item value o).state = .idle ↔ o.state = .idle := by cases item <;> rfl
  unfold admitItem
  dsimp only
  split_ifs
  · exact appended _
  · exact dropped
  · rfl
  · exact appended _
  · exact dropped

theorem takeContinuity_idle_iff (value : Nat) (o : Output) :
    (takeContinuity value o).state = .idle ↔ o.state = .idle := by
  rw [takeContinuity_eq]
  dsimp only
  split
  · rfl
  · exact admitItem_idle_iff _ _ _

theorem not_eligible_of_idle {o : Output} (idle : o.state = .idle) : eligible o = false := by
  simp [eligible, idle]

/-- An output offers its head: RUNNING with an item, or FILLING with a marker first (R44 to R46). -/
theorem eligible_iff (o : Output) : eligible o = true ↔
    (o.state = .running ∧ o.queue ≠ []) ∨
    (o.state = .filling ∧ ∃ r, o.queue.head? = some (.marker r)) := by
  rcases o with ⟨state, _, queue, _⟩
  cases state with
  | idle => simp [eligible]
  | filling =>
    match queue with
    | [] => simp [eligible]
    | .cell .. :: _ => simp [eligible]
    | .marker _ :: _ => simp [eligible]
  | running => cases queue <;> simp [eligible]

theorem exists_head_of_eligible {o : Output} (h : eligible o = true) :
    ∃ item rest, o.queue = item :: rest := by
  obtain ⟨_, nonempty⟩ | ⟨_, r, head⟩ := (eligible_iff o).mp h
  · exact List.exists_cons_of_ne_nil nonempty
  · exact ⟨_, o.queue.tail, List.eq_cons_of_mem_head? head⟩

/-! ### Events at MAIN and INSET (R31, R39, R47) -/

theorem outputStage_ext_at {x y : OutputStage} (h : ∀ ix, outputAt x ix = outputAt y ix)
    (held : x.requestHeld = y.requestHeld) (delivering : x.delivering = y.delivering)
    (port : x.port = y.port) : x = y := by
  have main := h .main
  have inset := h .inset
  cases x
  cases y
  simp only [OutputStage.mk.injEq]
  exact ⟨main, inset, held, delivering, port⟩

@[simp] theorem setOutputAt_port (x : OutputStage) (ix : OutputIx) (o : Output) :
    (setOutputAt x ix o).port = x.port := by cases ix <;> rfl

theorem outputAt_setOutputAt_of_ne (x : OutputStage) {ix k : OutputIx} (o : Output) (h : k ≠ ix) :
    outputAt (setOutputAt x ix o) k = outputAt x k := by
  cases ix <;> cases k <;> simp_all [outputAt, setOutputAt]

@[simp] theorem outputAt_stageAfter (after : OutputIx → Output) (x : OutputStage) (ix : OutputIx) :
    outputAt (stageAfter after x) ix = after ix := by cases ix <;> rfl

/-- An event that reaches an output where `takes` says so, as the model walks both outputs. -/
def eventWhere (takes : OutputIx → Output → Bool) (event : Output → Output) (ix : OutputIx)
    (x : OutputStage) : OutputStage :=
  if takes ix (outputAt x ix) then atOutput ix event x else x

/-- What the event leaves of each output. -/
def afterEvent (takes : OutputIx → Output → Bool) (event : Output → Output) (x : OutputStage)
    (ix : OutputIx) : Output :=
  if takes ix (outputAt x ix) then event (outputAt x ix) else outputAt x ix

theorem setOutputAt_self (x : OutputStage) (ix : OutputIx) : setOutputAt x ix (outputAt x ix) = x := by
  cases ix <;> rfl

section
variable {takes : OutputIx → Output → Bool} {event : Output → Output} {x : OutputStage} {ix : OutputIx}

theorem eventWhere_of_no_grant (h : x.requestHeld = false ∨ x.delivering ≠ none ∨
      eligible (afterEvent takes event x ix) = false) :
    eventWhere takes event ix x = setOutputAt x ix (afterEvent takes event x ix) := by
  unfold eventWhere
  unfold afterEvent at *
  split
  · rename_i reached
    rw [if_pos reached] at h
    exact atOutput_of_no_grant event h
  · exact (setOutputAt_self x ix).symm

theorem eventWhere_of_grant {item : Item} {rest : List Item} (held : x.requestHeld = true)
    (idle : x.delivering = none) (before : eligible (outputAt x ix) = false)
    (offers : eligible (afterEvent takes event x ix) = true)
    (queue : (afterEvent takes event x ix).queue = item :: rest) :
    eventWhere takes event ix x =
      granted ix item (headTaken rest (afterEvent takes event x ix)) x := by
  unfold eventWhere
  unfold afterEvent at *
  split
  · rename_i reached
    rw [if_pos reached] at offers queue
    exact atOutput_of_grant held idle offers queue
  · rename_i unreached
    rw [if_neg unreached, before] at offers
    cases offers

end

/-- The output an event reaches first, and the other one. -/
def firstOutput (insetFirst : Bool) : OutputIx := if insetFirst then .inset else .main
def otherOutput : OutputIx → OutputIx
  | .main => .inset
  | .inset => .main

theorem otherOutput_ne (ix : OutputIx) : otherOutput ix ≠ ix := by cases ix <;> nofun

theorem eq_or_eq_other (ix k : OutputIx) : k = ix ∨ k = otherOutput ix := by
  cases ix <;> cases k <;> simp [otherOutput]

theorem inOrder_eq (insetFirst : Bool) (act : OutputIx → OutputStage → OutputStage) (x : OutputStage) :
    inOrder insetFirst act x =
      act (otherOutput (firstOutput insetFirst)) (act (firstOutput insetFirst) x) := by
  cases insetFirst <;> rfl

theorem eq_firstOutput_iff {insetFirst : Bool} {ix : OutputIx} :
    ix = firstOutput insetFirst ↔ insetFirst = (ix == .inset) := by
  cases insetFirst <;> cases ix <;> simp [firstOutput]

/-- Of the outputs that an event makes eligible, the first is the one it reaches first. -/
theorem eligibleFirst_iff {insetFirst : Bool} {after : OutputIx → Output} {ix : OutputIx} :
    eligibleFirst insetFirst after ix ↔ eligible (after ix) = true ∧
      (ix = firstOutput insetFirst ∨ eligible (after (firstOutput insetFirst)) = false) := by
  unfold eligibleFirst
  rw [← eq_firstOutput_iff]
  refine and_congr_right fun offers => ⟨fun h => ?_, fun h k other offers' => ?_⟩
  · by_cases first : ix = firstOutput insetFirst
    · exact .inl first
    · exact .inr (by simpa [first] using mt (h _ (Ne.symm first)))
  · rcases h with first | notOffered
    · exact first
    · by_contra last
      have : k = firstOutput insetFirst := by
        rcases eq_or_eq_other ix k with same | e
        · exact absurd same other
        · rcases eq_or_eq_other ix (firstOutput insetFirst) with e' | e'
          · exact absurd e'.symm last
          · rw [e, e']
      rw [this, notOffered] at offers'
      cases offers'

section
variable (takes : OutputIx → Output → Bool) (event : Output → Output) (x : OutputStage) (ix : OutputIx)

theorem afterEvent_other_of_set (o : Output) :
    afterEvent takes event (setOutputAt x ix o) (otherOutput ix) =
      afterEvent takes event x (otherOutput ix) := by
  cases ix <;> rfl

theorem afterEvent_other_of_granted (item : Item) (o : Output) :
    afterEvent takes event (granted ix item o x) (otherOutput ix) =
      afterEvent takes event x (otherOutput ix) := by
  cases ix <;> rfl

theorem setOutputAt_both (after : OutputIx → Output) :
    setOutputAt (setOutputAt x ix (after ix)) (otherOutput ix) (after (otherOutput ix)) =
      stageAfter after x := by
  cases ix <;> rfl

theorem setOutputAt_granted (item : Item) (o : Output) (after : OutputIx → Output) :
    setOutputAt (granted ix item o x) (otherOutput ix) (after (otherOutput ix)) =
      granted ix item o (stageAfter after x) := by
  cases ix <;> rfl

theorem granted_setOutputAt (item : Item) (o : Output) (after : OutputIx → Output) :
    granted (otherOutput ix) item o (setOutputAt x ix (after ix)) =
      granted (otherOutput ix) item o (stageAfter after x) := by
  cases ix <;> rfl

/-- While nothing is to be granted, an event at both outputs leaves each as it leaves it alone. -/
theorem inOrder_of_nothingToGrant (insetFirst : Bool) (h : nothingToGrant x) :
    inOrder insetFirst (eventWhere takes event) x = stageAfter (afterEvent takes event x) x := by
  have notBy (y : OutputStage) (hy : nothingToGrant y) (k : OutputIx) :
      eventWhere takes event k y = setOutputAt y k (afterEvent takes event y k) :=
    eventWhere_of_no_grant (hy.imp id Or.inl)
  rw [inOrder_eq, notBy x h, notBy _ (by simpa [nothingToGrant] using h), afterEvent_other_of_set,
    setOutputAt_both]

/-- A request that waits is answered by the first output that the event makes eligible. -/
theorem inOrder_answersWaiting (insetFirst : Bool) (h : requestWaits x) :
    answersWaiting insetFirst (afterEvent takes event x) x
      (inOrder insetFirst (eventWhere takes event) x) := by
  obtain ⟨held, idle, noMain, noInset⟩ := h
  have before (k : OutputIx) : eligible (outputAt x k) = false := by cases k <;> assumption
  rw [inOrder_eq]
  unfold answersWaiting
  simp only [eligibleFirst_iff]
  generalize firstOutput insetFirst = first
  cases offersFirst : eligible (afterEvent takes event x first) with
  | true =>
    obtain ⟨item, rest, queue⟩ := exists_head_of_eligible offersFirst
    have answered := eventWhere_of_grant held idle (before first) offersFirst queue
    rw [answered, eventWhere_of_no_grant (.inl rfl), afterEvent_other_of_granted, setOutputAt_granted]
    refine ⟨fun ix item' rest' ⟨offers, first'⟩ queue' => ?_, fun none_offers => ?_⟩
    · obtain rfl : ix = first := by simpa using first'
      obtain ⟨rfl, rfl⟩ := List.cons.inj (queue.symm.trans queue')
      rfl
    · simp [none_offers first] at offersFirst
  | false =>
    have unanswered := eventWhere_of_no_grant (takes := takes) (event := event) (x := x) (ix := first)
      (.inr (.inr offersFirst))
    have before' : eligible (outputAt (setOutputAt x first (afterEvent takes event x first))
        (otherOutput first)) = false := by
      rw [outputAt_setOutputAt_of_ne _ _ (otherOutput_ne first)]
      exact before _
    rw [unanswered]
    refine ⟨fun ix item rest ⟨offers, _⟩ queue => ?_, fun none_offers => ?_⟩
    · have last : ix = otherOutput first := (eq_or_eq_other first ix).resolve_left (by
        rintro rfl
        simp [offers] at offersFirst)
      subst last
      rw [← granted_setOutputAt]
      have after_eq := afterEvent_other_of_set takes event x first (afterEvent takes event x first)
      rw [← after_eq] at offers queue ⊢
      exact eventWhere_of_grant (by simpa using held) (by simpa using idle) before' offers queue
    · rw [eventWhere_of_no_grant, afterEvent_other_of_set, setOutputAt_both]
      rw [afterEvent_other_of_set]
      exact .inr (.inr (none_offers _))

theorem inOrder_stageBecomes (insetFirst : Bool) :
    stageBecomes insetFirst (afterEvent takes event x) x
      (inOrder insetFirst (eventWhere takes event) x) :=
  ⟨inOrder_of_nothingToGrant takes event x insetFirst, inOrder_answersWaiting takes event x insetFirst⟩

end

/-- A tuned output takes the NO_SIGNAL marker (R39). -/
def isTuned (_ : OutputIx) (o : Output) : Bool := o.state != .idle

/-- An output that the cell named, and that is not IDLE by then, takes what the cell brings (R31, R33). -/
def takesCell (j : Judging) (ix : OutputIx) (o : Output) : Bool := judgedFor j ix && o.state != .idle

theorem giveNoSignal_eq (insetFirst : Bool) (x : OutputStage) : giveNoSignal insetFirst x =
    inOrder insetFirst (eventWhere isTuned (admitItem (.marker .noSignal) 0)) x := by
  unfold giveNoSignal
  congr 1
  funext ix y
  by_cases h : (outputAt y ix).state = .idle <;> simp [eventWhere, isTuned, h]

theorem atNamed_eq (insetFirst : Bool) (j : Judging) (event : Output → Output) (x : OutputStage) :
    atNamed insetFirst j event x = inOrder insetFirst (eventWhere (takesCell j) event) x := by
  unfold atNamed
  congr 1
  funext ix y
  simp [eventWhere, takesCell]

theorem outputAt_grantTo_of_ne {ix k : OutputIx} (x : OutputStage) (h : k ≠ ix) :
    outputAt (grantTo ix x) k = outputAt x k := by
  obtain ⟨_, e⟩ | ⟨item, rest, _, e⟩ := grantTo_cases ix x <;> rw [e]
  exact outputAt_setOutputAt_of_ne x _ h

theorem outputAt_atOutput_of_ne {ix k : OutputIx} (event : Output → Output) (x : OutputStage)
    (h : k ≠ ix) : outputAt (atOutput ix event x) k = outputAt x k := by
  obtain ⟨e, _⟩ | ⟨e, _⟩ := atOutput_cases ix event x <;> rw [e]
  · exact outputAt_setOutputAt_of_ne x _ h
  · rw [outputAt_grantTo_of_ne _ h, outputAt_setOutputAt_of_ne x _ h]

/-- An output that the event does not reach stays as it is. -/
theorem outputAt_eventWhere_of_not_takes {takes : OutputIx → Output → Bool} {event : Output → Output}
    {x : OutputStage} {k : OutputIx} (ix : OutputIx) (h : takes k (outputAt x k) = false) :
    outputAt (eventWhere takes event ix x) k = outputAt x k := by
  unfold eventWhere
  split
  · rename_i reached
    refine outputAt_atOutput_of_ne event x ?_
    rintro rfl
    simp [h] at reached
  · rfl

theorem outputAt_inOrder_of_not_takes {takes : OutputIx → Output → Bool} {event : Output → Output}
    {x : OutputStage} {k : OutputIx} (insetFirst : Bool) (h : takes k (outputAt x k) = false) :
    outputAt (inOrder insetFirst (eventWhere takes event) x) k = outputAt x k := by
  have first := outputAt_eventWhere_of_not_takes (event := event) (firstOutput insetFirst) h
  rw [inOrder_eq, outputAt_eventWhere_of_not_takes _ (by rwa [first]), first]

/-! ### DECODER_REQUEST and ITEM_DELIVERY_COMPLETE (R46, R48) -/

theorem takeRequest_of_choice {x : OutputStage} {ix : OutputIx} {item : Item} {rest : List Item}
    (choice : grantChoice x = some ix) (queue : (outputAt x ix).queue = item :: rest) :
    takeRequest x = granted ix item (headTaken rest (outputAt x ix)) x := by
  simp only [takeRequest, choice, grantTo_eq_granted queue]

/-- The arbiter's choice, by what the outputs offer (R46). -/
theorem grantChoice_eq (x : OutputStage) : grantChoice x =
    if eligible (outputAt x .main) = true then
      if eligible (outputAt x .inset) = true ∧ x.main.priority < x.inset.priority then some .inset
      else some .main
    else if eligible (outputAt x .inset) = true then some .inset else none := by
  unfold grantChoice outputAt
  cases eligible x.main <;> cases eligible x.inset <;> simp

/-- What a request taken with nothing in delivery brings, by what the outputs offer. -/
theorem takeRequest_spec (x : OutputStage) :
    let offers (ix : OutputIx) := eligible (outputAt x ix) = true
    let grants (ix : OutputIx) := ∃ item rest, (outputAt x ix).queue = item :: rest ∧
      takeRequest x = granted ix item (headTaken rest (outputAt x ix)) x
    (offers .main → ¬ offers .inset → grants .main) ∧
    (offers .inset → ¬ offers .main → grants .inset) ∧
    (offers .main → offers .inset →
      if x.main.priority < x.inset.priority then grants .inset else grants .main) ∧
    (¬ offers .main → ¬ offers .inset → takeRequest x = { x with requestHeld := true }) := by
  dsimp only
  have chosen {ix : OutputIx} (choice : grantChoice x = some ix)
      (h : eligible (outputAt x ix) = true) : ∃ item rest, (outputAt x ix).queue = item :: rest ∧
        takeRequest x = granted ix item (headTaken rest (outputAt x ix)) x := by
    obtain ⟨item, rest, queue⟩ := exists_head_of_eligible h
    exact ⟨item, rest, queue, takeRequest_of_choice choice queue⟩
  have choice := grantChoice_eq x
  refine ⟨fun main inset => chosen ?_ main, fun inset main => chosen ?_ inset, fun main inset => ?_,
    fun main inset => ?_⟩
  · rw [choice, if_pos main, if_neg (fun h => inset h.1)]
  · rw [choice, if_neg main, if_pos inset]
  · split
    · rename_i higher
      exact chosen (by rw [choice, if_pos main, if_pos ⟨inset, higher⟩]) inset
    · rename_i notHigher
      exact chosen (by rw [choice, if_pos main, if_neg (fun h => notHigher h.2)]) main
  · rw [if_neg main, if_neg inset] at choice
    simp only [takeRequest, choice]

theorem granted_of_completed (x : OutputStage) (ix : OutputIx) (item : Item) (o : Output) :
    granted ix item o { x with delivering := none, port := [] } = granted ix item o x := by
  cases ix <;> rfl

theorem itemBytes_eq_cons (item : Item) : ∃ b rest, itemBytes item = b :: rest := by
  cases item <;> exact ⟨_, _, rfl⟩

theorem portBytes_eq (ix : OutputIx) (item : Item) :
    (portBytes ix item).map (·.dstart) =
        true :: List.replicate ((portBytes ix item).length - 1) false ∧
      (∀ b, b ∈ portBytes ix item → b.doutx = doutx ix) ∧
      (portBytes ix item).map (·.value) = itemBytes item := by
  obtain ⟨b, rest, bytes⟩ := itemBytes_eq_cons item
  simp only [portBytes, bytes]
  refine ⟨?_, ?_, ?_⟩
  · simp only [List.map_cons, List.map_map, List.length_cons, List.length_map, Nat.add_sub_cancel]
    exact congrArg _ (List.map_const' ..)
  case refine_3 => simp [Function.comp_def]
  simp only [List.mem_cons, List.mem_map]
  rintro _ (rfl | ⟨_, _, rfl⟩) <;> rfl

/-- The two commands that take a request bring it to the arbiter with nothing in delivery. -/
theorem takes_request {s : State} {c : Instr} (h : (c = .decoderRequest ∧ s.outputs.delivering = none) ∨
    (c = .itemDeliveryComplete ∧ s.outputs.delivering ≠ none ∧ s.outputs.requestHeld = true)) :
    ∃ y, exec c s = .next (s.setOutputs (takeRequest y)) ∧ y = { s.outputs with
      delivering := none, port := if c = .decoderRequest then s.outputs.port else [] } := by
  rcases h with ⟨rfl, idle⟩ | ⟨rfl, delivering, held⟩
  · refine ⟨s.outputs, ?_, by rw [if_pos rfl, ← idle]⟩
    exact congrArg (fun x => Host.Outcome.next (s.setOutputs x)) (if_neg (by simp [idle]))
  · refine ⟨_, ?_, rfl⟩
    refine congrArg Host.Outcome.next ((if_pos (Option.isSome_iff_ne_none.mpr delivering)).trans ?_)
    simp only [completeDelivery, held, if_true]
    rfl

/-- Settles O30: the grant is `takeRequest_spec`, the bytes at the port `portBytes_eq`. -/
theorem theDecoderIsServed : Obligations.theDecoderIsServed := by
  refine ⟨fun s c => ?_, fun ix item => ?_⟩
  · simp only [← eligible_iff]
    refine ⟨?_, ?_, ?_⟩
    · intro command
      obtain ⟨y, served, same⟩ := takes_request command
      obtain ⟨main, inset, both, neither⟩ := takeRequest_spec y
      have outputs (ix : OutputIx) : outputAt y ix = outputAt s.outputs ix := by
        rw [same]
        cases ix <;> rfl
      have grants {ix : OutputIx} (h : ∃ item rest, (outputAt s.outputs ix).queue = item :: rest ∧
          takeRequest y = granted ix item (headTaken rest (outputAt s.outputs ix)) y) :
          ∃ item rest, (outputAt s.outputs ix).queue = item :: rest ∧ exec c s = .next { s with
            outputs := granted ix item (headTaken rest (outputAt s.outputs ix)) s.outputs } := by
        obtain ⟨item, rest, queue, e⟩ := h
        refine ⟨item, rest, queue, ?_⟩
        rw [served, e, same]
        cases ix <;> rfl
      simp only [outputs] at main inset both neither
      refine ⟨fun h h' => grants (main h h'), fun h h' => grants (inset h h'), fun h h' => ?_,
        fun h h' => ?_⟩
      · have chosen := both h h'
        rw [show y.main = s.outputs.main from outputs .main,
          show y.inset = s.outputs.inset from outputs .inset] at chosen
        split at chosen
        · rw [if_pos ‹_›]
          exact grants chosen
        · rw [if_neg ‹_›]
          exact grants chosen
      · rw [served, neither h h', same]
        rfl
    · rintro rfl delivering
      refine congrArg (fun x => Host.Outcome.next (s.setOutputs x)) (if_pos ?_)
      exact Option.isSome_iff_ne_none.mpr delivering
    · rintro rfl delivering free
      refine congrArg Host.Outcome.next ((if_pos (Option.isSome_iff_ne_none.mpr delivering)).trans ?_)
      simp only [completeDelivery, free]
      rfl
  · obtain ⟨dstart, side, value⟩ := portBytes_eq ix item
    refine ⟨dstart, fun b hb => by rw [side b hb]; cases ix <;> rfl, ?_, ?_⟩
    · rintro service film clear rfl
      rw [value]
      rfl
    · rintro r rfl
      rw [value]
      exact ⟨(r, BitVec.ofNat 8 (markerCode r)), by cases r <;> decide, rfl, rfl⟩

end Sys2Proof.Machine
end

section
/-! PROOFS. Tuning: TUNE, UNTUNE and TUNING_AFTER_CELL (R13, R35, R36, R38), and the outputs that are IDLE. -/

namespace Sys2Proof.Machine

/-! ### The output flushed (R35, R36) -/

theorem eligible_retune (service : Option Nat) (o : Output) : eligible (retune service o) = false := by
  cases service <;> rfl

theorem atOutput_retune (ix : OutputIx) (service : Option Nat) (x : OutputStage) :
    atOutput ix (retune service) x = setOutputAt x ix (retune service (outputAt x ix)) :=
  atOutput_of_no_grant _ (.inr (.inr (eligible_retune ..)))

theorem retune_none (o : Output) : retune none o = untunedOutput o := rfl

theorem retune_some (service : Nat) (o : Output) : retune (some service) o = tunedBy service false o := by
  simp [retune, tunedBy]

/-- The NO_SIGNAL marker joins an output that has just been flushed (R13). -/
theorem admitItem_tunedBy (service : Nat) (o : Output) :
    admitItem (.marker .noSignal) 0 (tunedBy service false o) = tunedBy service true o := by
  rw [admitItem_of_room 0 rfl (by simp [tunedBy, collapsesInto]) (by simp [tunedBy]), appendItems_eq]
  simp [tunedBy]

theorem eligible_tunedBy_noFeed (service : Nat) (o : Output) :
    eligible (tunedBy service true o) = true := by
  rw [eligible_iff]
  by_cases h : o.threshold ≤ 1 <;> simp [tunedBy, h]

/-! ### A request carried out (R35, R36) -/

section
variable {f : Frame} {ix : OutputIx} {s : State} (index : outputIxOf (byteAt f.body 1) = some ix)
include index

theorem carryOutTune_of_no_service (none : byteAt f.body 2 = 0) :
    carryOutTune f s = answer f .badRequest .codeOnly s := by
  simp only [carryOutTune, index, none, if_true]

/-- In NO_FEED the marker of R13 comes after the tuning, and answers a held request at once (R47). -/
theorem carryOutTune_of_service (service : byteAt f.body 2 ≠ 0) :
    let tuned := tunedBy (byteAt f.body 2) (s.feed.state == .noFeed) (outputAt s.outputs ix)
    ∃ outs, carryOutTune f s = answer f .ok .codeOnly (s.setOutputs outs) ∧
      (s.feed.state ≠ .noFeed ∨ nothingToGrant s.outputs → outs = setOutputAt s.outputs ix tuned) ∧
      (s.feed.state = .noFeed → ¬ nothingToGrant s.outputs →
        outs = granted ix (.marker .noSignal) (headTaken [] tuned) s.outputs) := by
  have tuning : carryOutTune f s = answer f .ok .codeOnly (s.setOutputs
      (if s.feed.state = .noFeed then atOutput ix (admitItem (.marker .noSignal) 0)
          (atOutput ix (retune (some (byteAt f.body 2))) s.outputs)
        else atOutput ix (retune (some (byteAt f.body 2))) s.outputs)) := by
    simp only [carryOutTune, index, if_neg service]
  rw [atOutput_retune, retune_some] at tuning
  refine ⟨_, tuning, fun quiet => ?_, fun noFeed waits => ?_⟩
  · split
    · rename_i noFeed
      have idle : nothingToGrant s.outputs := quiet.resolve_left (by simp [noFeed])
      rw [atOutput_of_no_grant _ (by simpa [nothingToGrant, or_assoc] using Or.inl idle),
        outputAt_setOutputAt, admitItem_tunedBy, setOutputAt_setOutputAt]
      simp [noFeed]
    · rename_i feed
      rw [show (s.feed.state == .noFeed) = false from beq_eq_false_iff_ne.mpr feed]
  · obtain ⟨held, idle⟩ : s.outputs.requestHeld = true ∧ s.outputs.delivering = none := by
      simpa [nothingToGrant] using waits
    have joined := admitItem_tunedBy (byteAt f.body 2) (outputAt s.outputs ix)
    rw [if_pos noFeed, atOutput_of_grant (item := .marker .noSignal) (rest := [])]
    · rw [outputAt_setOutputAt, joined]
      simp only [granted, setOutputAt_setOutputAt, noFeed]
      rfl
    · simpa using held
    · simpa using idle
    · rw [outputAt_setOutputAt, joined]
      exact eligible_tunedBy_noFeed ..
    · rw [outputAt_setOutputAt, joined]
      rfl

theorem carryOutUntune_of_idle (idle : (outputAt s.outputs ix).state = .idle) :
    carryOutUntune f s = answer f .already .codeOnly s := by
  simp only [carryOutUntune, index, idle, if_true]

theorem carryOutUntune_of_tuned (tuned : (outputAt s.outputs ix).state ≠ .idle) :
    carryOutUntune f s = answer f .ok .codeOnly
      (s.setOutputs (setOutputAt s.outputs ix (untunedOutput (outputAt s.outputs ix)))) := by
  simp only [carryOutUntune, index, if_neg tuned, atOutput_retune, retune_none]

end

theorem waitsForCell_iff {f : Frame} {s : State} : waitsForCell f s = true ↔
    ∃ ix, outputIxOf (byteAt f.body 1) = some ix ∧ ¬ unjudged ix s := by
  unfold waitsForCell unjudged
  cases s.descrambler.judging <;> cases outputIxOf (byteAt f.body 1) <;> simp

/-! ### TUNE and UNTUNE (R35, R36, R38) -/

theorem exec_tune_of_requested {f : Frame} {s : State} (h : requested 0x02 f s) : exec .tune s =
    .next (if waitsForCell f s then takeFrame f s else carryOutTune f (takeFrame f s)) :=
  congrArg Host.Outcome.next (serveRequest_of_requested _ h)

theorem exec_untune_of_requested {f : Frame} {s : State} (h : requested 0x03 f s) : exec .untune s =
    .next (if waitsForCell f s then takeFrame f s else carryOutUntune f (takeFrame f s)) :=
  congrArg Host.Outcome.next (serveRequest_of_requested _ h)

theorem not_waitsForCell {f : Frame} {s : State}
    (h : ∀ ix, outputIxOf (byteAt f.body 1) = some ix → unjudged ix s) : ¬ waitsForCell f s = true :=
  fun waits => by
    obtain ⟨ix, index, judged⟩ := waitsForCell_iff.mp waits
    exact judged (h ix index)

theorem not_waitsForCell_of_index {f : Frame} {s : State} {ix : OutputIx}
    (index : outputIxOf (byteAt f.body 1) = some ix) (h : unjudged ix s) :
    ¬ waitsForCell f s = true :=
  not_waitsForCell fun k hk => by
    obtain rfl : ix = k := Option.some.inj (index.symm.trans hk)
    exact h

/-- Settles O31: the request waits for its cell, is refused, or is carried out. -/
theorem tuneFlushesAndTakesTheService : Obligations.tuneFlushesAndTakesTheService := by
  intro s f h
  have served := exec_tune_of_requested h
  refine ⟨fun bad free => ?_, fun ix index service free => ?_, fun ix index judged => ?_⟩
  · rw [served, if_neg (not_waitsForCell free)]
    cases index : outputIxOf (byteAt f.body 1) with
    | none =>
      simp only [carryOutTune, index]
      rfl
    | some ix =>
      have none : byteAt f.body 2 = 0 := bad.resolve_left (by simp [index])
      rw [carryOutTune_of_no_service index none]
      rfl
  · obtain ⟨outs, carried, quiet, waits⟩ := carryOutTune_of_service (s := takeFrame f s) index service
    rw [served, if_neg (not_waitsForCell_of_index index free), carried]
    refine ⟨fun h => ?_, fun noFeed held idle => ?_⟩
    · rw [quiet h]
      rfl
    · rw [waits noFeed (by simp [nothingToGrant, held, idle])]
      rfl
  · rw [served, if_pos (waitsForCell_iff.mpr ⟨ix, index, judged⟩)]
    rfl

/-! ### TUNING_AFTER_CELL (R38) -/

theorem exec_tuningAfterCell {s : State} {f : Frame} (serving : s.link.slot = .serving f)
    (free : ¬ waitsForCell f s = true) : exec .tuningAfterCell s = .next (
      if f.kind.toNat = 0x02 then carryOutTune f s
      else if f.kind.toNat = 0x03 then carryOutUntune f s else s) := by
  refine congrArg Host.Outcome.next ?_
  simp only [carryOutWaiting, serving, if_neg free]

/-- Settles O33: the request is carried out as R35 and R36 say, with the tracker as it is by then. -/
theorem aWaitingTuningIsCarriedOut : Obligations.aWaitingTuningIsCarriedOut := by
  intro s f ix serving index free
  have served := exec_tuningAfterCell serving (not_waitsForCell_of_index index free)
  dsimp only
  rw [served]
  refine ⟨fun tune service => ?_, fun tune none => ?_, fun untune tuned => ?_, fun untune idle => ?_⟩
  · obtain ⟨outs, carried, quiet, waits⟩ := carryOutTune_of_service (s := s) index service
    rw [if_pos (by rw [tune]; rfl), carried]
    refine ⟨fun h => ?_, fun noFeed h => ?_⟩
    · rw [quiet h]
      rfl
    · rw [waits noFeed h]
      rfl
  · rw [if_pos (by rw [tune]; rfl), carryOutTune_of_no_service index none]
    rfl
  · rw [if_neg (by rw [untune]; decide), if_pos (by rw [untune]; rfl), carryOutUntune_of_tuned index tuned]
    rfl
  · rw [if_neg (by rw [untune]; decide), if_pos (by rw [untune]; rfl), carryOutUntune_of_idle index idle]
    rfl

/-! ### An output that is IDLE gets no items (R36, R39) -/

/-- What an IDLE output has is left to it, or flushed. -/
def idleKept (o o' : Output) : Prop :=
  o.state = .idle → o'.state = .idle → o'.queue = o.queue ∨ o'.queue = []

theorem idleKept_of_eq {o o' : Output} (h : o' = o) : idleKept o o' := fun _ _ => .inl (by rw [h])

theorem idleKept_of_not_idle {o o' : Output} (h : o'.state ≠ .idle) : idleKept o o' :=
  fun _ idle => absurd idle h

theorem takeHead_idle_iff (o : Output) : (takeHead o).state = .idle ↔ o.state = .idle := by
  unfold takeHead
  dsimp only
  split
  · simp_all
  · rfl

theorem outputAt_grantTo_self (ix : OutputIx) (x : OutputStage) :
    outputAt (grantTo ix x) ix = outputAt x ix ∨
      outputAt (grantTo ix x) ix = takeHead (outputAt x ix) := by
  obtain ⟨_, e⟩ | ⟨item, rest, _, e⟩ := grantTo_cases ix x <;> rw [e]
  · exact .inl rfl
  · exact .inr (outputAt_setOutputAt ..)

/-- A grant takes nothing from an IDLE output, which offers nothing. -/
theorem outputAt_grantTo_of_idle {ix : OutputIx} {x : OutputStage} (k : OutputIx)
    (offers : eligible (outputAt x ix) = true) (idle : (outputAt (grantTo ix x) k).state = .idle) :
    outputAt (grantTo ix x) k = outputAt x k := by
  by_cases same : k = ix
  · subst same
    rcases outputAt_grantTo_self k x with e | e
    · exact e
    · rw [e, takeHead_idle_iff] at idle
      simp [not_eligible_of_idle idle] at offers
  · exact outputAt_grantTo_of_ne x same

theorem idleKept_atOutput {event : Output → Output} (h : ∀ o, idleKept o (event o)) (ix k : OutputIx)
    (x : OutputStage) : idleKept (outputAt x k) (outputAt (atOutput ix event x) k) := by
  have happens : idleKept (outputAt x k)
      (outputAt (setOutputAt x ix (event (outputAt x ix))) k) := by
    by_cases same : k = ix
    · subst same
      rw [outputAt_setOutputAt]
      exact h _
    · rw [outputAt_setOutputAt_of_ne x _ same]
      exact idleKept_of_eq rfl
  obtain ⟨e, _⟩ | ⟨e, _, _, offers⟩ := atOutput_cases ix event x <;> rw [e]
  · exact happens
  · intro before idle
    have kept := outputAt_grantTo_of_idle k (by rwa [outputAt_setOutputAt]) idle
    rw [kept] at idle ⊢
    exact happens before idle

theorem idleKept_takeRequest (x : OutputStage) (k : OutputIx) :
    idleKept (outputAt x k) (outputAt (takeRequest x) k) := by
  unfold takeRequest
  split
  · rename_i ix choice
    have offers : eligible (outputAt x ix) = true := by
      rw [grantChoice_eq] at choice
      split_ifs at choice <;> cases choice <;> simp_all
    intro _ idle
    exact .inl (by rw [outputAt_grantTo_of_idle k offers idle])
  · exact idleKept_of_eq (by cases k <;> rfl)

theorem idle_giveItem {j : Judging} {event : Output → Output} {x : OutputStage} {k : OutputIx}
    (insetFirst : Bool) (idle : (outputAt x k).state = .idle) :
    outputAt (atNamed insetFirst j event x) k = outputAt x k := by
  rw [atNamed_eq]
  exact outputAt_inOrder_of_not_takes insetFirst (by simp [takesCell, idle])

theorem not_idle_tunedBy (service : Nat) (noFeed : Bool) (o : Output) :
    (tunedBy service noFeed o).state ≠ .idle := by
  simp only [tunedBy]
  split <;> simp

theorem not_idle_headTaken {o : Output} {rest : List Item} (h : o.state ≠ .idle) :
    (headTaken rest o).state ≠ .idle := by
  unfold headTaken
  split
  · simp
  · exact h

theorem idleKept_carryOutTune (f : Frame) (s : State) (k : OutputIx) :
    idleKept (outputAt s.outputs k) (outputAt (carryOutTune f s).outputs k) := by
  cases index : outputIxOf (byteAt f.body 1) with
  | none =>
    simp only [carryOutTune, index]
    exact idleKept_of_eq rfl
  | some ix =>
    by_cases service : byteAt f.body 2 = 0
    · rw [carryOutTune_of_no_service index service]
      exact idleKept_of_eq rfl
    · obtain ⟨outs, carried, quiet, waits⟩ := carryOutTune_of_service (s := s) index service
      have becomes (o : Output) (ho : o.state ≠ .idle) :
          idleKept (outputAt s.outputs k) (outputAt (setOutputAt s.outputs ix o) k) := by
        by_cases same : k = ix
        · subst same
          rw [outputAt_setOutputAt]
          exact idleKept_of_not_idle ho
        · exact idleKept_of_eq (outputAt_setOutputAt_of_ne _ _ same)
      rw [carried]
      change idleKept _ (outputAt outs k)
      by_cases h : s.feed.state ≠ .noFeed ∨ nothingToGrant s.outputs
      · rw [quiet h]
        exact becomes _ (not_idle_tunedBy _ _ _)
      · obtain ⟨noFeed, granting⟩ := not_or.mp h
        rw [waits (not_not.mp noFeed) granting]
        exact becomes _ (not_idle_headTaken (not_idle_tunedBy _ _ _))

theorem idleKept_carryOutUntune (f : Frame) (s : State) (k : OutputIx) :
    idleKept (outputAt s.outputs k) (outputAt (carryOutUntune f s).outputs k) := by
  unfold carryOutUntune
  split
  · exact idleKept_of_eq rfl
  · split
    · exact idleKept_of_eq rfl
    · exact idleKept_atOutput (fun o _ _ => .inr rfl) _ k s.outputs

theorem idleKept_serveSetOutput (f : Frame) (s : State) (k : OutputIx) :
    idleKept (outputAt s.outputs k) (outputAt (serveSetOutput f s).outputs k) := by
  unfold serveSetOutput
  split
  · exact idleKept_of_eq rfl
  · exact idleKept_atOutput (fun o _ _ => .inl (by simp [storeSettings])) _ k s.outputs

/-- No command gives items to an output that is IDLE after it. -/
theorem exec_idleKept {c : Instr} {s t : State} (h : exec c s = .next t) (k : OutputIx) :
    idleKept (outputAt s.outputs k) (outputAt t.outputs k) := by
  have other (hc : .outputs ∉ footprint c) : idleKept (outputAt s.outputs k) (outputAt t.outputs k) :=
    idleKept_of_eq (by rw [show t.outputs = s.outputs from exec_agree h .outputs hc])
  have request {kind : Nat} {owner : Frame → State → State}
      (e : stateAfter c s = serveRequest kind owner s)
      (ho : ∀ f, idleKept (outputAt s.outputs k) (outputAt (owner f (takeFrame f s)).outputs k)) :
      idleKept (outputAt s.outputs k) (outputAt t.outputs k) := by
    rw [stateAfter_of_exec h, e]
    exact serveRequest_induct (P := fun t => idleKept (outputAt s.outputs k) (outputAt t.outputs k))
      kind owner s (idleKept_of_eq rfl) (fun f _ _ => ho f) (fun _ _ => idleKept_of_eq rfl)
  cases c with
  | powerOnReset a b =>
    rw [stateAfter_of_exec h]
    exact fun _ _ => .inr (by cases k <;> rfl)
  | feedLossTimerExpiry insetFirst =>
    rw [stateAfter_of_exec h]
    change idleKept _ (outputAt (loseFeed insetFirst s).outputs k)
    unfold loseFeed
    split
    · exact idleKept_of_eq rfl
    · intro idle _
      simp only [feedReport, report_outputs, State.setOutputs_outputs, State.setFeed_outputs]
      rw [giveNoSignal_eq, outputAt_inOrder_of_not_takes _ (by simp [isTuned, idle])]
      exact .inl rfl
  | cellVerdict order =>
    intro idle _
    refine .inl (congrArg Output.queue ?_)
    have unjudged (insetFirst : Bool) (j : Judging) (event : Output → Output) {x : OutputStage}
        (hx : outputAt x k = outputAt s.outputs k) :
        outputAt (atNamed insetFirst j event x) k = outputAt s.outputs k := by
      rw [idle_giveItem insetFirst (by rwa [hx]), hx]
    obtain e | ⟨j, _, _, e⟩ | ⟨j, _, _, ⟨item, u, _, e⟩ | ⟨i, u, _, _, e⟩ | ⟨i, u, _, _, e⟩⟩ :=
      execCellVerdict_cases order s <;> rw [Host.Outcome.next.inj (h.symm.trans e)]
    · exact unjudged _ _ _ rfl
    · exact unjudged _ _ _ (unjudged _ _ _ rfl)
    · exact unjudged _ _ _ rfl
    · exact unjudged _ _ _ (unjudged _ _ _ rfl)
  | decoderRequest =>
    rw [stateAfter_of_exec h]
    change idleKept _ (outputAt (if s.outputs.delivering.isSome then { s.outputs with requestHeld := true }
      else takeRequest s.outputs) k)
    split
    · exact idleKept_of_eq (by cases k <;> rfl)
    · exact idleKept_takeRequest s.outputs k
  | itemDeliveryComplete =>
    rw [stateAfter_of_exec h]
    change idleKept _ (outputAt (if s.outputs.delivering.isSome then
      s.setOutputs (completeDelivery s.outputs) else s).outputs k)
    have ended : outputAt { s.outputs with delivering := none, port := [] } k = outputAt s.outputs k := by
      cases k <;> rfl
    split
    · simp only [State.setOutputs_outputs, completeDelivery]
      split
      · rw [← ended]
        exact idleKept_takeRequest _ k
      · exact idleKept_of_eq ended
    · exact idleKept_of_eq rfl
  | tune =>
    refine request rfl fun f => ?_
    unfold unlessWaiting
    split
    · exact idleKept_of_eq rfl
    · exact idleKept_carryOutTune f (takeFrame f s) k
  | untune =>
    refine request rfl fun f => ?_
    unfold unlessWaiting
    split
    · exact idleKept_of_eq rfl
    · exact idleKept_carryOutUntune f (takeFrame f s) k
  | tuningAfterCell =>
    rw [stateAfter_of_exec h]
    change idleKept _ (outputAt (carryOutWaiting s).outputs k)
    unfold carryOutWaiting
    split
    · split_ifs
      · exact idleKept_of_eq rfl
      · exact idleKept_carryOutTune _ s k
      · exact idleKept_carryOutUntune _ s k
      · exact idleKept_of_eq rfl
    · exact idleKept_of_eq rfl
  | setOutput => exact request rfl fun f => idleKept_serveSetOutput f (takeFrame f s) k
  | softReset => exact request rfl fun f _ _ => .inr (by cases k <;> rfl)
  | _ => exact other (by simp [footprint])

/-- Settles O32: the request by its output, and `exec_idleKept` for every other command. -/
theorem untuneLeavesTheOutputIdle : Obligations.untuneLeavesTheOutputIdle := by
  refine ⟨fun s f h => ?_, fun c s t k h => exec_idleKept h k⟩
  have served := exec_untune_of_requested h
  refine ⟨fun bad => ?_, fun ix index free => ⟨fun idle => ?_, fun tuned => ?_⟩, fun ix index judged => ?_⟩
  · rw [served, if_neg (not_waitsForCell (by simp [bad]))]
    simp only [carryOutUntune, bad]
    rfl
  · rw [served, if_neg (not_waitsForCell_of_index index free),
      carryOutUntune_of_idle (s := takeFrame f s) index idle]
    rfl
  · rw [served, if_neg (not_waitsForCell_of_index index free),
      carryOutUntune_of_tuned (s := takeFrame f s) index tuned]
    rfl
  · rw [served, if_pos (waitsForCell_iff.mpr ⟨ix, index, judged⟩)]
    rfl

end Sys2Proof.Machine
end

section
/-! PROOFS. Verdicts at the outputs: the NO_SIGNAL markers of a lost feed (R3, R39), a verdict's continuity
check and item (R25, R31, R42, R47), and what of a cell reaches a queue (R26, R53, R72). -/

namespace Sys2Proof.Machine

/-! ### A verdict at both outputs (R25, R31, R47) -/

section
variable (j : Judging) (item : Item) (x : OutputStage)

theorem afterEvent_continuity : afterEvent (takesCell j) (takeContinuity j.cell.continuity) x =
    fun ix => checkedAt j ix (outputAt x ix) := by
  funext ix
  simp [afterEvent, takesCell, checkedAt]

theorem afterEvent_item : afterEvent (takesCell j) (admitItem item j.cell.continuity) x =
    fun ix => givenAt j item ix (outputAt x ix) := by
  funext ix
  simp [afterEvent, takesCell, givenAt]

/-- The continuity check and then the item. -/
theorem givenAt_checkedAt (ix : OutputIx) (o : Output) :
    givenAt j item ix (checkedAt j ix o) = shownAt j item ix o := by
  unfold givenAt checkedAt shownAt
  by_cases h : judgedFor j ix = true ∧ o.state ≠ .idle
  · have tuned : (takeContinuity j.cell.continuity o).state ≠ .idle :=
      mt (takeContinuity_idle_iff _ o).mp h.2
    rw [if_pos h, if_pos h, if_pos ⟨h.1, tuned⟩]
  · rw [if_neg h, if_neg h, if_neg h]

theorem giveContinuity_stageBecomes (insetFirst : Bool) :
    stageBecomes insetFirst (fun ix => checkedAt j ix (outputAt x ix)) x
      (giveContinuity insetFirst j x) := by
  have both := inOrder_stageBecomes (takesCell j) (takeContinuity j.cell.continuity) x insetFirst
  rw [← atNamed_eq] at both
  rw [afterEvent_continuity] at both
  exact both

theorem giveItem_stageBecomes (insetFirst : Bool) :
    stageBecomes insetFirst (fun ix => givenAt j item ix (outputAt x ix)) x
      (giveItem insetFirst j item x) := by
  have both := inOrder_stageBecomes (takesCell j) (admitItem item j.cell.continuity) x insetFirst
  rw [← atNamed_eq] at both
  rw [afterEvent_item] at both
  exact both

@[simp] theorem stageAfter_stageAfter (after after' : OutputIx → Output) :
    stageAfter after' (stageAfter after x) = stageAfter after' x := rfl

theorem givenAt_stageAfter_checkedAt : (fun ix => givenAt j item ix
      (outputAt (stageAfter (fun ix => checkedAt j ix (outputAt x ix)) x) ix)) =
    fun ix => shownAt j item ix (outputAt x ix) := by
  funext ix
  rw [outputAt_stageAfter, givenAt_checkedAt]

/-- The output that the continuity check made eligible takes the verdict item after the grant. -/
theorem giveItem_of_granted (insetFirst : Bool) {ix : OutputIx} {head : Item} {rest : List Item}
    (before : eligible (outputAt x ix) = false)
    (offers : eligible (checkedAt j ix (outputAt x ix)) = true) :
    giveItem insetFirst j item (granted ix head
        (headTaken rest (checkedAt j ix (outputAt x ix)))
        (stageAfter (fun ix => checkedAt j ix (outputAt x ix)) x)) =
      granted ix head
        (admitItem item j.cell.continuity (headTaken rest (checkedAt j ix (outputAt x ix))))
        (stageAfter (fun ix => shownAt j item ix (outputAt x ix)) x) := by
  have reached : judgedFor j ix = true ∧ (outputAt x ix).state ≠ .idle := by
    by_contra unreached
    rw [checkedAt, if_neg unreached, before] at offers
    cases offers
  have tuned : (headTaken rest (checkedAt j ix (outputAt x ix))).state ≠ .idle := by
    refine not_idle_headTaken ?_
    rw [checkedAt, if_pos reached]
    exact mt (takeContinuity_idle_iff _ _).mp reached.2
  rw [(giveItem_stageBecomes j item _ insetFirst).1 (.inl rfl)]
  refine outputStage_ext_at (fun k => ?_) rfl rfl rfl
  rw [outputAt_stageAfter]
  by_cases same : k = ix
  · subst same
    have atIx (o : Output) (y : OutputStage) : outputAt (granted k head o y) k = o := by
      cases k <;> rfl
    rw [atIx, atIx, givenAt, if_pos ⟨reached.1, tuned⟩]
  · have elsewhere (o : Output) (y : OutputStage) :
        outputAt (granted ix head o y) k = outputAt y k :=
      outputAt_setOutputAt_of_ne y o same
    rw [elsewhere, elsewhere, outputAt_stageAfter, outputAt_stageAfter, givenAt_checkedAt]

/-- A verdict at the outputs, as `judgedAs` states it. -/
theorem verdict_at_outputs (insetFirst gapInsetFirst : Bool) :
    let checked (ix : OutputIx) := checkedAt j ix (outputAt x ix)
    let shown (ix : OutputIx) := shownAt j item ix (outputAt x ix)
    let outs := giveItem insetFirst j item (giveContinuity gapInsetFirst j x)
    (nothingToGrant x → outs = stageAfter shown x) ∧
    (requestWaits x →
      (∀ ix head rest, eligibleFirst gapInsetFirst checked ix → (checked ix).queue = head :: rest →
        outs = granted ix head (admitItem item j.cell.continuity (headTaken rest (checked ix)))
          (stageAfter shown x)) ∧
      ((∀ ix, eligible (checked ix) = false) → answersWaiting insetFirst shown x outs)) := by
  obtain ⟨quiet, waits⟩ := giveContinuity_stageBecomes j x gapInsetFirst
  refine ⟨fun h => ?_, fun h => ⟨fun ix head rest first queue => ?_, fun none_offers => ?_⟩⟩
  · have quiet' := (giveItem_stageBecomes j item
      (stageAfter (fun ix => checkedAt j ix (outputAt x ix)) x) insetFirst).1 h
    rw [quiet h, quiet', givenAt_stageAfter_checkedAt, stageAfter_stageAfter]
  · have before : eligible (outputAt x ix) = false := by cases ix <;> simp [outputAt, h]
    rw [(waits h).1 ix head rest first queue]
    exact giveItem_of_granted j item x insetFirst before first.1
  · rw [(waits h).2 none_offers]
    obtain ⟨held, idle, _, _⟩ := h
    have waits' := (giveItem_stageBecomes j item
      (stageAfter (fun ix => checkedAt j ix (outputAt x ix)) x) insetFirst).2
        ⟨held, idle, none_offers .main, none_offers .inset⟩
    rw [givenAt_stageAfter_checkedAt] at waits'
    exact waits'

end

/-! ### The lost feed (R3, R13, R39) -/

theorem afterEvent_noSignal (x : OutputStage) :
    afterEvent isTuned (admitItem (.marker .noSignal) 0) x = fun ix =>
      if (outputAt x ix).state = .idle then outputAt x ix
      else admitItem (.marker .noSignal) 0 (outputAt x ix) := by
  funext ix
  by_cases h : (outputAt x ix).state = .idle <;> simp [afterEvent, isTuned, h]

/-! ### The cells on their way -/

theorem askBlocks_descrambler {j : Judging} {s t : State} {x : Judgement} (h : askBlocks j s = (x, t)) :
    t.descrambler = s.descrambler := by
  have := askBlocks_changes j s .descrambler (by simp)
  rwa [h] at this

/-- CELL_VERDICT leaves the cell in judging, ends it, or pauses it with its answer. -/
theorem cellVerdict_descrambler {order : VerdictOrder} {s t : State}
    (h : exec (.cellVerdict order) s = .next t) : t.descrambler = s.descrambler ∨
    ∃ j, s.descrambler.judging = some j ∧
      (t.descrambler = { s.descrambler with judging := none } ∨
        (j.answered = false ∧ (∃ i u, askBlocks j s = (.presentable i, u)) ∧
          t.descrambler = { s.descrambler with judging := some { j with answered := true } })) := by
  obtain e | ⟨j, hj, _, e⟩ | ⟨j, hj, fresh, ⟨item, u, asked, e⟩ | ⟨i, u, asked, _, e⟩ |
      ⟨i, u, asked, _, e⟩⟩ := execCellVerdict_cases order s <;>
    rw [Host.Outcome.next.inj (h.symm.trans e)]
  · exact .inl rfl
  · refine .inr ⟨j, hj, .inl ?_⟩
    simp only [finishVerdict, leaveJudging_descrambler]
    rw [show (reportAnswered _ s).descrambler = _ from reportAnswered_changes _ s .descrambler (by simp)]
  · refine .inr ⟨j, hj, .inl ?_⟩
    rw [leaveJudging_descrambler, askBlocks_descrambler asked]
  · refine .inr ⟨j, hj, .inr ⟨fresh, ⟨i, u, asked⟩, ?_⟩⟩
    rw [leaveJudging_descrambler, markReference,
      show (changeEntry i _ u).descrambler = _ from changeEntry_changes _ _ u .descrambler (by simp),
      askBlocks_descrambler asked]
  · refine .inr ⟨j, hj, .inl ?_⟩
    simp only [finishVerdict, leaveJudging_descrambler, reportPresented]
    rw [show (changeEntry i _ u).descrambler = _ from changeEntry_changes _ _ u .descrambler (by simp),
      askBlocks_descrambler asked]

/-- FEED_SECOND_CLOSE takes one boundary from before the cells on their way. -/
theorem feedSecondClose_descrambler {s t : State} (h : exec .feedSecondClose s = .next t) :
    t.descrambler = s.descrambler ∨ (closeReady s.descrambler = true ∧ t.descrambler = {
      handedOn := s.descrambler.handedOn.map fun h => { h with closesAhead := h.closesAhead - 1 }
      judging := s.descrambler.judging.map fun j => { j with closesAhead := j.closesAhead - 1 } }) := by
  obtain e | ⟨_, ready, e⟩ := execFeedSecondClose_cases s <;>
    rw [Host.Outcome.next.inj (h.symm.trans e)]
  · exact .inl rfl
  · refine .inr ⟨ready, ?_⟩
    exact closeSecond_changes _ (closeTaken s) .descrambler (by simp)

/-- The cells on their way in `d'` are some of those in `d`: the one in judging, and either none or all of
those handed on. -/
def sameCells (d d' : Descrambler) : Prop :=
  (∀ j, d'.judging = some j → ∃ before, d.judging = some before ∧ before.cell = j.cell) ∧
    (d'.handedOn = [] ∨ d'.handedOn.map (·.cell) = d.handedOn.map (·.cell))

theorem sameCells_of_eq {d d' : Descrambler} (e : d' = d) : sameCells d d' :=
  ⟨fun j hj => ⟨j, by rwa [← e], rfl⟩, .inr (by rw [e])⟩

/-- In NO_FEED no command hands a cell on, and none makes one reach the Cell Descrambler (R3). -/
theorem exec_sameCells_of_noFeed {c : Instr} {s t : State} (noFeed : s.feed.state = .noFeed)
    (h : exec c s = .next t) : sameCells s.descrambler t.descrambler := by
  cases c with
  | powerOnReset a b =>
    rw [stateAfter_of_exec h]
    exact ⟨nofun, .inl rfl⟩
  | feedByte b =>
    refine sameCells_of_eq ?_
    rw [Host.Outcome.next.inj (h.symm.trans ((aByteJoinsTheOpenSlot b s).1 (by simp [noFeed])))]
  | cellArrival =>
    obtain e | ⟨_, _, _, _, feed, _⟩ := execCellArrival_cases s
    · exact sameCells_of_eq (by rw [Host.Outcome.next.inj (h.symm.trans e)])
    · exact absurd noFeed feed
  | cellVerdict order =>
    obtain e | ⟨j, hj, e | ⟨_, _, e⟩⟩ := cellVerdict_descrambler h
    · exact sameCells_of_eq e
    · exact e ▸ ⟨nofun, .inr rfl⟩
    · rw [e]
      refine ⟨?_, .inr rfl⟩
      rintro _ ⟨⟩
      exact ⟨j, hj, rfl⟩
  | feedSecondClose =>
    obtain e | ⟨_, e⟩ := feedSecondClose_descrambler h
    · exact sameCells_of_eq e
    · rw [e]
      refine ⟨fun j hj => ?_, .inr (by simp)⟩
      obtain ⟨before, hb, rfl⟩ := Option.map_eq_some_iff.mp hj
      exact ⟨before, hb, rfl⟩
  | _ => exact sameCells_of_eq (exec_agree h .descrambler (by simp [footprint]))

/-- Settles O23: the markers are an event at both outputs, and no cell moves in NO_FEED. -/
theorem theFeedIsLost : Obligations.theFeedIsLost := by
  refine ⟨fun insetFirst s d timer => ?_, fun c s t noFeed h => exec_sameCells_of_noFeed noFeed h⟩
  have both := inOrder_stageBecomes isTuned (admitItem (.marker .noSignal) 0) s.outputs insetFirst
  rw [← giveNoSignal_eq, afterEvent_noSignal] at both
  refine ⟨giveNoSignal insetFirst s.outputs, congrArg Host.Outcome.next ?_, fun ix idle => ?_, both.1, both.2⟩
  · simp only [loseFeed, timer]
    rfl
  · rw [giveNoSignal_eq]
    exact outputAt_inOrder_of_not_takes insetFirst (by simp [isTuned, idle])

/-! ### The verdict of a cell of no film, or above the ceiling (R26 to R31) -/

theorem descramble_of_no_key {c : Cell} (mode : c.mode = .even ∨ c.mode = .odd) :
    descramble c none = .marker .keyMissing := by
  rcases mode with mode | mode <;> simp [descramble, clearWords, modeParity, mode]

theorem exec_cellVerdict_of_fresh {order : VerdictOrder} {s : State} {j : Judging}
    (hj : s.descrambler.judging = some j) (fresh : j.answered = false)
    (ready : j.cell.film = 0 ∨ j.closesAhead = 0) :
    exec (.cellVerdict order) s = .next (judgeCell order j s) := by
  have notWaiting : ¬ (j.cell.film ≠ 0 ∧ j.closesAhead ≠ 0) := by omega
  refine congrArg Host.Outcome.next ?_
  simp only [hj, if_neg notWaiting, fresh, Bool.false_eq_true, if_false]

/-- A cell whose item steps 3 and 4 decide, with the entitlements they leave. -/
theorem judgedAs_of_decided {order : VerdictOrder} {s : State} {j : Judging} {item : Item}
    {entries : List (Option Entry)} (hj : s.descrambler.judging = some j) (fresh : j.answered = false)
    (ready : j.cell.film = 0 ∨ j.closesAhead = 0)
    (asked : askBlocks j s =
      (.decided item, s.setFolio { s.folio with entries := entries })) :
    judgedAs order s j item entries := by
  refine ⟨_, ?_, verdict_at_outputs j item s.outputs order.insetFirst order.gapInsetFirst⟩
  rw [exec_cellVerdict_of_fresh hj fresh ready, judgeCell, asked]
  rfl

theorem askBlocks_of_locked {j : Judging} {s : State} (high : effectiveCeiling s.gate < j.cell.rating) :
    askBlocks j s = (.decided (.marker .locked), s) := by
  simp only [askBlocks, if_pos high]

theorem askBlocks_of_no_film {j : Judging} {s : State} (low : j.cell.rating ≤ effectiveCeiling s.gate)
    (noFilm : j.cell.film = 0) : askBlocks j s = (.decided (descramble j.cell j.key), s) := by
  simp only [askBlocks, if_neg low.not_gt, if_pos noFilm]

/-- A fresh verdict ends at the continuity check, or goes on to an item. -/
theorem judgeCell_outputs (order : VerdictOrder) (j : Judging) (s : State) :
    let checked := giveContinuity order.gapInsetFirst j s.outputs
    (judgeCell order j s).outputs = checked ∨
      ∃ item, (judgeCell order j s).outputs = giveItem order.insetFirst j item checked := by
  unfold judgeCell
  dsimp only
  split
  · exact .inr ⟨_, rfl⟩
  · split
    · exact .inl rfl
    · exact .inr ⟨_, rfl⟩

theorem bytesOf_wordsOf {bs : List Byte} (h : bs.length % 4 = 0) : bytesOf (wordsOf bs) = bs := by
  induction bs using wordsOf.induct with
  | case1 a b c d rest ih =>
    have whole : rest.length % 4 = 0 := by simp only [List.length_cons] at h; omega
    calc bytesOf (wordsOf (a :: b :: c :: d :: rest))
        = wordBytes (bytesWord [a, b, c, d]) ++ bytesOf (wordsOf rest) := rfl
      _ = a :: b :: c :: d :: rest := by
        have word : wordBytes (bytesWord [a, b, c, d]) = [a, b, c, d] := by
          rw [bytesWord_eq_append, wordBytes]
          simp only [List.cons.injEq, and_true]
          refine ⟨?_, ?_, ?_, ?_⟩ <;>
          · apply BitVec.eq_of_toNat_eq
            simp only [BitVec.extractLsb'_toNat, toNat_append_byte, Nat.shiftRight_eq_div_pow]
            omega
        rw [ih whole, word]; rfl
  | case2 bs short =>
    match bs, short with
    | [], _ => rfl
    | [_], _ | [_, _], _ | [_, _, _], _ => simp at h
    | a :: b :: c :: d :: rest, short => exact absurd rfl (short a b c d rest)

/-- While a request waits, the only output that the continuity check makes eligible is granted its head
item. -/
theorem giveContinuity_of_offers {j : Judging} {x : OutputStage} {ix : OutputIx} (insetFirst : Bool)
    (waits : requestWaits x) (offers : eligible (checkedAt j ix (outputAt x ix)) = true)
    (alone : ∀ k, k ≠ ix → eligible (checkedAt j k (outputAt x k)) = false) :
    ∃ head rest, (checkedAt j ix (outputAt x ix)).queue = head :: rest ∧
      giveContinuity insetFirst j x =
        granted ix head (headTaken rest (checkedAt j ix (outputAt x ix)))
          (stageAfter (fun k => checkedAt j k (outputAt x k)) x) := by
  obtain ⟨head, rest, queue⟩ := exists_head_of_eligible offers
  refine ⟨head, rest, queue, ?_⟩
  refine ((giveContinuity_stageBecomes j x insetFirst).2 waits).1 ix head rest ⟨offers, ?_⟩ queue
  intro k other eligibleToo
  rw [alone k other] at eligibleToo
  cases eligibleToo

/-- An output that takes no continuity value is left as it is. -/
theorem shownAt_of_not_judged {j : Judging} {ix : OutputIx} (h : judgedFor j ix = false) (item : Item)
    (o : Output) : shownAt j item ix o = o :=
  if_neg (by simp [h])

/-- A CELL that comes next at a RUNNING output with room for it. -/
theorem shownAt_of_running {j : Judging} {ix : OutputIx} {o : Output} (item : Item)
    (named : judgedFor j ix = true) (running : o.state = .running) (noGap : o.gapOwed = false)
    (room : o.queue.length < 8) (cell : isIntact item = true)
    (expects : o.expected = none ∨ o.expected = some j.cell.continuity) :
    shownAt j item ix o =
      { o with queue := o.queue ++ [item], expected := some ((j.cell.continuity + 1) % 256) } := by
  have next : takeContinuity j.cell.continuity o =
      { o with expected := some ((j.cell.continuity + 1) % 256) } := by
    rcases expects with e | e <;> simp [takeContinuity, e]
  have notMarker : collapsesInto o.queue.getLast? item = false := by
    cases item with
    | marker => cases cell
    | cell => rfl
  rw [shownAt, if_pos ⟨named, by simp [running]⟩, next]
  simp [admitItem, noGap, notMarker, room, appendItems, fillTest, running]

/-- Settles O26: a decided verdict is the continuity check and then the item, each an event at both
outputs. -/
theorem aClearCellReachesItsOutput : Obligations.aClearCellReachesItsOutput := by
  refine ⟨fun order s j hj fresh ready => ?_, fun order s j ix hj fresh noFilm low mode whole sumMatches
    named running noGap room notHeld expects => ?_, fun order s t j ix other hj fresh ready h held idle
    distinct mainOut insetOut => ?_⟩
  · dsimp only
    refine ⟨fun high => judgedAs_of_decided hj fresh ready (askBlocks_of_locked high), fun low noFilm => ?_⟩
    have asked := askBlocks_of_no_film (s := s) low noFilm
    refine ⟨fun mode noKey => ?_, fun ws clear => ⟨fun same => ?_, fun differs => ?_⟩⟩
    · rw [noKey, descramble_of_no_key mode] at asked
      exact judgedAs_of_decided hj fresh ready asked
    · simp only [descramble, clear, if_pos same, noFilm] at asked
      exact judgedAs_of_decided hj fresh ready asked
    · simp only [descramble, clear, if_neg differs] at asked
      exact judgedAs_of_decided hj fresh ready asked
  · have mine : judgedFor j ix = true := by cases ix <;> simp_all [judgedFor]
    have notOther : judgedFor j (otherOutput ix) = false := by
      cases ix <;> simp_all [judgedFor, otherOutput]
    have clear : clearWords j.cell j.key = some (wordsOf j.cell.payload) := by
      simp [clearWords, modeParity, mode]
    have asked := askBlocks_of_no_film low noFilm
    simp only [descramble, clear, if_pos sumMatches, noFilm, bytesOf_wordsOf (by rw [whole] :
      j.cell.payload.length % 4 = 0)] at asked
    obtain ⟨outs, ran, quiet, -⟩ := judgedAs_of_decided (order := order) hj fresh (.inl noFilm) asked
    rw [ran, quiet (.inl notHeld)]
    have takes := shownAt_of_running (.cell j.cell.service 0 j.cell.payload) mine running noGap room rfl
      expects
    have leaves := shownAt_of_not_judged notOther (.cell j.cell.service 0 j.cell.payload)
      (outputAt s.outputs (otherOutput ix))
    congr 2
    cases ix
    · exact outputStage_ext_at (fun | .main => takes | .inset => leaves) rfl rfl rfl
    · exact outputStage_ext_at (fun | .inset => takes | .main => leaves) rfl rfl rfl
  · dsimp only
    intro ⟨named, tuned, offers⟩ notOffers
    have mine : checkedAt j ix (outputAt s.outputs ix) =
        takeContinuity j.cell.continuity (outputAt s.outputs ix) := if_pos ⟨named, tuned⟩
    have notEligible (k : OutputIx) : eligible (outputAt s.outputs k) = false := by
      cases k
      · exact mainOut
      · exact insetOut
    have alone (k : OutputIx) (hk : k ≠ ix) : eligible (checkedAt j k (outputAt s.outputs k)) = false := by
      have isOther : k = other := ((eq_or_eq_other ix k).resolve_left hk).trans
        ((eq_or_eq_other ix other).resolve_left distinct.symm).symm
      subst isOther
      unfold checkedAt
      split
      · rename_i reached
        exact Bool.eq_false_iff.mpr fun e => notOffers ⟨reached.1, reached.2, e⟩
      · exact notEligible k
    rw [← mine] at offers ⊢
    obtain ⟨head, rest, queue, grants⟩ := giveContinuity_of_offers order.gapInsetFirst
      ⟨held, idle, mainOut, insetOut⟩ offers alone
    refine ⟨head, by rw [queue]; rfl, ?_⟩
    rw [exec_cellVerdict_of_fresh hj fresh ready] at h
    rw [← Host.Outcome.next.inj h]
    obtain e | ⟨item, e⟩ := judgeCell_outputs order j s <;> rw [e, grants]
    · exact ⟨rfl, rfl, rfl⟩
    · rw [giveItem_of_granted j item s.outputs _ (notEligible ix) offers]
      exact ⟨rfl, rfl, rfl⟩

end Sys2Proof.Machine
end

section
/-! PROOFS. Verdicts of film cells: the entry that answers, the place a new one takes and the one flag a
verdict sets (R68, R71 to R75), and what of a cell reaches a queue (R26, R53, R72). -/

namespace Sys2Proof.Machine

/-! ### The place of a new entry (R68, R73, R74) -/

section
variable {es : List (Option Entry)} {i : Nat}

theorem placeOf_eq_placeWhere (es : List (Option Entry)) (film : Nat) :
    placeOf es film = placeWhere (fun e => e.film == film) es := rfl

theorem entryAt_eq_some_iff {f : Folio} {e : Entry} :
    entryAt f i = some e ↔ f.entries[i]? = some (some e) := by
  rw [entryAt, List.getD_eq_getElem?_getD]
  cases f.entries[i]? <;> simp

theorem evictable_iff (e : Entry) : evictable e = true ↔
    e.state = .preview ∧ e.seenClear = false ∧ e.seenFail = false := by
  simp [evictable, and_assoc]

/-- The values of last presented among the entries that can be evicted. -/
def evictableSeconds (es : List (Option Entry)) : List Nat :=
  ((liveEntries es).filter evictable).map (·.lastPresented)

theorem mem_evictableSeconds_iff {second : Nat} : second ∈ evictableSeconds es ↔
    ∃ (i : Nat) (e : Entry), es[i]? = some (some e) ∧ evictable e = true ∧ e.lastPresented = second := by
  simp only [evictableSeconds, List.mem_map, List.mem_filter]
  constructor
  · rintro ⟨e, ⟨live, ev⟩, rfl⟩
    obtain ⟨i, place⟩ := mem_occupants_iff.mp live
    exact ⟨i, e, place, ev, rfl⟩
  · rintro ⟨i, e, place, ev, rfl⟩
    exact ⟨e, ⟨mem_occupants_iff.mpr ⟨i, place⟩, ev⟩, rfl⟩

theorem evictPlace_eq (es : List (Option Entry)) : evictPlace es =
    (evictableSeconds es).min?.bind fun m =>
      placeWhere (fun e => evictable e && e.lastPresented == m) es := by
  unfold evictPlace evictableSeconds
  cases (((liveEntries es).filter evictable).map (·.lastPresented)).min? <;> rfl

/-- The evictable entry presented longest ago goes, the lowest-numbered place first. -/
theorem evictPlace_eq_some_iff : evictPlace es = some i ↔ ∃ second,
    (∃ e, es[i]? = some (some e) ∧ evictable e = true ∧ e.lastPresented = second) ∧
    (∀ (k : Nat) e, es[k]? = some (some e) → evictable e = true → second ≤ e.lastPresented) ∧
    (∀ (k : Nat) e, k < i → es[k]? = some (some e) → evictable e = true →
      e.lastPresented ≠ second) := by
  simp only [evictPlace_eq, Option.bind_eq_some_iff, List.min?_eq_some_iff, placeWhere_eq_some_iff,
    mem_evictableSeconds_iff, Bool.and_eq_true, beq_iff_eq, Bool.and_eq_false_imp, beq_eq_false_iff_ne]
  constructor
  · rintro ⟨second, ⟨_, least⟩, here, first⟩
    exact ⟨second, here, fun k e he ev => least _ ⟨k, e, he, ev, rfl⟩, first⟩
  · rintro ⟨second, ⟨e, he, ev, rfl⟩, least, first⟩
    refine ⟨_, ⟨⟨i, e, he, ev, rfl⟩, ?_⟩, ⟨e, he, ev, rfl⟩, first⟩
    rintro _ ⟨k, e', he', ev', rfl⟩
    exact least k e' he' ev'

theorem evictPlace_eq_none_iff : evictPlace es = none ↔
    ∀ (k : Nat) e, es[k]? = some (some e) → evictable e = false := by
  constructor
  · intro h k e he
    by_contra ev
    rw [Bool.not_eq_false] at ev
    have some_second : e.lastPresented ∈ evictableSeconds es :=
      mem_evictableSeconds_iff.mpr ⟨k, e, he, ev, rfl⟩
    obtain ⟨m, hm⟩ := List.isSome_min?_of_mem some_second |> Option.isSome_iff_exists.mp
    obtain ⟨i, e', he', ev', rfl⟩ := mem_evictableSeconds_iff.mp (List.min?_mem hm)
    rw [evictPlace_eq, hm, Option.bind_some, placeWhere_eq_none_iff] at h
    simpa [ev'] using h i e' he'
  · intro h
    have none_left : evictableSeconds es = [] := List.eq_nil_iff_forall_not_mem.mpr fun second mem => by
      obtain ⟨k, e, he, ev, _⟩ := mem_evictableSeconds_iff.mp mem
      rw [h k e he] at ev
      cases ev
    rw [evictPlace_eq, none_left]
    rfl

theorem newPlace_of_free (free : es[i]? = some none) (first : ∀ k : Nat, k < i → es[k]? ≠ some none) :
    newPlace es = some i := by
  rw [newPlace, freePlace, findIdx?_isNone_eq_some_iff.mpr ⟨free, first⟩]
  rfl

theorem newPlace_of_full (full : ∀ k : Nat, es[k]? ≠ some none) : newPlace es = evictPlace es := by
  rw [newPlace, freePlace, findIdx?_isNone_eq_none_iff.mpr full]
  rfl

/-- A new entry takes a place of the table. -/
theorem lt_of_newPlace (h : newPlace es = some i) : i < es.length := by
  unfold newPlace freePlace at h
  rcases Option.or_eq_some_iff.mp h with free | ⟨_, evicted⟩
  · exact (List.getElem?_eq_some_iff.mp (findIdx?_isNone_eq_some_iff.mp free).1).1
  · obtain ⟨_, ⟨e, he, _⟩, _⟩ := evictPlace_eq_some_iff.mp evicted
    exact (List.getElem?_eq_some_iff.mp he).1

end

/-! ### The entry that answers (R71 to R73) -/

section
variable {s : State} {film i : Nat}

theorem placeForFilm_of_entry (here : placeOf s.folio.entries film = some i) :
    placeForFilm film s = some (i, s) := by
  simp only [placeForFilm, here]

theorem placeForFilm_of_new (absent : placeOf s.folio.entries film = none)
    (place : newPlace s.folio.entries = some i) :
    placeForFilm film s = some (i, setEntry i (some (newEntry film s.folio.feedSecond)) s) := by
  simp only [placeForFilm, absent, place]

theorem placeForFilm_of_full (absent : placeOf s.folio.entries film = none)
    (full : newPlace s.folio.entries = none) : placeForFilm film s = none := by
  simp only [placeForFilm, absent, full]

theorem entryAt_setEntry_self (hi : i < s.folio.entries.length) (o : Option Entry) :
    entryAt (setEntry i o s).folio i = o := by
  simp [entryAt, setEntry, List.getD_eq_getElem?_getD, hi]

theorem askFilm_of_entry {barred : Bool} {e : Entry} (occupied : s.stay.room = .occupied)
    (here : placeOf s.folio.entries film = some i) (entry : entryAt s.folio i = some e) :
    askFilm film barred s = (answerFromEntry s.stay.previewAllowance barred i e, s) := by
  simp only [askFilm, occupied, ne_eq, not_true_eq_false, if_false, placeForFilm_of_entry here, entry]

theorem askFilm_of_new {barred : Bool} (occupied : s.stay.room = .occupied)
    (absent : placeOf s.folio.entries film = none) (place : newPlace s.folio.entries = some i) :
    askFilm film barred s =
      (answerFromEntry s.stay.previewAllowance barred i (newEntry film s.folio.feedSecond),
        setEntry i (some (newEntry film s.folio.feedSecond)) s) := by
  simp only [askFilm, occupied, ne_eq, not_true_eq_false, if_false, placeForFilm_of_new absent place,
    entryAt_setEntry_self (lt_of_newPlace place)]
  rfl

theorem askFilm_of_full {barred : Bool} (absent : placeOf s.folio.entries film = none)
    (full : newPlace s.folio.entries = none) : askFilm film barred s = (.notEntitled, s) := by
  simp only [askFilm, placeForFilm_of_full absent full, ite_self]

theorem askFilm_of_not_occupied {barred : Bool} (empty : s.stay.room ≠ .occupied) :
    askFilm film barred s = (.notEntitled, s) := if_pos empty

end

theorem answerFromEntry_eq_presentable_iff {allowance i k : Nat} {barred : Bool} {e : Entry} :
    answerFromEntry allowance barred i e = .presentable k ↔
      k = i ∧ entryShows allowance barred e = true := by
  unfold answerFromEntry entryShows
  cases e.state <;> simp
  · split <;> [skip; split] <;> simp_all [eq_comm]
  all_goals exact eq_comm

/-! ### The verdict of a film cell (R27, R32, R75) -/

/-- What the Folio Unit's answer means for the cell (R27). -/
def judgementOf : FilmAnswer → Judgement
  | .notEntitled => .decided (.marker .notEntitled)
  | .previewEnded => .decided (.marker .previewEnded)
  | .presentable i => .presentable i

section
variable {order : VerdictOrder} {s : State} {j : Judging} {entries : List (Option Entry)}

theorem askBlocks_of_film {answer : FilmAnswer} {t : State} (low : j.cell.rating ≤ effectiveCeiling s.gate)
    (film : j.cell.film ≠ 0) (asked : askFilm j.cell.film j.cell.barred s = (answer, t)) :
    askBlocks j s = (judgementOf answer, t) := by
  simp only [askBlocks, if_neg low.not_gt, if_neg film, asked]
  cases answer <;> rfl

theorem changeEntry_of_entry {i : Nat} {e : Entry} (change : Entry → Entry)
    (entry : s.folio.entries[i]? = some (some e)) :
    changeEntry i change s = setEntry i (some (change e)) s := by
  simp only [changeEntry, entryAt_eq_some_iff.mpr entry]

/-- A presentable cell gets its answer and waits, with the mark at the entry that answered. -/
theorem answeredWith_of_presentable {i : Nat} {e : Entry} (hj : s.descrambler.judging = some j)
    (fresh : j.answered = false) (ready : j.cell.film = 0 ∨ j.closesAhead = 0)
    (asked : askBlocks j s = (.presentable i, s.setFolio { s.folio with entries := entries }))
    (entry : entries[i]? = some (some e)) (pauses : order.pausesAfterAnswer = true) :
    answeredWith order s j (entries.set i (some { e with answered := true })) := by
  refine ⟨_, ?_, giveContinuity_stageBecomes j s.outputs order.gapInsetFirst⟩
  rw [exec_cellVerdict_of_fresh hj fresh ready, judgeCell, asked]
  dsimp only
  rw [if_pos pauses, markReference, changeEntry_of_entry _ entry]
  rfl

/-- A presentable cell gets its verdict at once, which sets a flag of the entry that answered. -/
theorem judgedAs_of_presentable {i : Nat} {e : Entry} (hj : s.descrambler.judging = some j)
    (fresh : j.answered = false) (ready : j.cell.film = 0 ∨ j.closesAhead = 0)
    (asked : askBlocks j s = (.presentable i, s.setFolio { s.folio with entries := entries }))
    (entry : entries[i]? = some (some e)) (goesOn : order.pausesAfterAnswer = false) :
    let item := descramble j.cell j.key
    judgedAs order s j item (entries.set i (some (flagPresented (isIntact item) e))) := by
  refine ⟨_, ?_, verdict_at_outputs j (descramble j.cell j.key) s.outputs order.insetFirst
    order.gapInsetFirst⟩
  rw [exec_cellVerdict_of_fresh hj fresh ready, judgeCell, asked]
  dsimp only
  rw [if_neg (by simp [goesOn]), finishVerdict, reportPresented, changeEntry_of_entry _ entry]
  rfl

/-- The verdict of a cell that has its answer returns along the mark. -/
theorem exec_cellVerdict_of_answered (hj : s.descrambler.judging = some j) (answered : j.answered = true)
    (ready : j.cell.film = 0 ∨ j.closesAhead = 0) : exec (.cellVerdict order) s =
      .next (finishVerdict order.insetFirst j s.outputs reportAnswered s) := by
  have notWaiting : ¬ (j.cell.film ≠ 0 ∧ j.closesAhead ≠ 0) := by omega
  refine congrArg Host.Outcome.next ?_
  simp only [hj, if_neg notWaiting, answered, if_true]

theorem finishedAs_of_answered (hj : s.descrambler.judging = some j) (answered : j.answered = true)
    (ready : j.cell.film = 0 ∨ j.closesAhead = 0)
    (reported : reportAnswered (isIntact (descramble j.cell j.key)) s =
      s.setFolio { s.folio with entries := entries }) :
    finishedAs order s j (descramble j.cell j.key) entries := by
  refine ⟨_, ?_, giveItem_stageBecomes j (descramble j.cell j.key) s.outputs order.insetFirst⟩
  rw [exec_cellVerdict_of_answered hj answered ready, finishVerdict, reported]
  rfl

theorem reportAnswered_of_first {i : Nat} {e : Entry} (intact : Bool)
    (here : s.folio.entries[i]? = some (some e)) (marked : e.answered = true)
    (first : ∀ (k : Nat) e', k < i → s.folio.entries[k]? = some (some e') → e'.answered = false) :
    reportAnswered intact s =
      setEntry i (some { flagPresented intact e with answered := false }) s := by
  have place : answeredPlace s.folio.entries = some i :=
    placeWhere_eq_some_iff.mpr ⟨⟨e, here, marked⟩, first⟩
  simp only [reportAnswered, place, changeEntry_of_entry _ here]

theorem reportAnswered_of_none (intact : Bool)
    (unmarked : ∀ (k : Nat) e, s.folio.entries[k]? = some (some e) → e.answered = false) :
    reportAnswered intact s = s := by
  have noPlace : answeredPlace s.folio.entries = none := placeWhere_eq_none_iff.mpr unmarked
  simp only [reportAnswered, noPlace]

theorem descramble_of_clear {ws : List Word} (clear : clearWords j.cell j.key = some ws) :
    (xorWords ws = j.cell.check →
      descramble j.cell j.key = .cell j.cell.service j.cell.film (bytesOf ws)) ∧
    (xorWords ws ≠ j.cell.check → descramble j.cell j.key = .marker .checkFail) := by
  simp only [descramble, clear]
  exact ⟨fun same => if_pos same, fun differs => if_neg differs⟩

/-- A fresh film cell within the ceiling, no boundary ahead of it. -/
structure FilmCellInJudging (s : State) (j : Judging) : Prop where
  judging : s.descrambler.judging = some j
  fresh : j.answered = false
  film : j.cell.film ≠ 0
  ready : j.closesAhead = 0
  low : j.cell.rating ≤ effectiveCeiling s.gate

/-- What a cell found presentable does, at an entry `e` of place `i` (R27, R32, R75). -/
def showsAt (order : VerdictOrder) (s : State) (j : Judging) (i : Nat) (e : Entry) : Prop :=
  let es := s.folio.entries
  let clear := es.set i (some { e with seenClear := true })
  let failed := es.set i (some { e with seenFail := true })
  (order.pausesAfterAnswer = true →
    answeredWith order s j (es.set i (some { e with answered := true }))) ∧
  (order.pausesAfterAnswer = false → (j.cell.mode = .even ∨ j.cell.mode = .odd) → j.key = none →
    judgedAs order s j (.marker .keyMissing) failed) ∧
  (∀ ws, order.pausesAfterAnswer = false → clearWords j.cell j.key = some ws →
    (xorWords ws = j.cell.check →
      judgedAs order s j (.cell j.cell.service j.cell.film (bytesOf ws)) clear) ∧
    (xorWords ws ≠ j.cell.check → judgedAs order s j (.marker .checkFail) failed))

theorem showsAt_of_presentable {i : Nat} {e : Entry} (c : FilmCellInJudging s j)
    (asked : askBlocks j s = (.presentable i, s.setFolio { s.folio with entries := entries }))
    (entry : entries[i]? = some (some e)) (covers : ∀ o, entries.set i o = s.folio.entries.set i o) :
    showsAt order s j i e := by
  refine ⟨fun pauses => ?_, fun goesOn mode noKey => ?_, fun ws goesOn clear => ?_⟩
  · rw [← covers]
    exact answeredWith_of_presentable c.judging c.fresh (.inr c.ready) asked entry pauses
  · have judged := judgedAs_of_presentable c.judging c.fresh (.inr c.ready) asked entry goesOn
    simp only [noKey, descramble_of_no_key mode, covers] at judged
    exact judged
  · have judged := judgedAs_of_presentable c.judging c.fresh (.inr c.ready) asked entry goesOn
    obtain ⟨intact, failed⟩ := descramble_of_clear clear
    refine ⟨fun same => ?_, fun differs => ?_⟩
    · simp only [intact same, covers] at judged
      exact judged
    · simp only [failed differs, covers] at judged
      exact judged

/-- A film with no entry, and a place for one: the new entry answers. -/
theorem answers_of_new {i : Nat} (c : FilmCellInJudging s j) (occupied : s.stay.room = .occupied)
    (absent : placeOf s.folio.entries j.cell.film = none) (place : newPlace s.folio.entries = some i) :
    let fresh := newEntry j.cell.film s.folio.feedSecond
    (s.stay.previewAllowance = 0 →
      judgedAs order s j (.marker .previewEnded) (s.folio.entries.set i (some fresh))) ∧
    (0 < s.stay.previewAllowance → j.cell.barred = true →
      judgedAs order s j (.marker .notEntitled) (s.folio.entries.set i (some fresh))) ∧
    (0 < s.stay.previewAllowance → j.cell.barred = false → showsAt order s j i fresh) := by
  dsimp only
  have asked := askBlocks_of_film c.low c.film
    (askFilm_of_new (barred := j.cell.barred) occupied absent place)
  refine ⟨fun zero => ?_, fun positive barred => ?_, fun positive notBarred => ?_⟩
  · have answer : answerFromEntry s.stay.previewAllowance j.cell.barred i
        (newEntry j.cell.film s.folio.feedSecond) = .previewEnded := by
      simp [answerFromEntry, newEntry, zero]
    rw [answer] at asked
    exact judgedAs_of_decided c.judging c.fresh (.inr c.ready) asked
  · have answer : answerFromEntry s.stay.previewAllowance j.cell.barred i
        (newEntry j.cell.film s.folio.feedSecond) = .notEntitled := by
      simp [answerFromEntry, newEntry, barred]; omega
    rw [answer] at asked
    exact judgedAs_of_decided c.judging c.fresh (.inr c.ready) asked
  · have answer : answerFromEntry s.stay.previewAllowance j.cell.barred i
        (newEntry j.cell.film s.folio.feedSecond) = .presentable i :=
      answerFromEntry_eq_presentable_iff.mpr ⟨rfl, by simp [entryShows, newEntry, notBarred, positive]⟩
    rw [answer] at asked
    exact showsAt_of_presentable c asked (by simp [lt_of_newPlace place])
      fun o => List.set_set _

/-- The entry of the film answers. -/
theorem answers_of_entry {i : Nat} {e : Entry} (c : FilmCellInJudging s j)
    (occupied : s.stay.room = .occupied) (here : placeOf s.folio.entries j.cell.film = some i)
    (entry : entryAt s.folio i = some e) :
    let es := s.folio.entries
    (entryShows s.stay.previewAllowance j.cell.barred e = true → showsAt order s j i e) ∧
    (e.state = .preview → s.stay.previewAllowance ≤ e.previewUsed →
      judgedAs order s j (.marker .previewEnded) es) ∧
    (e.state = .preview → e.previewUsed < s.stay.previewAllowance → j.cell.barred = true →
      judgedAs order s j (.marker .notEntitled) es) ∧
    (e.state = .settling → judgedAs order s j (.marker .notEntitled) es) := by
  dsimp only
  have asked := askBlocks_of_film c.low c.film (askFilm_of_entry (barred := j.cell.barred) occupied here entry)
  have decided {item : Item} (h : askBlocks j s = (.decided item, s)) :
      judgedAs order s j item s.folio.entries :=
    judgedAs_of_decided c.judging c.fresh (.inr c.ready) h
  refine ⟨fun may => ?_, fun preview used => ?_, fun preview left barred => ?_, fun settling => ?_⟩
  · rw [answerFromEntry_eq_presentable_iff.mpr ⟨rfl, may⟩] at asked
    exact showsAt_of_presentable c asked (entryAt_eq_some_iff.mp entry) fun _ => rfl
  · simp only [answerFromEntry, preview, if_pos used] at asked
    exact decided asked
  · simp only [answerFromEntry, preview, if_neg left.not_ge, barred, if_true] at asked
    exact decided asked
  · simp only [answerFromEntry, settling] at asked
    exact decided asked

/-- The verdict of an answered cell: the first entry marked takes its flag, or none does. -/
theorem ends_of_answered (hj : s.descrambler.judging = some j) (answered : j.answered = true)
    (ready : j.cell.film = 0 ∨ j.closesAhead = 0) :
    let es := s.folio.entries
    let item := descramble j.cell j.key
    (∀ (i : Nat) e, es[i]? = some (some e) → e.answered = true →
      (∀ (k : Nat) e', k < i → es[k]? = some (some e') → e'.answered = false) →
      finishedAs order s j item (es.set i (some { e with
        answered := false, seenClear := e.seenClear || isIntact item
        seenFail := e.seenFail || !isIntact item }))) ∧
    ((∀ (k : Nat) e, es[k]? = some (some e) → e.answered = false) →
      finishedAs order s j item es) := by
  dsimp only
  refine ⟨fun i e here marked first => finishedAs_of_answered hj answered ready ?_, fun unmarked =>
    finishedAs_of_answered hj answered ready (reportAnswered_of_none _ unmarked)⟩
  rw [reportAnswered_of_first _ here marked first, setEntry]
  cases isIntact (descramble j.cell j.key) <;> simp [flagPresented]

end

/-- Settles O27: the film's entry answers, or the one made for it; a marked entry takes the flag of the
verdict. -/
theorem aFilmVerdictSetsOneFlag : Obligations.aFilmVerdictSetsOneFlag := by
  refine ⟨fun order s j hj fresh film ready low => ?_, fun order s j hj answered ready => ?_⟩
  · have c : FilmCellInJudging s j := ⟨hj, fresh, film, ready, low⟩
    have notEntitled (h : askFilm j.cell.film j.cell.barred s = (.notEntitled, s)) :
        judgedAs order s j (.marker .notEntitled) s.folio.entries :=
      judgedAs_of_decided hj fresh (.inr ready) (askBlocks_of_film low film h)
    refine ⟨fun empty => notEntitled (askFilm_of_not_occupied empty), fun occupied =>
      ⟨fun i e here entry => answers_of_entry c occupied here entry, fun absent =>
        ⟨fun i free first => answers_of_new c occupied absent (newPlace_of_free free first), fun full =>
          ⟨fun i second evicts least first => ?_, fun noneEvicts => ?_⟩⟩⟩⟩
    · refine answers_of_new c occupied absent ((newPlace_of_full full).trans
        (evictPlace_eq_some_iff.mpr ⟨second, ?_, fun k e he ev => ?_, fun k e hk he ev same => ?_⟩))
      · obtain ⟨e, he, preview, clear, fail, at_⟩ := evicts
        exact ⟨e, he, (evictable_iff e).mpr ⟨preview, clear, fail⟩, at_⟩
      · obtain ⟨preview, clear, fail⟩ := (evictable_iff e).mp ev
        exact least k _ ⟨e, he, preview, clear, fail, rfl⟩
      · obtain ⟨preview, clear, fail⟩ := (evictable_iff e).mp ev
        exact first k hk ⟨e, he, preview, clear, fail, same⟩
    · refine notEntitled (askFilm_of_full absent ((newPlace_of_full full).trans
        (evictPlace_eq_none_iff.mpr fun k e he => Bool.eq_false_iff.mpr fun ev => ?_)))
      obtain ⟨preview, clear, fail⟩ := (evictable_iff e).mp ev
      exact noneEvicts k _ ⟨e, he, preview, clear, fail, rfl⟩
  · have ends := ends_of_answered (order := order) hj answered ready
    refine ⟨fun mode noKey => ?_, fun ws clear => ⟨fun same => ?_, fun differs => ?_⟩⟩
    · rw [noKey, descramble_of_no_key mode] at ends
      exact ends
    · rw [(descramble_of_clear clear).1 same] at ends
      exact ends
    · rw [(descramble_of_clear clear).2 differs] at ends
      exact ends

/-! ### What of a cell reaches a queue (R26, R53, R72) -/

/-- The CELL items of an output's queue. -/
def cellsOf (o : Output) : List Item := o.queue.filter isIntact

theorem cellsOf_admitItem_marker (r : MarkerReason) (value : Nat) (o : Output) :
    cellsOf (admitItem (.marker r) value o) = cellsOf o := by
  unfold cellsOf
  obtain e | e | ⟨_, e⟩ := admitItem_queue (.marker r) value o
  · rw [e]
  · rw [e]; simp [isIntact]
  · rw [e, List.filter_append]
    have noCells : (owedPair o.queue.getLast? (.marker r)).filter isIntact = [] := by
      unfold owedPair
      split <;> split <;> simp [isIntact]
    rw [noCells, List.append_nil]

theorem cellsOf_takeContinuity (value : Nat) (o : Output) :
    cellsOf (takeContinuity value o) = cellsOf o := by
  unfold takeContinuity
  cases o.expected with
  | none => rfl
  | some e =>
    dsimp only
    split
    · rfl
    · exact cellsOf_admitItem_marker .gap value o

/-- No output has a CELL item it did not have. -/
def noCellMore (x y : OutputStage) : Prop :=
  ∀ ix, (cellsOf (outputAt y ix)).Sublist (cellsOf (outputAt x ix))

theorem noCellMore_atOutput {x y : OutputStage} {ix : OutputIx} {event : Output → Output}
    (keeps : ∀ o, cellsOf (event o) = cellsOf o) (h : noCellMore x y) :
    noCellMore x (atOutput ix event y) := by
  intro k
  by_cases same : k = ix
  · subst same
    obtain ⟨e, -⟩ | ⟨e, -⟩ := atOutput_cases k event y <;> rw [e]
    · rw [outputAt_setOutputAt, keeps]
      exact h k
    · obtain ⟨-, e⟩ | ⟨item, rest, queue, e⟩ := grantTo_cases k (setOutputAt y k (event (outputAt y k))) <;>
        rw [e]
      · rw [outputAt_setOutputAt, keeps]
        exact h k
      · have taken (o : Output) (z : OutputStage) : outputAt { setOutputAt z k o with
            requestHeld := false, delivering := some (k, item), port := portBytes k item } k = o := by
          cases k <;> rfl
        rw [taken, outputAt_setOutputAt]
        have fewer : (cellsOf (takeHead (event (outputAt y k)))).Sublist
            (cellsOf (event (outputAt y k))) := by
          unfold cellsOf
          rw [takeHead_queue]
          exact (List.tail_sublist _).filter _
        rw [keeps] at fewer
        exact fewer.trans (h k)
  · rw [outputAt_atOutput_of_ne event y same]
    exact h k

theorem noCellMore_marker_verdict (j : Judging) (r : MarkerReason) (x : OutputStage)
    (insetFirst gapInsetFirst : Bool) :
    noCellMore x (giveItem insetFirst j (.marker r) (giveContinuity gapInsetFirst j x)) := by
  have continuity : noCellMore x (giveContinuity gapInsetFirst j x) :=
    atNamed_induct (P := noCellMore x) _ _ _ _ (fun _ => List.Sublist.refl _)
      fun _ _ => noCellMore_atOutput (cellsOf_takeContinuity _)
  exact atNamed_induct (P := noCellMore x) _ _ _ _ continuity
    fun _ _ => noCellMore_atOutput (cellsOf_admitItem_marker r _)

/-- The entry the film has in the table. -/
theorem find?_liveEntries (es : List (Option Entry)) (film : Nat) :
    (liveEntries es).find? (fun e => e.film == film) =
      (placeOf es film).bind fun i => es.getD i none := by
  rw [liveEntries, List.find?_filterMap, List.find?_eq_bind_findIdx?_getElem?]
  simp only [id_eq, placeOf]
  cases h : es.findIdx? fun o => o.any fun e => e.film == film with
  | none => rfl
  | some i =>
    obtain ⟨hi, _⟩ := List.findIdx?_eq_some_iff_getElem.mp h
    simp [hi]

/-- The Folio Unit's answer is presentable exactly where the room may show the cell. -/
theorem askFilm_presentable_iff (s : State) (c : Cell) :
    (∃ i t, askFilm c.film c.barred s = (.presentable i, t)) ↔ mayShow s c = true := by
  rw [mayShow, find?_liveEntries, Bool.and_eq_true, beq_iff_eq]
  by_cases occupied : s.stay.room = .occupied
  · cases absent : placeOf s.folio.entries c.film with
    | none =>
      cases place : newPlace s.folio.entries with
      | none => simp [askFilm_of_full absent place]
      | some i =>
        simp only [askFilm_of_new occupied absent place, occupied, Prod.mk.injEq,
          answerFromEntry_eq_presentable_iff]
        simp [entryShows, newEntry]
        exact fun _ => decide_eq_true_iff
    | some i =>
      obtain ⟨⟨e, here, -⟩, -⟩ := placeWhere_eq_some_iff.mp absent
      have entry := entryAt_eq_some_iff.mpr here
      simp only [askFilm_of_entry occupied absent entry, occupied, Prod.mk.injEq,
        answerFromEntry_eq_presentable_iff, Option.bind_some]
      rw [show s.folio.entries.getD i none = some e from entry]
      simp
  · simp [askFilm_of_not_occupied occupied, occupied]

/-- Where the ceiling or the entitlement forbids it, steps 3 and 4 end with a marker. -/
theorem askBlocks_of_forbidden {s : State} {j : Judging} (forbidden :
    effectiveCeiling s.gate < j.cell.rating ∨ (j.cell.film ≠ 0 ∧ mayShow s j.cell = false)) :
    ∃ r t, askBlocks j s = (.decided (.marker r), t) ∧ t.outputs = s.outputs := by
  by_cases high : effectiveCeiling s.gate < j.cell.rating
  · exact ⟨_, _, askBlocks_of_locked high, rfl⟩
  · obtain ⟨film, denied⟩ := forbidden.resolve_left high
    have low := Nat.le_of_not_lt high
    have kept : (askFilm j.cell.film j.cell.barred s).2.outputs = s.outputs :=
      askFilm_changes j.cell.film j.cell.barred s .outputs (by simp)
    cases asked : askFilm j.cell.film j.cell.barred s with
    | mk answer t =>
      rw [asked] at kept
      have judged := askBlocks_of_film low film asked
      cases answer with
      | notEntitled => exact ⟨_, t, judged, kept⟩
      | previewEnded => exact ⟨_, t, judged, kept⟩
      | presentable i =>
        have shown := (askFilm_presentable_iff s j.cell).mp ⟨i, t, asked⟩
        rw [denied] at shown
        cases shown

theorem mayShow_of_presentable {s u : State} {j : Judging} {i : Nat}
    (asked : askBlocks j s = (.presentable i, u)) :
    j.cell.rating ≤ effectiveCeiling s.gate ∧ j.cell.film ≠ 0 ∧ mayShow s j.cell = true := by
  obtain ⟨_, _, e⟩ | ⟨k, t, _, low, film, asked⟩ := askBlocks_cases j s
  · rw [asked] at e
    cases e
  · exact ⟨low, film, (askFilm_presentable_iff s j.cell).mp ⟨k, t, asked⟩⟩

/-- A cell that has its answer had it before, or gets it now. -/
def answerStands (c : Instr) (s t : State) : Prop :=
  ∀ j, t.descrambler.judging = some j → j.answered = true →
    ∃ before, s.descrambler.judging = some before ∧ before.cell = j.cell ∧
      (before.answered = true ∨
        ((∃ order, c = .cellVerdict order) ∧ j.cell.rating ≤ effectiveCeiling s.gate ∧
          j.cell.film ≠ 0 ∧ mayShow s j.cell = true))

theorem answerStands_of_eq {c : Instr} {s t : State}
    (e : t.descrambler.judging = s.descrambler.judging) : answerStands c s t :=
  fun j hj answered => ⟨j, e ▸ hj, rfl, .inl answered⟩

theorem judgeComplete_judging (c : Cell) (s : State) :
    (judgeComplete c s).descrambler.judging = s.descrambler.judging := by
  unfold judgeComplete acceptCell
  dsimp only
  repeat' split
  all_goals rfl

theorem trackByte_judging (b : Byte) (s : State) :
    (trackByte b s).descrambler.judging = s.descrambler.judging := by
  unfold trackByte
  split
  · dsimp only
    split
    · rfl
    · split
      · exact judgeComplete_judging ..
      · rfl
  · rfl

theorem exec_answerStands {c : Instr} {s t : State} (h : exec c s = .next t) : answerStands c s t := by
  cases c with
  | powerOnReset a b =>
    rw [stateAfter_of_exec h]
    exact fun j hj => by cases hj
  | feedByte b =>
    exact answerStands_of_eq (Host.Outcome.next.inj h ▸ trackByte_judging b s)
  | cellArrival =>
    obtain e | ⟨first, rest, handed, free, feed, due, e⟩ := execCellArrival_cases s <;>
      rw [Host.Outcome.next.inj (h.symm.trans e)]
    · exact answerStands_of_eq rfl
    · rw [arrive_eq]
      intro j hj answered
      simp only [State.setDescrambler_descrambler] at hj
      split at hj
      · cases hj; cases answered
      · cases hj
  | cellVerdict order =>
    intro j hj answered
    obtain e | ⟨before, hb, e | ⟨fresh, ⟨i, u, asked⟩, e⟩⟩ := cellVerdict_descrambler h
    · exact answerStands_of_eq (congrArg _ e) j hj answered
    · rw [e] at hj
      cases hj
    · rw [e] at hj
      cases hj
      exact ⟨before, hb, rfl, .inr ⟨⟨order, rfl⟩, mayShow_of_presentable asked⟩⟩
  | feedSecondClose =>
    intro j hj answered
    obtain e | ⟨_, e⟩ := feedSecondClose_descrambler h
    · exact answerStands_of_eq (congrArg _ e) j hj answered
    · rw [e] at hj
      obtain ⟨before, hb, rfl⟩ := Option.map_eq_some_iff.mp hj
      exact ⟨before, hb, rfl, .inl answered⟩
  | _ => exact answerStands_of_eq (congrArg _ (exec_agree h .descrambler (by simp [footprint])))

/-- Settles O15: a forbidden cell's verdict is a marker, and an answer is given only where it is allowed. -/
theorem noForbiddenCellIsQueued : Obligations.noForbiddenCellIsQueued := by
  refine ⟨fun order s t j hj fresh h forbidden => ?_, fun c s t j h hj answered =>
    exec_answerStands h j hj answered⟩
  change noCellMore s.outputs t.outputs
  obtain ⟨r, u, asked, kept⟩ := askBlocks_of_forbidden forbidden
  by_cases ready : j.cell.film = 0 ∨ j.closesAhead = 0
  · rw [exec_cellVerdict_of_fresh hj fresh ready, judgeCell, asked] at h
    rw [← Host.Outcome.next.inj h]
    exact noCellMore_marker_verdict j r s.outputs _ _
  · have waits : j.cell.film ≠ 0 ∧ j.closesAhead ≠ 0 := by omega
    have same : exec (.cellVerdict order) s = .next s := by
      refine congrArg Host.Outcome.next ?_
      simp only [hj, if_pos waits]
    rw [same] at h
    exact Host.Outcome.next.inj h ▸ fun ix => List.Sublist.refl _

end Sys2Proof.Machine
end

section
/-! PROOFS. The laws of the Output Stage at every step (sections 3.1, 3.3, 3.5 and 3.6). -/

namespace Sys2Proof.Machine

/-! ### One output -/

theorem noTwins_iff_isChain (items : List Item) : noTwins items = true ↔
    items.IsChain fun a b => collapsesInto (some a) b = false := by
  induction items with
  | nil => simp [noTwins]
  | cons a rest ih => cases rest <;> simp_all [noTwins]

theorem noTwins_append_one {items : List Item} {item : Item} (distinct : noTwins items = true)
    (fresh : collapsesInto items.getLast? item = false) : noTwins (items ++ [item]) = true := by
  rw [noTwins_iff_isChain] at *
  refine List.isChain_append.mpr ⟨distinct, by simp, fun last hlast x hx => ?_⟩
  obtain rfl : item = x := by simpa using hx
  rwa [Option.mem_def.mp hlast] at fresh

/-- What of an owed GAP and an item is appended makes no twins. -/
theorem noTwins_owedPair {items : List Item} (distinct : noTwins items = true) (item : Item) :
    noTwins (items ++ owedPair items.getLast? item) = true := by
  rw [owedPair_eq]
  have afterGap {items : List Item} (distinct : noTwins items = true)
      (gap : items.getLast? = some (.marker .gap)) :
      noTwins (items ++ if item = .marker .gap then [] else [item]) = true := by
    split_ifs with isGap
    · rwa [List.append_nil]
    · refine noTwins_append_one distinct (Bool.eq_false_iff.mpr fun collapses => isGap ?_)
      obtain ⟨r, rfl, last⟩ := (collapsesInto_iff _ _).mp collapses
      rw [← Option.some.inj (gap.symm.trans last)]
  by_cases gap : items.getLast? = some (.marker .gap)
  · rw [if_pos gap]
    exact afterGap distinct gap
  · rw [if_neg gap, ← List.append_assoc]
    refine afterGap (noTwins_append_one distinct (Bool.eq_false_iff.mpr fun collapses => gap ?_)) (by simp)
    obtain ⟨r, isGap, last⟩ := (collapsesInto_iff _ _).mp collapses
    rw [last, ← isGap]

/-- A FILLING output has fewer items than its threshold, a RUNNING one has one at least, and either has a
service. -/
theorem stateOk_iff_of_tuned {o : Output} (tuned : o.state ≠ .idle) : stateOk o = true ↔
    o.service.isSome = true ∧ (o.state = .filling → o.queue.length < o.threshold) ∧
      (o.state = .running → o.queue ≠ []) := by
  unfold stateOk
  cases h : o.state
  · exact absurd h tuned
  · simp
  · simp

/-- The laws of one output. -/
structure OutputLaws (o : Output) : Prop where
  places : o.queue.length ≤ 8
  distinct : noTwins o.queue = true
  byState : stateOk o = true
  service : o.service ≠ some 0
  threshold : 1 ≤ o.threshold ∧ o.threshold ≤ 8
  priority : o.priority ≤ 3
  counts : o.overflows ≤ 65535 ∧ o.underruns ≤ 65535

theorem outputOk_iff (o : Output) : outputOk o = true ↔ OutputLaws o := by
  simp only [outputOk, isCount, Bool.and_eq_true, decide_eq_true_eq, bne_iff_ne]
  constructor
  · rintro ⟨⟨⟨⟨⟨⟨⟨⟨places, distinct⟩, byState⟩, service⟩, low⟩, high⟩, priority⟩, overflows⟩, underruns⟩
    exact ⟨places, distinct, byState, service, ⟨low, high⟩, priority, overflows, underruns⟩
  · rintro ⟨places, distinct, byState, service, ⟨low, high⟩, priority, overflows, underruns⟩
    exact ⟨⟨⟨⟨⟨⟨⟨⟨places, distinct⟩, byState⟩, service⟩, low⟩, high⟩, priority⟩, overflows⟩, underruns⟩

section
variable {o : Output} (laws : OutputLaws o)
include laws

/-- Items that make no twins and have room join the queue of a tuned output. -/
theorem OutputLaws.appendItems {items : List Item} (tuned : o.state ≠ .idle)
    (distinct : noTwins (o.queue ++ items) = true) (room : (o.queue ++ items).length ≤ 8) :
    OutputLaws (appendItems items o) := by
  obtain ⟨hasService, filling, running⟩ := (stateOk_iff_of_tuned tuned).mp laws.byState
  rw [appendItems_eq]
  refine ⟨room, distinct, ?_, laws.service, laws.threshold, laws.priority, laws.counts⟩
  refine (stateOk_iff_of_tuned ?_).mpr ⟨hasService, fun fills => ?_, fun runs => ?_⟩
  · dsimp only
    split_ifs <;> simp_all
  · dsimp only at fills ⊢
    split_ifs at fills with h
    by_cases none : items = []
    · simpa [none] using filling fills
    · exact Nat.lt_of_not_le fun full => h ⟨none, fills, full⟩
  · dsimp only at runs ⊢
    have threshold := laws.threshold.1
    split_ifs at runs with h
    · exact List.ne_nil_of_length_pos (by omega)
    · simp [running runs]

/-- The continuity value, the owed GAP and the overflow count of a tuned output are free. -/
theorem OutputLaws.noted (tuned : o.state ≠ .idle) (expected : Option Nat) (gapOwed : Bool)
    {overflows : Nat} (count : overflows ≤ 65535) :
    OutputLaws { o with expected := expected, gapOwed := gapOwed, overflows := overflows } := by
  have byState : stateOk { o with expected := expected, gapOwed := gapOwed, overflows := overflows } =
      true := by
    refine (stateOk_iff_of_tuned ?_).mpr ?_
    · exact tuned
    · exact (stateOk_iff_of_tuned tuned).mp laws.byState
  exact ⟨laws.places, laws.distinct, byState, laws.service, laws.threshold, laws.priority, count,
    laws.counts.2⟩

theorem OutputLaws.dropItem (item : Item) (value : Nat) (tuned : o.state ≠ .idle) :
    OutputLaws (dropItem item value o) := by
  cases item with
  | marker => exact laws
  | cell => exact laws.noted tuned _ _ (satInc_le _)

theorem OutputLaws.admitItem (item : Item) (value : Nat) (tuned : o.state ≠ .idle) :
    OutputLaws (admitItem item value o) := by
  unfold Machine.admitItem
  dsimp only
  split_ifs with owed room collapses room
  · have joined := laws.appendItems tuned (noTwins_owedPair laws.distinct item)
      (by rwa [List.length_append])
    exact joined.noted (mt (appendItems_idle_iff _ _).mp tuned) _ _ joined.counts.1
  · exact laws.dropItem item value tuned
  · exact laws
  · refine laws.appendItems tuned (noTwins_append_one laws.distinct ?_) ?_
    · exact Bool.eq_false_iff.mpr collapses
    · rw [List.length_append]; exact room
  · exact laws.dropItem item value tuned

theorem OutputLaws.takeContinuity (value : Nat) (tuned : o.state ≠ .idle) :
    OutputLaws (takeContinuity value o) := by
  rw [takeContinuity_eq]
  split_ifs
  · exact laws.noted tuned _ _ laws.counts.1
  · have admitted := laws.admitItem (.marker .gap) value tuned
    exact admitted.noted (mt (admitItem_idle_iff _ _ _).mp tuned) _ _ admitted.counts.1

theorem OutputLaws.takeHead (tuned : o.state ≠ .idle) : OutputLaws (takeHead o) := by
  obtain ⟨hasService, filling, running⟩ := (stateOk_iff_of_tuned tuned).mp laws.byState
  have places : o.queue.tail.length ≤ 8 := by
    have := laws.places
    rw [List.length_tail]
    omega
  have distinct : noTwins o.queue.tail = true :=
    (noTwins_iff_isChain _).mpr ((noTwins_iff_isChain _).mp laws.distinct).tail
  have threshold := laws.threshold
  unfold Machine.takeHead
  dsimp only
  split_ifs with emptied
  · refine ⟨places, distinct, (stateOk_iff_of_tuned (by simp)).mpr ⟨hasService, fun _ => ?_, by simp⟩,
      laws.service, threshold, laws.priority, laws.counts.1, satInc_le _⟩
    simp only [List.isEmpty_iff.mp emptied.2, List.length_nil]
    omega
  · refine ⟨places, distinct, (stateOk_iff_of_tuned (by exact tuned)).mpr
      ⟨hasService, fun fills => ?_, fun runs => ?_⟩, laws.service, threshold, laws.priority, laws.counts⟩
    · have few : o.queue.tail.length ≤ o.queue.length := (List.tail_sublist _).length_le
      exact few.trans_lt (filling fills)
    · simpa using fun none => emptied ⟨runs, by simpa using none⟩

theorem OutputLaws.storeSettings (priority threshold : Nat) :
    OutputLaws (storeSettings priority threshold o) := by
  have range : 1 ≤ clampTo 1 8 threshold ∧ clampTo 1 8 threshold ≤ 8 := by
    rw [clampTo_one_eight]
    split_ifs <;> omega
  rw [storeSettings_eq]
  refine ⟨laws.places, laws.distinct, ?_, laws.service, range, Nat.min_le_right _ _, laws.counts⟩
  have byState := laws.byState
  cases state : o.state with
  | idle => simpa [stateOk, state] using byState
  | filling =>
    simp only [stateOk, state, Bool.and_eq_true] at byState
    by_cases full : clampTo 1 8 threshold ≤ o.queue.length
    · have some_item : o.queue ≠ [] := List.ne_nil_of_length_pos (by omega)
      simp [stateOk, full, byState.1, some_item]
    · simp [stateOk, full, byState.1, Nat.lt_of_not_le full]
  | running => simpa [stateOk, state] using byState

theorem OutputLaws.retune {service : Option Nat} (named : service ≠ some 0) :
    OutputLaws (retune service o) := by
  have threshold := laws.threshold
  refine ⟨Nat.zero_le 8, rfl, ?_, named, threshold, laws.priority, laws.counts⟩
  cases service with
  | none => simp [Machine.retune, stateOk]
  | some n => simp [Machine.retune, stateOk]; omega

end

/-! ### The stage -/

/-- The bytes the port presents for an item in delivery, and none with none (R48). -/
def portOf : Option (OutputIx × Item) → List PortByte
  | some (ix, item) => portBytes ix item
  | none => []

/-- The laws of the Output Stage. -/
structure StageLaws (x : OutputStage) : Prop where
  outputs : ∀ ix, OutputLaws (outputAt x ix)
  port : x.port = portOf x.delivering
  waits : x.requestHeld = true → x.delivering = none → ∀ ix, eligible (outputAt x ix) = false

theorem outputsOk_iff (x : OutputStage) : outputsOk x = true ↔ StageLaws x := by
  have portOf_eq : outputsOk x = (outputOk x.main && outputOk x.inset &&
      (x.port == portOf x.delivering) &&
      (!x.requestHeld || x.delivering.isSome || (!eligible x.main && !eligible x.inset))) := by
    unfold outputsOk portOf
    cases x.delivering <;> rfl
  have waits_iff : (!x.requestHeld || x.delivering.isSome || (!eligible x.main && !eligible x.inset)) = true ↔
      (x.requestHeld = true → x.delivering = none → ∀ ix, eligible (outputAt x ix) = false) := by
    have both : (∀ ix, eligible (outputAt x ix) = false) ↔
        eligible x.main = false ∧ eligible x.inset = false :=
      ⟨fun h => ⟨h .main, h .inset⟩, fun h ix => by cases ix <;> simp [outputAt, h]⟩
    rw [both]
    cases x.requestHeld <;> cases x.delivering <;> simp
  simp only [portOf_eq, Bool.and_eq_true, beq_iff_eq, waits_iff, outputOk_iff]
  constructor
  · rintro ⟨⟨⟨main, inset⟩, port⟩, waits⟩
    exact ⟨fun ix => by cases ix <;> assumption, port, waits⟩
  · rintro ⟨outputs, port, waits⟩
    exact ⟨⟨⟨outputs .main, outputs .inset⟩, port⟩, waits⟩

section
variable {x : OutputStage} (outputs : ∀ ix, OutputLaws (outputAt x ix))
include outputs

theorem stageLaws_granted {ix : OutputIx} {o : Output} (item : Item) (ho : OutputLaws o) :
    StageLaws { setOutputAt x ix o with
      requestHeld := false, delivering := some (ix, item), port := portBytes ix item } := by
  refine ⟨fun k => ?_, rfl, nofun⟩
  have at_ : outputAt { setOutputAt x ix o with
      requestHeld := false, delivering := some (ix, item), port := portBytes ix item } k =
      outputAt (setOutputAt x ix o) k := by cases k <;> rfl
  rw [at_]
  by_cases same : k = ix
  · rw [same, outputAt_setOutputAt]
    exact ho
  · rw [outputAt_setOutputAt_of_ne x o same]
    exact outputs k

/-- What an eligible output grants is its own to lose. -/
theorem stageLaws_grantTo {ix : OutputIx} (offers : eligible (outputAt x ix) = true) :
    StageLaws (grantTo ix x) := by
  obtain ⟨empty, -⟩ | ⟨item, rest, -, e⟩ := grantTo_cases ix x
  · obtain ⟨item, rest, queue⟩ := exists_head_of_eligible offers
    rw [empty] at queue
    cases queue
  · rw [e]
    refine stageLaws_granted outputs item ((outputs ix).takeHead fun idle => ?_)
    rw [not_eligible_of_idle idle] at offers
    cases offers

/-- A request taken is granted, or held with nothing eligible. -/
theorem stageLaws_takeRequest (port : x.port = portOf x.delivering) : StageLaws (takeRequest x) := by
  unfold Machine.takeRequest
  split
  · rename_i ix choice
    refine stageLaws_grantTo outputs ?_
    rw [grantChoice_eq] at choice
    split_ifs at choice <;> cases choice <;> simp_all
  · rename_i choice
    have held (ix : OutputIx) : outputAt { x with requestHeld := true } ix = outputAt x ix := by
      cases ix <;> rfl
    refine ⟨fun ix => held ix ▸ outputs ix, port, fun _ _ ix => ?_⟩
    rw [held]
    rw [grantChoice_eq] at choice
    split_ifs at choice with bothOffer mainOffers insetOffers
    exact Bool.eq_false_iff.mpr fun offers => by cases ix <;> contradiction

end

section
variable {x : OutputStage} (laws : StageLaws x)
include laws

/-- An event that keeps its output's laws keeps those of the stage. -/
theorem StageLaws.atOutput {ix : OutputIx} {event : Output → Output}
    (kept : OutputLaws (event (outputAt x ix))) : StageLaws (atOutput ix event x) := by
  have others {k : OutputIx} (other : k ≠ ix) (o : Output) :
      outputAt (setOutputAt x ix o) k = outputAt x k := outputAt_setOutputAt_of_ne x o other
  obtain ⟨e, unanswered⟩ | ⟨e, held, idle, offers⟩ := atOutput_cases ix event x <;> rw [e]
  · refine ⟨fun k => ?_, ?_, fun held idle k => ?_⟩
    · by_cases same : k = ix
      · rwa [same, outputAt_setOutputAt]
      · rw [others same]
        exact laws.outputs k
    · rw [setOutputAt_port, setOutputAt_delivering]
      exact laws.port
    · rw [setOutputAt_requestHeld] at held
      rw [setOutputAt_delivering] at idle
      by_cases same : k = ix
      · rw [same, outputAt_setOutputAt]
        exact Bool.eq_false_iff.mpr fun offers => unanswered ⟨held, by simp [idle], offers⟩
      · rw [others same]
        exact laws.waits held idle k
  · refine stageLaws_grantTo (fun k => ?_) (by rwa [outputAt_setOutputAt])
    by_cases same : k = ix
    · rwa [same, outputAt_setOutputAt]
    · rw [others same]
      exact laws.outputs k

/-- Both outputs in an order, an event at each that takes it. -/
theorem StageLaws.inOrder (insetFirst : Bool) {takes : OutputIx → Output → Bool} {event : Output → Output}
    (keeps : ∀ ix o, takes ix o = true → OutputLaws o → OutputLaws (event o)) :
    StageLaws (inOrder insetFirst (eventWhere takes event) x) := by
  have one {y : OutputStage} (hy : StageLaws y) (ix : OutputIx) : StageLaws (eventWhere takes event ix y) := by
    unfold eventWhere
    split
    · rename_i taken
      exact hy.atOutput (keeps ix _ taken (hy.outputs ix))
    · exact hy
  rw [inOrder_eq]
  exact one (one laws _) _

theorem StageLaws.atNamed (insetFirst : Bool) (j : Judging) {event : Output → Output}
    (keeps : ∀ o, OutputLaws o → o.state ≠ .idle → OutputLaws (event o)) :
    StageLaws (atNamed insetFirst j event x) := by
  rw [atNamed_eq]
  refine laws.inOrder insetFirst fun ix o taken ho => keeps o ho ?_
  simp only [takesCell, Bool.and_eq_true, bne_iff_ne] at taken
  exact taken.2

theorem StageLaws.giveContinuity (insetFirst : Bool) (j : Judging) :
    StageLaws (giveContinuity insetFirst j x) :=
  laws.atNamed insetFirst j fun _ ho => ho.takeContinuity _

theorem StageLaws.giveItem (insetFirst : Bool) (j : Judging) (item : Item) :
    StageLaws (giveItem insetFirst j item x) :=
  laws.atNamed insetFirst j fun _ ho => ho.admitItem item _

theorem StageLaws.giveNoSignal (insetFirst : Bool) : StageLaws (giveNoSignal insetFirst x) := by
  rw [giveNoSignal_eq]
  refine laws.inOrder insetFirst fun ix o taken ho => ho.admitItem _ _ ?_
  exact bne_iff_ne.mp taken

theorem StageLaws.completeDelivery : StageLaws (completeDelivery x) := by
  have ended (ix : OutputIx) : OutputLaws (outputAt { x with delivering := none, port := [] } ix) := by
    cases ix
    · exact laws.outputs .main
    · exact laws.outputs .inset
  unfold Machine.completeDelivery
  dsimp only
  split
  · exact stageLaws_takeRequest ended rfl
  · rename_i noneHeld
    exact ⟨ended, rfl, fun held => absurd held noneHeld⟩

end

/-! ### The requests of the Output Stage -/

section
variable {s : State} (laws : StageLaws s.outputs) (f : Frame)
include laws

theorem StageLaws.carryOutTune : StageLaws (carryOutTune f s).outputs := by
  unfold Machine.carryOutTune
  split
  · exact laws
  · split
    · exact laws
    · rename_i ix index service
      have tuned : StageLaws (Machine.atOutput ix (retune (some (byteAt f.body 2))) s.outputs) :=
        laws.atOutput ((laws.outputs ix).retune (by simpa using service))
      dsimp only
      split
      · refine StageLaws.atOutput tuned ((tuned.outputs ix).admitItem _ _ ?_)
        rw [atOutput_retune, outputAt_setOutputAt]
        simp [retune]
      · exact tuned

theorem StageLaws.carryOutUntune : StageLaws (carryOutUntune f s).outputs := by
  unfold Machine.carryOutUntune
  split
  · exact laws
  · rename_i ix _
    split
    · exact laws
    · exact laws.atOutput ((laws.outputs ix).retune (by simp))

theorem StageLaws.serveSetOutput : StageLaws (serveSetOutput f s).outputs := by
  unfold Machine.serveSetOutput
  split
  · exact laws
  · rename_i ix _
    exact laws.atOutput ((laws.outputs ix).storeSettings _ _)

end

theorem outputLaws_reset (ix : OutputIx) (x : OutputStage) :
    OutputLaws (outputAt (softResetOutputs x) ix) := by
  cases ix
  · exact (outputOk_iff (Output.reset 2)).mp (by decide)
  · exact (outputOk_iff (Output.reset 1)).mp (by decide)

theorem StageLaws.softReset {x : OutputStage} (laws : StageLaws x) : StageLaws (softResetOutputs x) :=
  ⟨fun ix => outputLaws_reset ix x, laws.port, fun _ _ ix => by cases ix <;> rfl⟩

/-! ### Every command -/

theorem exec_keeps_stageLaws {c : Instr} {s t : State} (laws : StageLaws s.outputs)
    (h : exec c s = .next t) : StageLaws t.outputs := by
  have request {kind : Nat} {owner : Frame → State → State}
      (e : stateAfter c s = serveRequest kind owner s)
      (ho : ∀ f, StageLaws (owner f (takeFrame f s)).outputs) : StageLaws t.outputs := by
    rw [stateAfter_of_exec h, e]
    exact serveRequest_induct (P := fun t => StageLaws t.outputs) kind owner s laws (fun f _ _ => ho f)
      (fun _ _ => laws)
  cases c with
  | powerOnReset a b =>
    rw [stateAfter_of_exec h]
    exact (outputsOk_iff OutputStage.reset).mp (by decide)
  | feedLossTimerExpiry insetFirst =>
    rw [stateAfter_of_exec h]
    change StageLaws (loseFeed insetFirst s).outputs
    unfold loseFeed
    split
    · exact laws
    · exact laws.giveNoSignal insetFirst
  | cellVerdict order =>
    obtain e | ⟨j, _, _, e⟩ | ⟨j, _, _, ⟨item, u, _, e⟩ | ⟨i, u, _, _, e⟩ | ⟨i, u, _, _, e⟩⟩ :=
      execCellVerdict_cases order s <;> rw [Host.Outcome.next.inj (h.symm.trans e)]
    · exact laws
    · exact laws.giveItem _ j _
    · exact (laws.giveContinuity _ j).giveItem _ j item
    · exact laws.giveContinuity _ j
    · exact (laws.giveContinuity _ j).giveItem _ j _
  | decoderRequest =>
    rw [stateAfter_of_exec h]
    change StageLaws (if s.outputs.delivering.isSome then { s.outputs with requestHeld := true }
      else takeRequest s.outputs)
    split
    · rename_i busy
      exact ⟨fun ix => by cases ix <;> [exact laws.outputs .main; exact laws.outputs .inset], laws.port,
        fun _ idle => by simp [show s.outputs.delivering = none from idle] at busy⟩
    · exact stageLaws_takeRequest laws.outputs laws.port
  | itemDeliveryComplete =>
    rw [stateAfter_of_exec h]
    change StageLaws (if s.outputs.delivering.isSome then s.setOutputs (completeDelivery s.outputs)
      else s).outputs
    split
    · exact laws.completeDelivery
    · exact laws
  | tune =>
    refine request rfl fun f => ?_
    unfold unlessWaiting
    split
    · exact laws
    · exact StageLaws.carryOutTune (s := takeFrame f s) laws f
  | untune =>
    refine request rfl fun f => ?_
    unfold unlessWaiting
    split
    · exact laws
    · exact StageLaws.carryOutUntune (s := takeFrame f s) laws f
  | tuningAfterCell =>
    rw [stateAfter_of_exec h]
    change StageLaws (carryOutWaiting s).outputs
    unfold carryOutWaiting
    split
    · split_ifs
      · exact laws
      · exact laws.carryOutTune _
      · exact laws.carryOutUntune _
      · exact laws
    · exact laws
  | setOutput => exact request rfl fun f => StageLaws.serveSetOutput (s := takeFrame f s) laws f
  | softReset => exact request rfl fun f => laws.softReset
  | _ =>
    rw [show t.outputs = s.outputs from exec_agree h .outputs (by simp [footprint])]
    exact laws

/-- Settles O7, from `exec_keeps_stageLaws`. -/
theorem everyStepKeepsTheOutputLaws : Obligations.everyStepKeepsTheOutputLaws := by
  simp only [Obligations.everyStepKeepsTheOutputLaws, outputsOk_iff]
  exact fun _ _ => step_keeps (P := fun s => StageLaws s.outputs) (fun _ _ laws => laws)
    fun _ _ _ => exec_keeps_stageLaws

end Sys2Proof.Machine
end

section
/-! PROOFS. The Set Link Port: its laws at every step (sections 10.2 to 10.6), and what its own commands do
(R160, R162 to R169). -/

namespace Sys2Proof.Machine

/-! ### Reports of a single kind (R168) -/

/-- A report is a SNAPSHOT, a FEED_STATE or neither. -/
def singleOf : Report → Option Bool
  | .snapshot .. => some true
  | .feedState .. => some false
  | _ => none

theorem sameSingleKind_iff (x r : Report) :
    sameSingleKind x r = true ↔ singleOf x = singleOf r ∧ singleOf r ≠ none := by
  cases r <;> cases x <;> simp [sameSingleKind, singleOf]

theorem sameSingleKind_congr {x x' r r' : Report} (hx : singleOf x = singleOf x')
    (hr : singleOf r = singleOf r') : sameSingleKind x r = sameSingleKind x' r' := by
  rw [Bool.eq_iff_iff, sameSingleKind_iff, sameSingleKind_iff, hx, hr]

theorem singlesOk_iff_pairwise (rs : List Report) : singlesOk rs = true ↔
    rs.Pairwise fun r x => sameSingleKind x r = false := by
  induction rs with
  | nil => simp [singlesOk]
  | cons r rs ih => simp [singlesOk, ih, List.all_eq_true]

theorem singlesOk_sublist {rs rs' : List Report} (h : rs'.Sublist rs) (ok : singlesOk rs = true) :
    singlesOk rs' = true :=
  (singlesOk_iff_pairwise _).mpr (((singlesOk_iff_pairwise _).mp ok).sublist h)

theorem singlesOk_replaceReport (r : Report) {rs : List Report} (ok : singlesOk rs = true) :
    singlesOk (replaceReport r rs) = true := by
  rw [singlesOk_iff_pairwise] at *
  have kind (x : Report) : singleOf (if sameSingleKind x r then r else x) = singleOf x := by
    split
    · rename_i same
      exact ((sameSingleKind_iff x r).mp same).1.symm
    · rfl
  unfold replaceReport
  rw [List.pairwise_map]
  exact ok.imp fun apart => (sameSingleKind_congr (kind _) (kind _)).trans apart

theorem singlesOk_append_one {r : Report} {rs : List Report} (ok : singlesOk rs = true)
    (fresh : rs.any (sameSingleKind · r) = false) : singlesOk (rs ++ [r]) = true := by
  rw [singlesOk_iff_pairwise] at *
  refine List.pairwise_append.mpr ⟨ok, by simp, fun x hx y hy => ?_⟩
  obtain rfl : y = r := by simpa using hy
  rw [List.any_eq_false] at fresh
  rw [Bool.eq_false_iff]
  intro same
  obtain ⟨kind, single⟩ := (sameSingleKind_iff y x).mp same
  exact fresh x hx ((sameSingleKind_iff x y).mpr ⟨kind.symm, kind ▸ single⟩)

/-! ### The laws of the port -/

/-- The FIFO has 64 places, and CTS its hysteresis (R162). -/
def FlowLaw (l : SetLink) : Prop :=
  l.fifo.length ≤ 64 ∧ (17 ≤ l.fifo.length ∨ l.cts = true) ∧ (l.fifo.length ≤ 47 ∨ l.cts = false)

/-- The assembler with the inter-byte timer (R165). -/
def AssemblerLaw : Assembler → Option Nat → Prop
  | .assembling bytes _, timer => timer.isSome = true ∧ 1 ≤ bytes.length ∧
      (bytes.length = 1 ∨ (byteAt bytes 2 ≤ 253 ∧ bytes.length < byteAt bytes 2 + 5))
  | .holding f, timer => timer = none ∧ f.body.length ≤ 253
  | .hunting, timer => timer = none

/-- The report queue and its count (R168). -/
def QueueLaw (l : SetLink) : Prop :=
  l.reports.length ≤ 16 ∧ singlesOk l.reports = true ∧ l.lostReports ≤ 65535

/-- The transmitter with the reply slot and the bytes begun (R167). -/
def TransmitterLaw (slot : ReplySlot) (begun : Nat) : Transmitter → Prop
  | .idle => slot ≠ .sending ∧ begun = 0
  | .reply r => slot = .sending ∧ 1 ≤ begun ∧ begun ≤ (stxCharacters (.reply r)).length
  | .report seq r => slot ≠ .sending ∧ 1 ≤ begun ∧ begun ≤ (stxCharacters (.report seq r)).length

/-- The counts of the causes. -/
def CountsLaw (c : LinkCounts) : Prop :=
  c.overrun ≤ 65535 ∧ c.framing ≤ 65535 ∧ c.parity ≤ 65535 ∧ c.length ≤ 65535 ∧ c.check ≤ 65535 ∧
    c.timeout ≤ 65535

/-- The laws of the Set Link Port. -/
structure LinkLaws (l : SetLink) : Prop where
  flow : FlowLaw l
  assembler : AssemblerLaw l.assembler l.interByteTimer
  queue : QueueLaw l
  sequence : l.reportSeq ≤ 255
  transmitter : TransmitterLaw l.slot l.begun l.transmitter
  counts : CountsLaw l.counts

theorem assemblerOk_iff (l : SetLink) :
    assemblerOk l = true ↔ AssemblerLaw l.assembler l.interByteTimer := by
  unfold assemblerOk AssemblerLaw
  cases l.assembler <;> simp [and_assoc]

theorem linkLaws_iff (l : SetLink) : LinkLaws l ↔ FlowLaw l ∧ AssemblerLaw l.assembler l.interByteTimer ∧
    QueueLaw l ∧ l.reportSeq ≤ 255 ∧ TransmitterLaw l.slot l.begun l.transmitter ∧ CountsLaw l.counts :=
  ⟨fun ⟨flow, assembler, queue, sequence, transmitter, counts⟩ =>
    ⟨flow, assembler, queue, sequence, transmitter, counts⟩,
   fun ⟨flow, assembler, queue, sequence, transmitter, counts⟩ =>
    ⟨flow, assembler, queue, sequence, transmitter, counts⟩⟩

theorem linkOk_iff (l : SetLink) : linkOk l = true ↔ LinkLaws l := by
  rw [linkLaws_iff]
  simp only [linkOk, Bool.and_eq_true, assemblerOk_iff, isCount, decide_eq_true_eq, Bool.or_eq_true,
    Bool.not_eq_true', FlowLaw, QueueLaw, CountsLaw, and_assoc]
  cases l.transmitter <;> by_cases sending : l.slot = .sending <;>
    simp [TransmitterLaw, sending, and_left_comm]

theorem heldFrame_eq_some {s : State} {f : Frame} :
    heldFrame s = some f ↔ s.link.assembler = .holding f ∧ s.link.slot = .empty := by
  unfold heldFrame
  split
  · simp_all
  · simp only [reduceCtorEq, false_iff, not_and]
    rintro holding free
    simp_all

/-! ### Reports and replies -/

theorem CountsLaw.raised {c : LinkCounts} (h : CountsLaw c) (cause : LinkCause) :
    CountsLaw (countLinkFault cause c) := by
  obtain ⟨overrun, framing, parity, length, check, timeout⟩ := h
  cases cause <;>
    exact ⟨by simp [countLinkFault, satInc_le, *], by simp [countLinkFault, satInc_le, *],
      by simp [countLinkFault, satInc_le, *], by simp [countLinkFault, satInc_le, *],
      by simp [countLinkFault, satInc_le, *], by simp [countLinkFault, satInc_le, *]⟩

section
variable {l : SetLink} (laws : LinkLaws l)
include laws

theorem LinkLaws.queueReport (r : Report) : LinkLaws (queueReport r l) := by
  obtain ⟨flow, assembler, ⟨places, singles, lost⟩, sequence, transmitter, counts⟩ := laws
  obtain ⟨_, e⟩ | ⟨fresh, room, e⟩ | ⟨_, _, e⟩ := queueReport_cases r l <;> rw [e]
  · exact ⟨flow, assembler, ⟨by simpa [replaceReport_length] using places,
      singlesOk_replaceReport r singles, lost⟩, sequence, transmitter, counts⟩
  · exact ⟨flow, assembler, ⟨by simpa using room, singlesOk_append_one singles fresh, lost⟩, sequence,
      transmitter, counts⟩
  · exact ⟨flow, assembler, ⟨places, singles, satInc_le _⟩, sequence, transmitter, counts⟩

theorem LinkLaws.tell (rs : List Report) : LinkLaws (tell rs l) := by
  induction rs generalizing l with
  | nil => exact laws
  | cons r rs ih => exact ih (laws.queueReport r)

/-- The slot may change while no reply is on the line. -/
theorem LinkLaws.withSlot {slot : ReplySlot} (before : l.slot ≠ .sending) (after : slot ≠ .sending) :
    LinkLaws { l with slot := slot } := by
  obtain ⟨flow, assembler, queue, sequence, transmitter, counts⟩ := laws
  refine ⟨flow, assembler, queue, sequence, ?_, counts⟩
  revert transmitter
  dsimp only
  cases l.transmitter with
  | idle => exact fun h => ⟨after, h.2⟩
  | reply r => exact fun h => absurd h.1 before
  | report seq r => exact fun h => ⟨after, h.2⟩

/-- What a block's work does to the port while no reply is on the line. -/
theorem LinkLaws.served {l' : SetLink} (free : l.slot ≠ .sending) (h : served l l') : LinkLaws l' := by
  obtain ⟨rs, e, slot⟩ := h
  have notSending : l'.slot ≠ .sending := by
    rcases slot with slot | ⟨r, slot⟩ <;> simp [slot, free]
  rw [e]
  exact (laws.tell rs).withSlot (by rwa [tell_slot]) notSending

/-- What a block that forms no reply does to the port. -/
theorem LinkLaws.told {l' : SetLink} (h : Machine.served l l') (same : l'.slot = l.slot) : LinkLaws l' := by
  obtain ⟨rs, e, -⟩ := h
  rw [e, same, ← tell_slot rs l]
  exact laws.tell rs

/-- A request is taken. -/
theorem LinkLaws.taken {f f' : Frame} (holding : l.assembler = .holding f') (free : l.slot = .empty) :
    LinkLaws { l with assembler := .hunting, slot := .serving f } := by
  have assembler := laws.assembler
  rw [holding] at assembler
  have hunting : LinkLaws { l with assembler := .hunting } :=
    ⟨laws.flow, assembler.1, laws.queue, laws.sequence, laws.transmitter, laws.counts⟩
  exact hunting.withSlot (slot := .serving f) (by simp [free]) (by simp)

/-! ### Bytes and frames received -/

theorem LinkLaws.receiveByte (b : Byte) (parityBit stopBit : Bool) :
    LinkLaws (receiveByte b parityBit stopBit l) := by
  obtain ⟨⟨places, low, high⟩, assembler, queue, sequence, transmitter, counts⟩ := laws
  obtain ⟨_, e⟩ | ⟨room, e⟩ := receiveByte_cases b parityBit stopBit l <;> rw [e]
  · exact ⟨⟨places, low, high⟩, assembler, queue, sequence, transmitter, counts⟩
  · refine ⟨⟨by simpa [enterByte] using room, ?_, ?_⟩, ?_, queue, sequence, transmitter, counts⟩
    · simp only [enterByte, List.length_append, List.length_singleton]
      split <;> [left; skip]
      · omega
      · exact low.imp_left (by omega)
    · simp only [enterByte, List.length_append, List.length_singleton]
      split <;> [right; left]
      · rfl
      · omega
    · simp only [enterByte]
      revert assembler
      cases l.assembler with
      | hunting => exact id
      | assembling bytes fault => exact fun h => ⟨rfl, h.2⟩
      | holding f => exact id

theorem LinkLaws.removeByte {b : FifoByte} {rest : List FifoByte} (fifo : l.fifo = b :: rest) :
    LinkLaws (removeByte rest l) := by
  obtain ⟨⟨places, low, high⟩, assembler, queue, sequence, transmitter, counts⟩ := laws
  rw [fifo, List.length_cons] at places low high
  refine ⟨⟨?_, ?_, ?_⟩, assembler, queue, sequence, transmitter, counts⟩
  · simp only [Machine.removeByte]
    omega
  · simp only [Machine.removeByte]
    split <;> [right; left]
    · rfl
    · omega
  · simp only [Machine.removeByte]
    split
    · left; omega
    · exact high.imp_left (by omega)

theorem LinkLaws.assembled {a : Assembler} {timer : Option Nat} (h : AssemblerLaw a timer) :
    LinkLaws { l with assembler := a, interByteTimer := timer } :=
  ⟨laws.flow, h, laws.queue, laws.sequence, laws.transmitter, laws.counts⟩

end

section
variable {s : State} (laws : LinkLaws s.link)
include laws

theorem LinkLaws.discardFrame (cause : LinkCause) (bytes : List Byte) :
    LinkLaws (discardFrame cause bytes s).link := by
  have counted : LinkLaws { s.link with
      assembler := .hunting, interByteTimer := none, counts := countLinkFault cause s.link.counts } :=
    ⟨laws.flow, rfl, laws.queue, laws.sequence, laws.transmitter, laws.counts.raised cause⟩
  rw [discardFrame_link]
  exact counted.queueReport _

theorem LinkLaws.huntByte (b : FifoByte) : LinkLaws (huntByte b s).link := by
  unfold Machine.huntByte
  split_ifs
  · exact laws.discardFrame _ _
  · exact laws.assembled ⟨rfl, Nat.le_refl 1, .inl rfl⟩
  · exact laws

theorem LinkLaws.takeLengthByte (b : FifoByte) {bytes : List Byte} {fault : Option LinkCause}
    (assembling : s.link.assembler = .assembling bytes fault) (short : bytes.length ≤ 1) :
    LinkLaws (takeLengthByte b bytes s).link := by
  have assembler := laws.assembler
  rw [assembling] at assembler
  obtain ⟨timer, some_byte, -⟩ := assembler
  obtain ⟨start, rfl⟩ : ∃ start, bytes = [start] := List.length_eq_one_iff.mp (by omega)
  unfold Machine.takeLengthByte
  split
  · exact laws.discardFrame _ _
  · split
    · exact laws.discardFrame _ _
    · refine laws.assembled ⟨timer, by simp, .inr ?_⟩
      simp only [byteAt, List.singleton_append, List.getD_cons_succ, List.getD_cons_zero,
        List.length_cons, List.length_nil, Nat.add_one_sub_one]
      omega

theorem LinkLaws.takeLaterByte (b : FifoByte) {bytes : List Byte} {fault : Option LinkCause}
    (assembling : s.link.assembler = .assembling bytes fault) (long : ¬ bytes.length ≤ 1) :
    LinkLaws (takeLaterByte b bytes fault s).link := by
  have assembler := laws.assembler
  rw [assembling] at assembler
  obtain ⟨timer, -, one | ⟨small, more⟩⟩ := assembler
  · omega
  have sameLength : byteAt (bytes ++ [b.value]) 2 = byteAt bytes 2 := by
    simp only [byteAt]
    rw [List.getD_append _ _ _ _ (by omega)]
  unfold Machine.takeLaterByte
  dsimp only
  split
  · obtain ⟨cause, e⟩ | ⟨_, _, e⟩ := endFrame_cases (bytes ++ [b.value]) (fault.or (markCause b)) s <;> rw [e]
    · exact laws.discardFrame _ _
    · refine laws.assembled ⟨rfl, ?_⟩
      simp only [frameOf, List.length_dropLast, List.length_drop, List.length_append,
        List.length_singleton]
      omega
  · rename_i unfinished
    rw [List.length_append, List.length_singleton] at unfinished
    refine laws.assembled ⟨timer, by simp, .inr ?_⟩
    rw [sameLength, List.length_append, List.length_singleton]
    omega

theorem LinkLaws.assembleByte : LinkLaws (assembleByte s).link := by
  unfold Machine.assembleByte
  split
  · rename_i b rest _ fifo
    exact LinkLaws.huntByte (s := s.setLink (Machine.removeByte rest s.link)) (laws.removeByte fifo) b
  · rename_i bytes fault b rest assembling fifo
    have taken : LinkLaws (s.setLink (Machine.removeByte rest s.link)).link := laws.removeByte fifo
    dsimp only
    split
    · exact taken.takeLengthByte b assembling ‹_›
    · exact taken.takeLaterByte b assembling ‹_›
  · exact laws

theorem LinkLaws.interByteExpires : LinkLaws (interByteExpires s).link := by
  unfold Machine.interByteExpires
  split
  · exact laws.discardFrame _ _
  · exact laws

end

/-! ### The transmitter -/

theorem stxCharacters_pos {t : Transmitter} (h : t ≠ .idle) : 1 ≤ (stxCharacters t).length := by
  cases t with
  | idle => exact absurd rfl h
  | reply r => simp [stxCharacters, sentBytes, frameBytes]
  | report seq r => simp [stxCharacters, sentBytes, frameBytes]

section
variable {l : SetLink} (laws : LinkLaws l)
include laws

theorem LinkLaws.chooseFrame (idle : l.transmitter = .idle) : LinkLaws (chooseFrame l) := by
  obtain ⟨flow, assembler, ⟨places, singles, lost⟩, sequence, transmitter, counts⟩ := laws
  rw [idle] at transmitter
  obtain ⟨r, _, e⟩ | ⟨i, r, _, _, e⟩ | e := chooseFrame_cases l <;> rw [e]
  · exact ⟨flow, assembler, ⟨places, singles, lost⟩, sequence,
      ⟨rfl, Nat.le_refl 1, stxCharacters_pos (by simp)⟩, counts⟩
  · have fewer := List.eraseIdx_sublist l.reports i
    exact ⟨flow, assembler, ⟨fewer.length_le.trans places, singlesOk_sublist fewer singles, lost⟩,
      Nat.le_of_lt_succ (Nat.mod_lt _ (by omega)),
      ⟨transmitter.1, Nat.le_refl 1, stxCharacters_pos (by simp)⟩, counts⟩
  · exact ⟨flow, assembler, ⟨places, singles, lost⟩, sequence, by rwa [idle], counts⟩

theorem LinkLaws.sampleAndChoose (srdy : Bool) : LinkLaws (sampleAndChoose srdy l) := by
  have looked (b : Bool) : LinkLaws { l with srdy := b } :=
    ⟨laws.flow, laws.assembler, laws.queue, laws.sequence, laws.transmitter, laws.counts⟩
  obtain ⟨_, e⟩ | ⟨_, idle, e⟩ | ⟨_, busy, e⟩ := sampleAndChoose_cases srdy l <;> rw [e]
  · exact looked _
  · exact (looked true).chooseFrame idle
  · refine ⟨laws.flow, laws.assembler, laws.queue, laws.sequence, ?_, laws.counts⟩
    have transmitter := laws.transmitter
    have pos := stxCharacters_pos busy
    revert transmitter busy pos
    dsimp only
    cases l.transmitter with
    | idle => exact fun busy => absurd rfl busy
    | reply r => exact fun _ h pos => ⟨h.1, by omega, Nat.min_le_right _ _⟩
    | report seq r => exact fun _ h pos => ⟨h.1, by omega, Nat.min_le_right _ _⟩

theorem LinkLaws.frameSent : LinkLaws (frameSent l) := by
  obtain ⟨_, e⟩ | ⟨_, e⟩ := frameSent_cases l <;> rw [e]
  · exact laws
  · obtain ⟨flow, assembler, queue, sequence, transmitter, counts⟩ := laws
    unfold endOfFrame
    cases on : l.transmitter with
    | idle => exact ⟨flow, assembler, queue, sequence, transmitter, counts⟩
    | reply r => exact ⟨flow, assembler, queue, sequence, ⟨by simp, rfl⟩, counts⟩
    | report seq r =>
      rw [on] at transmitter
      exact ⟨flow, assembler, queue, sequence, ⟨transmitter.1, rfl⟩, counts⟩

end

/-! ### Every command -/

theorem LinkLaws.serveRequest {kind : Nat} {owner : Frame → State → State} {s : State}
    (laws : LinkLaws s.link)
    (ho : ∀ f, LinkLaws (takeFrame f s).link → LinkLaws (owner f (takeFrame f s)).link) :
    LinkLaws (serveRequest kind owner s).link := by
  have taken {f : Frame} (held : heldRequest kind s = some f) : LinkLaws (takeFrame f s).link := by
    obtain ⟨holding, free, _⟩ := heldRequest_eq_some.mp held
    exact laws.taken holding free
  refine serveRequest_induct (P := fun t => LinkLaws t.link) kind owner s laws
    (fun f held _ => ho f (taken held)) fun f held => ?_
  exact (taken held).served (by simp) (answer_changes _ _ _ (takeFrame f s) .port (by simp))

section
variable {s : State} (laws : LinkLaws s.link)
include laws

/-- The request that waits is answered in its slot, which is SERVING. -/
theorem LinkLaws.carryOutWaiting : LinkLaws (carryOutWaiting s).link := by
  unfold Machine.carryOutWaiting
  split
  · rename_i f serving
    have free : s.link.slot ≠ .sending := by simp [serving]
    split_ifs
    · exact laws
    · exact laws.served free (carryOutTune_changes f s .port (by simp))
    · exact laws.served free (carryOutUntune_changes f s .port (by simp))
    · exact laws
  · exact laws

theorem LinkLaws.answerUnknown : LinkLaws (answerUnknown s).link := by
  unfold Machine.answerUnknown
  split
  · rename_i f held
    have holding : s.link.assembler = .holding f ∧ s.link.slot = .empty :=
      heldFrame_eq_some.mp (Option.filter_eq_some_iff.mp held).1
    exact (laws.taken (f := f) holding.1 holding.2).served (by simp)
      (answer_changes _ _ _ (takeFrame f s) .port (by simp))
  · exact laws

variable (free : s.link.slot ≠ .sending) (f : Frame)
include free

theorem LinkLaws.serveGuide : LinkLaws (serveGuide f s).link := by
  have subscribed (guide : Bool) {reports : List Report} (fewer : reports.Sublist s.link.reports) :
      LinkLaws { s.link with guide := guide, reports := reports } := by
    obtain ⟨places, singles, lost⟩ := laws.queue
    exact ⟨laws.flow, laws.assembler, ⟨fewer.length_le.trans places, singlesOk_sublist fewer singles, lost⟩,
      laws.sequence, laws.transmitter, laws.counts⟩
  unfold Machine.serveGuide
  split
  · refine LinkLaws.withSlot (subscribed false ?_) free (by simp)
    split
    · exact List.filter_sublist
    · rfl
  · exact LinkLaws.withSlot (subscribed true (List.Sublist.refl _)) free (by simp)
  · exact laws.withSlot free (by simp)

theorem LinkLaws.serveSoftReset : LinkLaws (serveSoftReset f s).link := by
  have emptied : LinkLaws (softResetLink s.link) :=
    ⟨⟨Nat.zero_le 64, .inr rfl, .inl (Nat.zero_le 47)⟩, rfl, ⟨Nat.zero_le 16, rfl, laws.queue.2.2⟩,
      laws.sequence, laws.transmitter, laws.counts⟩
  exact emptied.withSlot free (by simp)

end

theorem exec_keeps_linkLaws {c : Instr} {s t : State} (laws : LinkLaws s.link) (h : exec c s = .next t) :
    LinkLaws t.link := by
  have request {kind : Nat} {owner : Frame → State → State}
      (e : stateAfter c s = serveRequest kind owner s)
      (ho : ∀ f s, Machine.served s.link (owner f s).link) : LinkLaws t.link := by
    rw [stateAfter_of_exec h, e]
    exact laws.serveRequest fun f taken => taken.served (by simp) (ho f _)
  have replies (f : Frame) (code : ResultCode) (body : ReplyBody) (s : State) :
      Machine.served s.link (answer f code body s).link := by simp
  cases c with
  | powerOnReset a b =>
    rw [stateAfter_of_exec h]
    refine ⟨⟨Nat.zero_le 64, .inr rfl, .inl (Nat.zero_le 47)⟩, rfl, ⟨Nat.zero_le 16, rfl, Nat.zero_le _⟩,
      Nat.zero_le 255, ⟨nofun, rfl⟩, Nat.zero_le _, Nat.zero_le _, Nat.zero_le _, Nat.zero_le _,
      Nat.zero_le _, Nat.zero_le _⟩
  | setLinkByteReceived b parityBit stopBit => exact Host.Outcome.next.inj h ▸ laws.receiveByte b parityBit stopBit
  | assemblerByte => exact Host.Outcome.next.inj h ▸ laws.assembleByte
  | interByteTimeout => exact Host.Outcome.next.inj h ▸ laws.interByteExpires
  | transmitChoice srdy => exact Host.Outcome.next.inj h ▸ laws.sampleAndChoose srdy
  | frameSent => exact Host.Outcome.next.inj h ▸ laws.frameSent
  | tuningAfterCell => exact Host.Outcome.next.inj h ▸ laws.carryOutWaiting
  | unknownKind => exact Host.Outcome.next.inj h ▸ laws.answerUnknown
  | status => exact request rfl fun f s => replies ..
  | tune => exact request rfl fun f s => unlessWaiting_changes f s carryOutTune_changes .port (by simp)
  | untune => exact request rfl fun f s => unlessWaiting_changes f s carryOutUntune_changes .port (by simp)
  | setOutput => exact request rfl fun f s => serveSetOutput_changes f s .port (by simp)
  | purchase => exact request rfl fun f s => servePurchase_changes f s .port (by simp)
  | cancel => exact request rfl fun f s => serveCancel_changes f s .port (by simp)
  | filmQuery => exact request rfl fun f s => serveFilmQuery_changes f s .port (by simp)
  | unlock => exact request rfl fun f s => serveUnlock_changes f s .port (by simp)
  | relock => exact request rfl fun f s => serveRelock_changes f s .port (by simp)
  | setPin => exact request rfl fun f s => serveSetPin_changes f s .port (by simp)
  | setCeiling => exact request rfl fun f s => serveSetCeiling_changes f s .port (by simp)
  | setStation => exact request rfl fun f s => serveSetStation_changes f s .port (by simp)
  | join => exact request rfl fun f s => serveJoin_changes f s .port (by simp)
  | leave => exact request rfl fun f s => serveLeave_changes f s .port (by simp)
  | loopConfig => exact request rfl fun f s => serveLoopConfig_changes f s .port (by simp)
  | restore => exact request rfl fun f s => serveRestore_changes f s .port (by simp)
  | guide =>
    rw [stateAfter_of_exec h]
    exact laws.serveRequest fun f taken => taken.serveGuide (by simp) f
  | softReset =>
    rw [stateAfter_of_exec h]
    exact laws.serveRequest fun f taken => taken.serveSoftReset (by simp) f
  | _ => exact laws.told (exec_agree h .port (by simp [footprint])) (exec_agree h .slot (by simp [footprint]))

/-- Settles O10, from `exec_keeps_linkLaws`. -/
theorem everyStepKeepsTheLinkLaws : Obligations.everyStepKeepsTheLinkLaws := by
  simp only [Obligations.everyStepKeepsTheLinkLaws, linkOk_iff]
  exact fun _ _ => step_keeps (P := fun s => LinkLaws s.link) (fun _ _ laws => laws)
    fun _ _ _ => exec_keeps_linkLaws

end Sys2Proof.Machine
end

section
/-! PROOFS. Bytes and frames received by the Set Link Port (R160, R162 to R165), its own requests (R166,
R170, R172, R179), and the frames it sends (R160, R166 to R169). -/

namespace Sys2Proof.Machine

/-! ### Bytes (R160, R162) -/

/-- Settles O52: a byte is lost at a full FIFO, and enters with its marks otherwise. -/
theorem bytesAreReceived : Obligations.bytesAreReceived := by
  intro s b parityBit stopBit odd
  refine ⟨fun room => ?_, fun full => ?_⟩
  · refine congrArg (fun l => Host.Outcome.next (s.setLink l)) ?_
    obtain ⟨full, _⟩ | ⟨_, e⟩ := receiveByte_cases b parityBit stopBit s.link
    · omega
    · rw [e]
      have mark : parityMark b parityBit = decide odd := by
        rw [parityMark, Bool.eq_iff_iff, beq_iff_eq, decide_eq_true_iff]
      have cts : (if 48 ≤ s.link.fifo.length + 1 then false else s.link.cts) =
          if 47 ≤ s.link.fifo.length then false else s.link.cts := by
        congr 1
        exact propext ⟨by omega, by omega⟩
      simp only [enterByte, receivedByte, mark, cts]
      cases s.link.assembler <;> rfl
  · refine congrArg (fun l => Host.Outcome.next (s.setLink l)) ?_
    obtain ⟨_, e⟩ | ⟨room, _⟩ := receiveByte_cases b parityBit stopBit s.link
    · exact e
    · omega

/-! ### Frames (R163 to R165) -/

theorem exec_assemblerByte_of_hunting {s : State} {b : FifoByte} {rest : List FifoByte}
    (fifo : s.link.fifo = b :: rest) (hunting : s.link.assembler = .hunting) :
    exec .assemblerByte s = .next (huntByte b (s.setLink (removeByte rest s.link))) := by
  refine congrArg Host.Outcome.next ?_
  simp only [assembleByte, fifo, hunting]

theorem exec_assemblerByte_of_assembling {s : State} {b : FifoByte} {rest : List FifoByte}
    {bytes : List Byte} {fault : Option LinkCause} (fifo : s.link.fifo = b :: rest)
    (assembling : s.link.assembler = .assembling bytes fault) :
    exec .assemblerByte s = .next (
      if bytes.length ≤ 1 then takeLengthByte b bytes (s.setLink (removeByte rest s.link))
      else takeLaterByte b bytes fault (s.setLink (removeByte rest s.link))) := by
  refine congrArg Host.Outcome.next ?_
  simp only [assembleByte, fifo, assembling]

theorem markCause_eq (b : FifoByte) : markCause b =
    if b.overrun = true ∨ b.framing = true ∨ b.parity = true then
      some (if b.overrun then LinkCause.overrun else if b.framing then .framing else .parity)
    else none := by
  unfold markCause
  cases b.overrun <;> cases b.framing <;> cases b.parity <;> rfl

theorem byteSum_cons (b : Byte) (bs : List Byte) : byteSum (b :: bs) = b.toNat + byteSum bs := by
  have shift (bs : List Byte) (n : Nat) :
      bs.foldl (fun n b => n + b.toNat) n = n + bs.foldl (fun n b => n + b.toNat) 0 := by
    induction bs generalizing n with
    | nil => rfl
    | cons b bs ih =>
      rw [List.foldl_cons, List.foldl_cons, ih, ih (0 + b.toNat)]
      omega
  rw [byteSum, List.foldl_cons, shift, byteSum]
  omega

theorem checkMatches_append (start : Byte) (bytes : List Byte) (check : Byte) :
    checkMatches (start :: bytes ++ [check]) = (check == BitVec.ofNat 8 (byteSum bytes)) := by
  simp [checkMatches, frameCheck, List.getLast?_cons]

theorem frameOf_append (start length kind tag check : Byte) (body : List Byte) :
    frameOf (start :: length :: kind :: tag :: body ++ [check]) = ⟨kind, tag, body⟩ := by
  simp [frameOf]

/-- Settles O53: the branches of the assembler, byte by byte. -/
theorem framesAreAssembled : Obligations.framesAreAssembled := by
  refine ⟨fun s b rest fifo => ?_, fun s bytes fault d assembling empty timer => ?_⟩
  · intro taken becomes marked mark bad
    have cause_of (h : marked) : markCause b = some mark := (markCause_eq b).trans (if_pos h)
    have cause_not (h : ¬ marked) : markCause b = none := (markCause_eq b).trans (if_neg h)
    have unmarked_iff : ¬ marked ↔ b.overrun = false ∧ b.framing = false ∧ b.parity = false := by
      simp only [marked, not_or, Bool.not_eq_true]
    refine ⟨fun hunting => ?_, fun start fault assembling => ?_,
      fun start length more fault assembling => ?_⟩
    · have hunts := exec_assemblerByte_of_hunting fifo hunting
      refine ⟨fun isStart unmarked => ?_, fun overrun => ?_, fun noOverrun other => ?_⟩
      · obtain ⟨overrun, framing, parity⟩ := unmarked_iff.mp unmarked
        simp only [becomes, hunts, huntByte, overrun, framing, parity, isStart]
        rfl
      · simp only [bad, becomes, hunts, huntByte, overrun, if_true]
        rfl
      · have notStart : ¬ (b.value = 0xA5#8 ∧ b.parity = false ∧ b.framing = false) := by
          rintro ⟨isStart, parity, framing⟩
          exact other.elim (· isStart) (unmarked_iff.mpr ⟨noOverrun, framing, parity⟩)
        simp only [becomes, hunts, huntByte, noOverrun, if_neg notStart]
        rfl
    · have takes := exec_assemblerByte_of_assembling fifo assembling
      rw [if_pos (show [start].length ≤ 1 from Nat.le_refl 1)] at takes
      refine ⟨fun h => ?_, fun unmarked long => ?_, fun unmarked short => ?_⟩
      · simp only [bad, becomes, takes, takeLengthByte, cause_of h]
        rfl
      · simp only [bad, becomes, takes, takeLengthByte, cause_not unmarked, if_pos long]
        rfl
      · simp only [becomes, takes, takeLengthByte, cause_not unmarked, if_neg (Nat.not_lt.mpr short)]
        rfl
    · have takes := exec_assemblerByte_of_assembling fifo assembling
      rw [if_neg (by simp)] at takes
      intro bytes cause
      have cause_eq : fault.or (markCause b) = cause := by
        simp only [cause, markCause_eq]
        cases fault with
        | none => by_cases h : marked <;> simp [marked, mark] at h ⊢
        | some x => simp
      have ends_iff : byteAt (start :: length :: more) 2 + 5 ≤ bytes.length ↔
          length.toNat + 3 ≤ more.length + 1 := by
        simp only [bytes, byteAt, List.getD_cons_succ, List.getD_cons_zero, List.length_append,
          List.length_cons, List.length_nil, Nat.add_one_sub_one]
        omega
      simp only [takeLaterByte, cause_eq, show start :: length :: more ++ [b.value] = bytes from rfl,
        ends_iff] at takes
      refine ⟨fun unfinished => ?_, fun x full faulty => ?_, fun kind tag body more_eq length_eq sound => ?_⟩
      · rw [if_neg (by omega)] at takes
        exact takes
      · rw [if_pos full, faulty] at takes
        exact takes
      · have full : length.toNat + 3 ≤ more.length + 1 := by simp [more_eq, length_eq]
        rw [if_pos full, sound] at takes
        have check := checkMatches_append start (length :: more) b.value
        have frame : frameOf bytes = ⟨kind, tag, body⟩ := by
          simp only [bytes, more_eq]
          exact frameOf_append ..
        refine ⟨fun same => ?_, fun differs => ?_⟩
        · rw [beq_iff_eq.mpr same] at check
          simp only [endFrame, bytes, check, if_true] at takes
          rw [← frame]
          exact takes
        · rw [beq_eq_false_iff_ne.mpr differs] at check
          simp only [endFrame, bytes, check] at takes
          exact takes
  · have expires : exec .interByteTimeout s = .next (discardFrame .timeout bytes s) := by
      refine congrArg Host.Outcome.next ?_
      simp only [interByteExpires, assembling, empty, timer]
    exact expires

/-! ### Requests of the wrong length or an unknown kind (R166, R179) -/

/-- A count byte that the body is long enough to hold. -/
theorem countByte_eq (bs : List Byte) (i : Nat) :
    (bs[i - 1]?).map (·.toNat) = if i - 1 < bs.length then some (byteAt bs i) else none := by
  split
  · rename_i h
    simp [byteAt, List.getD_eq_getElem?_getD, h]
  · rename_i h
    simp [List.getElem?_eq_none (Nat.le_of_not_lt h)]

theorem lengthMatches_of_some {f : Frame} {n : Nat} (h : lengthCalledFor f.kind.toNat f.body = some n) :
    lengthMatches f = true ↔ f.body.length = n ∧ n ≤ 253 := by
  simp [lengthMatches, h]

theorem lengthMatches_of_none {f : Frame} (h : lengthCalledFor f.kind.toNat f.body = none) :
    lengthMatches f = false := by
  simp [lengthMatches, h]

theorem serveRequest_of_wrong_length {kind : Nat} {f : Frame} {s : State} (owner : Frame → State → State)
    (holding : s.link.assembler = .holding f) (free : s.link.slot = .empty)
    (wrong : lengthMatches f = false) (h : f.kind.toNat = kind) :
    serveRequest kind owner s = { s with link := replied f .badRequest .codeOnly s.link } := by
  simp only [serveRequest, heldRequest_eq_some.mpr ⟨holding, free, h⟩, wrong, Bool.false_eq_true, if_false]
  rfl

theorem exec_unknownKind_of_held {f : Frame} {s : State} (holding : s.link.assembler = .holding f)
    (free : s.link.slot = .empty) (unknown : f.kind.toNat = 0 ∨ 0x12 < f.kind.toNat) :
    exec .unknownKind s = .next { s with link := replied f .unknownKind .codeOnly s.link } := by
  have held : (heldFrame s).filter (fun f => f.kind.toNat == 0 || 0x12 < f.kind.toNat) = some f := by
    rw [heldFrame_eq_some.mpr ⟨holding, free⟩]
    exact Option.filter_eq_some_iff.mpr ⟨rfl, by simpa using unknown⟩
  refine congrArg Host.Outcome.next ?_
  simp only [answerUnknown, held]
  rfl

theorem isGuideData_iff (r : Report) : isGuideData r = true ↔ reportKindByte r = 0x4A := by
  cases r <;> simp [isGuideData, reportKindByte]

theorem exec_guide_of_requested {f : Frame} {s : State} (h : requested 0x10 f s) :
    exec .guide s = .next (serveGuide f (takeFrame f s)) :=
  congrArg Host.Outcome.next (serveRequest_of_requested _ h)

/-- The lengths of R179. -/
theorem lengthMatches_iff (f : Frame) :
    let n := f.body.length
    let count (i : Nat) := byteAt f.body i
    let long (kinds : List Nat) (right : Prop) := f.kind.toNat ∈ kinds → (lengthMatches f = true ↔ right)
    long [0x01, 0x09, 0x0D, 0x0E, 0x12] (n = 0) ∧
    long [0x02, 0x05, 0x06, 0x07] (n = 2) ∧
    long [0x03, 0x0C, 0x0F, 0x10] (n = 1) ∧
    long [0x04] (n = 3) ∧
    long [0x08] (n ≤ 253 ∧ 1 ≤ n ∧ n = 1 + count 1) ∧
    long [0x0A] (n ≤ 253 ∧ 2 + count 1 ≤ n ∧ n = 2 + count 1 + count (2 + count 1)) ∧
    long [0x0B] (n ≤ 253 ∧ 2 ≤ n ∧ n = 2 + count 2) ∧
    long [0x11] (n ≤ 253 ∧ 22 ≤ n ∧ n = 24 + count 22 + 12 * count 20 + 10 * count 21) := by
  intro n count long
  have fixed {kinds : List Nat} {length : Nat} (small : length ≤ 253)
      (calls : ∀ kind ∈ kinds, ∀ body, lengthCalledFor kind body = some length) :
      long kinds (n = length) := fun mem => by
    rw [lengthMatches_of_some (calls _ mem _)]
    exact ⟨fun h => h.1, fun h => ⟨h, small⟩⟩
  have counted {kind need length : Nat} {right : Prop}
      (calls : lengthCalledFor kind f.body = if need ≤ n then some length else none)
      (means : right ↔ n ≤ 253 ∧ need ≤ n ∧ n = length) : long [kind] right := fun mem => by
    rw [← List.mem_singleton.mp mem] at calls
    rw [means]
    by_cases enough : need ≤ n
    · rw [if_pos enough] at calls
      rw [lengthMatches_of_some calls]
      constructor <;> (intro h; omega)
    · rw [if_neg enough] at calls
      simp [lengthMatches_of_none calls, enough]
  refine ⟨fixed (by omega) ?_, fixed (by omega) ?_, fixed (by omega) ?_, fixed (by omega) ?_,
    counted (need := 1) (length := 1 + count 1) ?_ Iff.rfl,
    counted (need := 2 + count 1) (length := 2 + count 1 + count (2 + count 1)) ?_ Iff.rfl,
    counted (need := 2) (length := 2 + count 2) ?_ Iff.rfl,
    counted (need := 22) (length := 24 + count 22 + 12 * count 20 + 10 * count 21) ?_ Iff.rfl⟩
  case refine_1 | refine_2 | refine_3 | refine_4 => simp [lengthCalledFor]
  all_goals
    simp only [lengthCalledFor, countByte_eq, n, count]
    split_ifs <;> simp <;> omega

/-- Settles O54: the kind decides the length, and GUIDE its reply by its one byte. -/
theorem thePortServesItsOwnRequests : Obligations.thePortServesItsOwnRequests := by
  intro s f
  refine ⟨lengthMatches_iff f, exec_unknownKind_of_held, fun holding free wrong => ?_, fun h => ?_⟩
  · have refused (kind : Nat) (owner : Frame → State → State) (h : f.kind.toNat = kind) :=
      congrArg (Host.Outcome.next : State → Host.Outcome State Fault Refusal)
        (serveRequest_of_wrong_length owner holding free wrong h)
    simp only [List.forall_mem_cons]
    exact ⟨refused _ _, refused _ _, refused _ _, refused _ _, refused _ _, refused _ _, refused _ _,
      refused _ _, refused _ _, refused _ _, refused _ _, refused _ _, refused _ _, refused _ _,
      refused _ _, refused _ _, refused _ _, refused _ _, nofun⟩
  · rw [exec_guide_of_requested h]
    refine ⟨fun on => ?_, fun off subscribed => ?_, fun off unsubscribed => ?_, fun bad => ?_⟩
    · simp only [serveGuide, on]
      rfl
    · have filtered : s.link.reports.filter (fun r => !isGuideData r) =
          s.link.reports.filter fun r => reportKindByte r != 0x4A := by
        congr 1
        funext r
        rw [Bool.eq_iff_iff]
        simp [← isGuideData_iff]
      simp only [serveGuide, off, takeFrame_link, subscribed, if_true, filtered]
      rfl
    · simp only [serveGuide, off, takeFrame_link, unsubscribed, Bool.false_eq_true, if_false]
      rw [← unsubscribed]
      rfl
    · have notFlag : serveGuide f (takeFrame f s) = answer f .badRequest .codeOnly (takeFrame f s) := by
        unfold serveGuide
        split <;> [omega; omega; rfl]
      rw [notFlag]
      rfl

/-! ### SOFT_RESET (R172) -/

/-- Settles O55: each block's share of the reset, and the reply. -/
theorem softResetSparesTheStay : Obligations.softResetSparesTheStay := fun _ _ h =>
  congrArg Host.Outcome.next (serveRequest_of_requested _ h)

/-! ### Reports and frames on STX (R160, R166 to R169) -/

/-- The kinds of which the queue holds at most one, by their bytes. -/
theorem sameSingleKind_iff_kindByte (x r : Report) : sameSingleKind x r = true ↔
    reportKindByte x = reportKindByte r ∧ (reportKindByte r = 0x41 ∨ reportKindByte r = 0x47) := by
  cases r <;> cases x <;> simp [sameSingleKind, reportKindByte]

theorem queueReport_of_single {r old : Report} {l : SetLink} {before after : List Report}
    (reports : l.reports = before ++ old :: after) (single : sameSingleKind old r = true)
    (others : ∀ x, x ∈ before ++ after → ¬ sameSingleKind x r = true) :
    queueReport r l = { l with reports := before ++ r :: after } := by
  have present : l.reports.any (sameSingleKind · r) = true := by simp [reports, single]
  have kept {rs : List Report} (h : ∀ x ∈ rs, ¬ sameSingleKind x r = true) : replaceReport r rs = rs :=
    (List.map_congr_left fun x hx => if_neg (h x hx)).trans (List.map_id' rs)
  have replaced : replaceReport r l.reports = before ++ r :: after := by
    rw [reports, replaceReport, List.map_append, List.map_cons, if_pos single]
    exact congrArg₂ (· ++ r :: ·) (kept fun x hx => others x (by simp [hx]))
      (kept fun x hx => others x (by simp [hx]))
  simp only [queueReport, present, if_true, replaced]

theorem queueReport_of_fresh {r : Report} {l : SetLink}
    (others : ∀ x, x ∈ l.reports → ¬ sameSingleKind x r = true) :
    queueReport r l = if l.reports.length < 16 then { l with reports := l.reports ++ [r] }
      else { l with lostReports := satInc l.lostReports } := by
  have fresh : l.reports.any (sameSingleKind · r) = false := by simpa using others
  simp only [queueReport, fresh, Bool.false_eq_true, if_false]

/-- A report's place in the order of the classes (R169). -/
def classRank : ReportClass → Nat
  | .urgent => 2
  | .guest => 1
  | .info => 0

theorem findIdx?_class_of_absent {c : ReportClass} {rs : List Report}
    (absent : ∀ x ∈ rs, reportClass x ≠ c) : rs.findIdx? (fun r => reportClass r == c) = none := by
  simpa [List.findIdx?_eq_none_iff] using absent

/-- The earliest report of the highest class is chosen. -/
theorem chosenReport_of_highest {before after : List Report} {r : Report}
    (first : ∀ x ∈ before, classRank (reportClass x) < classRank (reportClass r))
    (last : ∀ x ∈ after, classRank (reportClass x) ≤ classRank (reportClass r)) :
    chosenReport (before ++ r :: after) = some before.length := by
  have higher {c : ReportClass} (h : classRank (reportClass r) < classRank c) :
      (before ++ r :: after).findIdx? (fun x => reportClass x == c) = none := by
    refine findIdx?_class_of_absent fun x hx e => ?_
    rw [← e] at h
    rw [List.mem_append, List.mem_cons] at hx
    obtain hx | rfl | hx := hx
    · exact absurd (first x hx) (by omega)
    · exact absurd h (lt_irrefl _)
    · exact absurd (last x hx) (by omega)
  have own : (before ++ r :: after).findIdx? (fun x => reportClass x == reportClass r) =
      some before.length := by
    rw [List.findIdx?_append, findIdx?_class_of_absent fun x hx e => by
      have := first x hx
      rw [e] at this
      exact absurd this (lt_irrefl _)]
    simp [List.findIdx?_cons]
  unfold chosenReport
  dsimp only
  cases c : reportClass r with
  | urgent =>
    rw [c] at own
    rw [own]
    rfl
  | guest =>
    rw [c] at own
    rw [own, higher (by simp [c, classRank])]
    rfl
  | info =>
    rw [c] at own
    rw [own, higher (c := .urgent) (by simp [c, classRank]), higher (c := .guest) (by simp [c, classRank])]
    rfl

theorem chooseFrame_of_reports {l : SetLink} {before after : List Report} {r : Report}
    (notReady : ∀ x, l.slot ≠ .ready x) (reports : l.reports = before ++ r :: after)
    (chosen : chosenReport l.reports = some before.length) :
    chooseFrame l = { l with
      reports := before ++ after, transmitter := .report l.reportSeq r, begun := 1
      reportSeq := (l.reportSeq + 1) % 256 } := by
  have at_ : l.reports[before.length]? = some r := by simp [reports]
  have rest : l.reports.eraseIdx before.length = before ++ after := by
    simp [reports, List.eraseIdx_append]
  unfold chooseFrame
  split
  · rename_i x ready
    exact absurd ready (notReady x)
  · rw [chosen]
    dsimp only
    rw [at_]
    dsimp only
    rw [rest]

theorem chooseFrame_of_none {l : SetLink} (notReady : ∀ x, l.slot ≠ .ready x) (none : l.reports = []) :
    chooseFrame l = l := by
  unfold chooseFrame
  split
  · rename_i x ready
    exact absurd ready (notReady x)
  · rw [none]
    rfl

/-- A character's bits are those of its byte, least significant first, with even parity. -/
theorem stxCharacter_bits (b : Byte) : ∃ parity,
    stxCharacter b = [false, b[0], b[1], b[2], b[3], b[4], b[5], b[6], b[7], parity, true] ∧
      (stxCharacter b).count true % 2 = 1 := by
  refine ⟨(dataBits b).count true % 2 == 1, rfl, ?_⟩
  revert b
  decide

/-- Settles O56: admission, the choice of a frame and its bytes, each by its cases. -/
theorem framesAreSent : Obligations.framesAreSent := by
  refine ⟨fun r l => ?_, fun s srdy => ?_, fun t busy => ?_, stxCharacter_bits⟩
  · simp only [← sameSingleKind_iff_kindByte]
    refine ⟨fun before old after reports single others => queueReport_of_single reports single others,
      fun others => ⟨fun room => ?_, fun full _ => ?_⟩⟩
    · rw [queueReport_of_fresh others, if_pos room]
    · have count : satInc l.lostReports = if 65535 ≤ l.lostReports then 65535 else l.lostReports + 1 := by
        unfold satInc
        split <;> omega
      rw [queueReport_of_fresh others, if_neg (by omega), count]
  · intro looked chooses all ends rank
    have rank_eq (x : Report) : rank x = classRank (reportClass x) := by
      simp only [rank]
      cases reportClass x <;> rfl
    have choice {link : SetLink} (h : sampleAndChoose srdy s.link = link) : chooses link :=
      congrArg (fun l => Host.Outcome.next (s.setLink l)) h
    have ending {link : SetLink} (h : frameSent s.link = link) : ends link :=
      congrArg (fun l => Host.Outcome.next (s.setLink l)) h
    refine ⟨?_, ?_, ?_, ?_, ?_, ?_⟩
    · rintro rfl
      exact choice rfl
    · rintro rfl busy
      have begun : min (s.link.begun + 1) all = if s.link.begun < all then s.link.begun + 1 else all := by
        split <;> omega
      refine choice ?_
      rw [← begun]
      simp only [sampleAndChoose, if_true, if_neg busy]
      rfl
    · rintro rfl idle
      have chosen : sampleAndChoose true s.link = chooseFrame looked := by
        unfold sampleAndChoose
        rw [if_pos rfl, if_pos idle]
      refine ⟨fun r ready => choice (chosen.trans ?_), fun notReady => ⟨fun empty => choice (chosen.trans ?_),
        fun before r after reports first last => choice (chosen.trans ?_)⟩⟩
      · have ready' : looked.slot = .ready r := ready
        simp only [chooseFrame, ready']
      · exact chooseFrame_of_none notReady empty
      · simp only [rank_eq] at first last
        exact chooseFrame_of_reports (l := looked) notReady reports
          ((congrArg chosenReport reports).trans (chosenReport_of_highest first last))
    · rintro (unfinished | idle)
      · exact ending (if_neg unfinished)
      · refine ending ?_
        simp only [frameSent, endOfFrame, idle, ite_self]
    · rintro r finished reply
      refine ending ((if_pos finished).trans ?_)
      simp only [endOfFrame, reply]
    · rintro seq r finished report
      refine ending ((if_pos finished).trans ?_)
      simp only [endOfFrame, report]
  · cases t with
    | idle => exact absurd rfl busy
    | reply r =>
      refine ⟨r.kind, r.tag, be8 (resultByte r.code) ++ replyRest r.body, rfl, rfl, ?_, nofun⟩
      rintro _ ⟨⟩
      refine ⟨rfl, rfl, ?_, rfl⟩
      have rest : (replyRest r.body).length ≤ 252 := by
        unfold replyRest
        split <;> simp [be8]
      simp only [be8, List.length_append, List.length_singleton]
      omega
    | report seq r =>
      refine ⟨BitVec.ofNat 8 (reportKindByte r), BitVec.ofNat 8 seq, reportBody r, rfl, rfl, (fun _ e => by cases e), ?_⟩
      rintro _ _ ⟨⟩
      refine ⟨rfl, rfl, fun x snapshot => by simp only [snapshot, reportBody], fun notSnapshot => ?_⟩
      unfold reportBody
      split
      · exact absurd rfl (notSnapshot _)
      · exact List.length_take_le _ _

end Sys2Proof.Machine
end

section
/-! PROOFS. Every command completes, and one whose step is not enabled changes nothing. -/

namespace Sys2Proof.Machine

/-! ### Requests and messages that are not there (R149, R166) -/

theorem serveRequest_of_not_held {kind : Nat} {s : State} (owner : Frame → State → State)
    (h : ∀ f, s.link.assembler = .holding f ∧ s.link.slot = .empty → f.kind.toNat ≠ kind) :
    serveRequest kind owner s = s := by
  obtain ⟨_, e⟩ | ⟨f, held, _⟩ | ⟨f, held, _⟩ := serveRequest_cases kind owner s
  · exact e
  all_goals
    obtain ⟨holding, free, isKind⟩ := heldRequest_eq_some.mp held
    exact absurd isKind (h f ⟨holding, free⟩)

section
variable {s : State}

theorem nextMessage_eq_none (h : s.desk.handling ≠ none ∨ oldestFilled s.loop = none) :
    nextMessage s = none := by
  cases e : nextMessage s with
  | none => rfl
  | some x =>
    obtain ⟨free, filled, _⟩ := nextMessage_eq_some.mp e
    rcases h with busy | empty
    · exact absurd free busy
    · simp [empty] at filled

theorem nextMessage_of_atHandler {ix : BufferIx} {m : InboxMessage} (h : atHandler ix m s) :
    nextMessage s = some (ix, m, parseDesk m) := nextMessage_eq_some.mpr ⟨h.1, h.2, rfl⟩

theorem serveMessage_of_none (select : DeskMessage → Option (State → State))
    (h : nextMessage s = none) : serveMessage select s = s := by
  simp only [serveMessage, h]

theorem serveMessage_of_not_selected {select : DeskMessage → Option (State → State)} {ix : BufferIx}
    {m : InboxMessage} (h : atHandler ix m s) (other : ∀ d, parseDesk m = some d → select d = none) :
    serveMessage select s = s := by
  rw [serveMessage, nextMessage_of_atHandler h]
  cases parsed : parseDesk m with
  | none => rfl
  | some d => simp only [other d parsed]

theorem hearEnd_of_silence (select : Option LoopPacket → Option (HeardPacket → State → State))
    (h : s.loop.heard = none) : hearEnd select s = s := by
  simp only [hearEnd, h]

theorem hearEnd_of_not_selected {select : Option LoopPacket → Option (HeardPacket → State → State)}
    {h : HeardPacket} (heard : s.loop.heard = some h) (other : select h.packet = none) :
    hearEnd select s = s := by
  simp only [hearEnd, heard, other]

end

/-! ### Commands that are not enabled -/

section
variable {s : State}

theorem stateAfter_cellArrival_of_idle (h : s.descrambler.handedOn = [] ∨ s.descrambler.judging ≠ none ∨
    s.feed.state = .noFeed ∨ ∃ f, s.link.slot = .serving f) : stateAfter .cellArrival s = s := by
  obtain e | ⟨first, rest, handed, free, feed, notDue, _⟩ := execCellArrival_cases s
  · exact (stateAfter_of_exec (c := .cellArrival) e).symm
  · obtain none | busy | noFeed | ⟨f, serving⟩ := h
    · simp [none] at handed
    · exact absurd free busy
    · exact absurd noFeed feed
    · simp [tuningDue, serving] at notDue

theorem closeReady_iff (d : Descrambler) : closeReady d = true ↔
    (∀ h ∈ d.handedOn, ¬ (h.cell.film ≠ 0 ∧ h.closesAhead = 0)) ∧
      ∀ j, d.judging = some j → ¬ (j.cell.film ≠ 0 ∧ j.closesAhead = 0) := by
  unfold closeReady filmCellAhead
  cases d.judging <;> simp [List.all_eq_true, Decidable.or_iff_not_imp_left]

theorem stateAfter_feedSecondClose_of_idle (h : s.folio.closesDue = 0 ∨
    (∃ h, h ∈ s.descrambler.handedOn ∧ h.cell.film ≠ 0 ∧ h.closesAhead = 0) ∨
    (∃ j, s.descrambler.judging = some j ∧ j.cell.film ≠ 0 ∧ j.closesAhead = 0)) :
    stateAfter .feedSecondClose s = s := by
  obtain e | ⟨due, ready, _⟩ := execFeedSecondClose_cases s
  · exact (stateAfter_of_exec (c := .feedSecondClose) e).symm
  · obtain ⟨handed, judged⟩ := (closeReady_iff _).mp ready
    obtain none | ⟨x, mem, ahead⟩ | ⟨j, hj, ahead⟩ := h
    · omega
    · exact absurd ahead (handed x mem)
    · exact absurd ahead (judged j hj)

theorem assembleByte_of_idle (h : s.link.fifo = [] ∨ ∃ f, s.link.assembler = .holding f) :
    assembleByte s = s := by
  unfold assembleByte
  split
  · simp_all
  · simp_all
  · rfl

theorem interByteExpires_of_idle (h : s.link.fifo ≠ [] ∨ s.link.interByteTimer = none ∨
    ∀ bytes fault, s.link.assembler ≠ .assembling bytes fault) : interByteExpires s = s := by
  unfold interByteExpires
  split
  · simp_all
  · rfl

theorem answerUnknown_of_known (h : ∀ f, s.link.assembler = .holding f ∧ s.link.slot = .empty →
    1 ≤ f.kind.toNat ∧ f.kind.toNat ≤ 0x12) : answerUnknown s = s := by
  unfold answerUnknown
  split
  · rename_i f held
    obtain ⟨held, unknown⟩ := Option.filter_eq_some_iff.mp held
    have known := h f (heldFrame_eq_some.mp held)
    simp only [Bool.or_eq_true, beq_iff_eq, decide_eq_true_eq] at unknown
    omega
  · rfl

theorem frameSent_of_idle {l : SetLink}
    (h : l.transmitter = .idle ∨ l.begun ≠ (stxCharacters l.transmitter).length) : frameSent l = l := by
  unfold frameSent
  split
  · obtain idle | unfinished := h
    · simp only [endOfFrame, idle]
    · contradiction
  · rfl

theorem carryOutWaiting_of_idle (h : ∀ f, s.link.slot ≠ .serving f) : carryOutWaiting s = s := by
  unfold carryOutWaiting
  split
  · exact absurd ‹_› (h _)
  · rfl

theorem carryOutWaiting_of_judged {f : Frame} {ix : OutputIx} (serving : s.link.slot = .serving f)
    (index : outputIxOf (byteAt f.body 1) = some ix) (judged : ¬ unjudged ix s) :
    carryOutWaiting s = s := by
  simp only [carryOutWaiting, serving, waitsForCell_iff.mpr ⟨ix, index, judged⟩, if_true]

end

/-- A desk message command with nothing to take, or another message to handle. -/
theorem message_idle (s : State) (a : Bool) :
    let taken (c : Instr) (d : Option DeskMessage) : Bool := match c, d with
      | .malformedMessage, none => true
      | .checkIn, some (.guestStatus true false _) => true
      | .checkOut, some (.guestStatus false false _) => true
      | .vacateNow, some (.guestStatus _ true _) => true
      | .keyDelivery, some (.keyDelivery ..) => true
      | .keyWithdrawal, some (.keyWithdrawal ..) => true
      | .tariffSet, some (.tariffSet ..) => true
      | .tariffRemove, some (.tariffRemove _) => true
      | .time _, some (.time _) => true
      | .deskNote, some (.deskNote _) => true
      | .roomQuery, some .roomQuery => true
      | _, _ => false
    ∀ c, c ∈ [.malformedMessage, .checkIn, .checkOut, .vacateNow, .keyDelivery, .keyWithdrawal,
        .tariffSet, .tariffRemove, .time a, .deskNote, .roomQuery] →
      (s.desk.handling ≠ none ∨ oldestFilled s.loop = none → exec c s = .next s) ∧
      (∀ ix m, atHandler ix m s → taken c (parseDesk m) = false → exec c s = .next s) := by
  intro taken
  have served {c : Instr} {select : DeskMessage → Option (State → State)}
      (e : exec c s = .next (serveMessage select s))
      (other : ∀ d, taken c (some d) = false → select d = none) :
      (s.desk.handling ≠ none ∨ oldestFilled s.loop = none → exec c s = .next s) ∧
      (∀ ix m, atHandler ix m s → taken c (parseDesk m) = false → exec c s = .next s) := by
    rw [e]
    refine ⟨fun h => ?_, fun ix m h another => ?_⟩
    · rw [serveMessage_of_none select (nextMessage_eq_none h)]
    · rw [serveMessage_of_not_selected h fun d parsed => other d (parsed ▸ another)]
  simp only [List.forall_mem_cons]
  refine ⟨?_, served rfl ?_, served rfl ?_, served rfl ?_, served rfl ?_, served rfl ?_, served rfl ?_,
    served rfl ?_, served rfl ?_, ?_, served rfl ?_, nofun⟩
  · refine ⟨fun h => congrArg Host.Outcome.next ?_, fun ix m h another => congrArg Host.Outcome.next ?_⟩
    · simp only [discardMalformed, nextMessage_eq_none h]
    · rw [discardMalformed, nextMessage_of_atHandler h]
      cases parsed : parseDesk m with
      | none =>
        rw [parsed] at another
        cases another
      | some d => rfl
  case refine_10 =>
    refine ⟨fun h => congrArg Host.Outcome.next ?_, fun ix m h another => congrArg Host.Outcome.next ?_⟩
    · simp only [takeNote, nextMessage_eq_none h]
    · rw [takeNote, nextMessage_of_atHandler h]
      split
      · rename_i note
        simp only [Option.some.injEq, Prod.mk.injEq] at note
        rw [note.2.2] at another
        cases another
      · rfl
  all_goals
    intro d another
    split
    · cases another
    · rfl

/-- A packet's end with none being heard, or another one. -/
theorem packetEnd_idle (s : State) :
    let ends (c : Instr) (p : Option LoopPacket) : Bool := match c, p with
      | .faultyPacket, none => true
      | .tokenReceived, some (.token _) => true
      | .enquiryReceived, some (.enquiry ..) => true
      | .acceptReceived, some (.accept _) => true
      | .declineReceived, some (.decline _) => true
      | .dataAckReceived, some (.dataAck _) => true
      | .dataReceived, some (.data d _ _) => d != 0
      | .broadcastReceived, some (.data d _ _) => d == 0
      | _, _ => false
    ∀ c, c ∈ [.faultyPacket, .tokenReceived, .enquiryReceived, .acceptReceived, .declineReceived,
        .dataAckReceived, .dataReceived, .broadcastReceived] →
      (s.loop.heard = none → exec c s = .next s) ∧
      (∀ h, s.loop.heard = some h → ends c h.packet = false → exec c s = .next s) := by
  intro ends
  have served {c : Instr} {select : Option LoopPacket → Option (HeardPacket → State → State)}
      (e : exec c s = .next (hearEnd select s)) (other : ∀ p, ends c p = false → select p = none) :
      (s.loop.heard = none → exec c s = .next s) ∧
      (∀ h, s.loop.heard = some h → ends c h.packet = false → exec c s = .next s) := by
    rw [e]
    refine ⟨fun h => ?_, fun h heard another => ?_⟩
    · rw [hearEnd_of_silence select h]
    · rw [hearEnd_of_not_selected heard (other _ another)]
  simp only [List.forall_mem_cons]
  refine ⟨served rfl ?_, served rfl ?_, served rfl ?_, served rfl ?_, served rfl ?_, served rfl ?_,
    served rfl ?_, served rfl ?_, nofun⟩
  all_goals
    intro p another
    split
    · cases another
    · rfl

/-- Settles O2: a command's next state is `stateAfter`, and each clause is the command's own way out. -/
theorem everyCommandCompletes : Obligations.everyCommandCompletes := by
  refine ⟨fun c s => ⟨stateAfter c s, exec_eq_next c s, stateAfter_changes c s .pending ?_⟩,
    fun s a order => ?_⟩
  · cases c <;> simp [footprint]
  intro idle holds awaited
  have same {c : Instr} (h : stateAfter c s = s) : idle c := (exec_eq_next c s).trans (congrArg _ h)
  refine ⟨fun stopped => ?_, fun h => same (stateAfter_cellArrival_of_idle h), fun free => ?_,
    fun j hj film ahead => ?_, fun none => ?_, fun h => same (stateAfter_feedSecondClose_of_idle h),
    fun h => same (assembleByte_of_idle h), fun h => same (interByteExpires_of_idle h),
    fun h => same (answerUnknown_of_known h), ?_,
    fun h => same (congrArg s.setLink (frameSent_of_idle h)),
    fun h => same (carryOutWaiting_of_idle h),
    fun f ix serving index judged => same (carryOutWaiting_of_judged serving index judged), fun none => ?_,
    message_idle s a, packetEnd_idle s, fun none => ?_, fun h => ?_, fun h => ?_, fun none => ?_,
    fun unset => ?_, fun h => ?_⟩
  · refine congrArg Host.Outcome.next ?_
    simp only [loseFeed, stopped]
  · refine congrArg Host.Outcome.next ?_
    simp only [free]
  · refine congrArg Host.Outcome.next ?_
    simp only [hj, if_pos (And.intro film ahead)]
  · refine congrArg Host.Outcome.next ?_
    simp [none]
  · have request {kind : Nat} (owner : Frame → State → State)
        (h : ∀ f, holds f → f.kind.toNat ≠ kind) := congrArg
      (Host.Outcome.next : State → Host.Outcome State Fault Refusal) (serveRequest_of_not_held owner h)
    simp only [List.forall_mem_cons]
    exact ⟨request _, request _, request _, request _, request _, request _, request _, request _,
      request _, request _, request _, request _, request _, request _, request _, request _, request _,
      request _, nofun⟩
  · refine congrArg Host.Outcome.next ?_
    simp only [offerWaitingNote, none]
  · refine congrArg Host.Outcome.next ?_
    simp only [none]
  · refine congrArg Host.Outcome.next (if_neg ?_)
    rintro ⟨member, out, timer⟩
    obtain stopped | turn | away := h
    · simp [stopped] at timer
    · simp [turn] at out
    · exact member.elim away.1 away.2
  · refine congrArg Host.Outcome.next (if_neg ?_)
    rintro ⟨rebuilding, timer⟩
    obtain stopped | away := h
    · simp [stopped] at timer
    · exact away rebuilding
  · refine congrArg Host.Outcome.next ?_
    simp only [packetSent, none]
  · refine congrArg Host.Outcome.next (if_neg ?_)
    simp [unset]
  · refine congrArg Host.Outcome.next (if_neg ?_)
    rintro ⟨starting, timer⟩
    obtain away | stopped := h
    · exact away starting
    · simp [stopped] at timer

end Sys2Proof.Machine
end

section
/-! PROOFS. Layouts: packets and the station's messages (R125, R126, R158, R159, section 12.2), and the
snapshot (R174, section 12.4). -/

namespace Sys2Proof.Machine

/-! ### Fields (section 5.4) -/

theorem beNat_append_byte (bs : List Byte) (b : Byte) : beNat (bs ++ [b]) = beNat bs * 256 + b.toNat := by
  simp [beNat]

theorem beNat_be8 {n : Nat} (h : n < 256 ^ 1) : beNat (be8 n) = n := by
  simp only [be8, beNat, List.foldl_cons, List.foldl_nil, BitVec.toNat_ofNat]
  omega

theorem beNat_be16 {n : Nat} (h : n < 256 ^ 2) : beNat (be16 n) = n := by
  simp only [be16, beNat, List.foldl_cons, List.foldl_nil, BitVec.toNat_ofNat]
  omega

theorem beNat_be24 {n : Nat} (h : n < 256 ^ 3) : beNat (be24 n) = n := by
  simp only [be24, beNat, List.foldl_cons, List.foldl_nil, BitVec.toNat_ofNat]
  omega

theorem toNat_byte {n : Nat} (h : n ≤ 255) : (BitVec.ofNat 8 n).toNat = n := by
  rw [BitVec.toNat_ofNat]
  omega

section
variable {bs : List Byte} {first n : Nat}

theorem field_be8 (place : (bs.drop (first - 1)).take 1 = be8 n) (fits : n < 256 ^ 1) :
    field bs first 1 = n := (congrArg beNat place).trans (beNat_be8 fits)

theorem field_be16 (place : (bs.drop (first - 1)).take 2 = be16 n) (fits : n < 256 ^ 2) :
    field bs first 2 = n := (congrArg beNat place).trans (beNat_be16 fits)

theorem field_be24 (place : (bs.drop (first - 1)).take 3 = be24 n) (fits : n < 256 ^ 3) :
    field bs first 3 = n := (congrArg beNat place).trans (beNat_be24 fits)

end

/-! ### Packets (R125, R126) -/

theorem judgePacket_data {d src : Byte} {body rest : List Byte} (some_byte : 1 ≤ body.length)
    (few : body.length ≤ 64) :
    let head := 0x36#8 :: d :: src :: BitVec.ofNat 8 body.length :: body
    judgePacket (head ++ be16 (byteSum head % 65536) ++ rest) =
      some (.data d.toNat src.toNat body) := by
  intro head
  have length : (BitVec.ofNat 8 body.length).toNat = body.length := toNat_byte (by omega)
  have enough : ¬ (body.length = 0 ∨ 64 < body.length ∨
      (body ++ be16 (byteSum head % 65536) ++ rest).length < body.length + 2) := by
    simp only [be16, List.length_append, List.length_cons, List.length_nil]
    omega
  have summed : byteSum ((head ++ be16 (byteSum head % 65536) ++ rest).take (4 + body.length)) % 65536 =
      beNat (((body ++ be16 (byteSum head % 65536) ++ rest).drop body.length).take 2) := by
    have front : (head ++ be16 (byteSum head % 65536) ++ rest).take (4 + body.length) = head := by
      rw [List.append_assoc]
      exact List.take_left' (by simp [head]; omega)
    have back : ((body ++ be16 (byteSum head % 65536) ++ rest).drop body.length).take 2 =
        be16 (byteSum head % 65536) := by
      rw [List.append_assoc, List.drop_left]
      rfl
    rw [front, back]
    exact (beNat_be16 (Nat.mod_lt (byteSum head) (by decide : 0 < 65536))).symm
  have body_eq : (body ++ be16 (byteSum head % 65536) ++ rest).take body.length = body := by
    rw [List.append_assoc, List.take_left]
  simp only [head, List.cons_append] at summed enough body_eq ⊢
  simp only [judgePacket, length, if_neg enough, if_pos summed, body_eq]

theorem judgePacket_packetBytes (p : LoopPacket) (rest : List Byte) (fits : packetFits p = true) :
    judgePacket (packetBytes p ++ rest) = some p := by
  cases p with
  | data d src body =>
    simp only [packetFits, Bool.and_eq_true, decide_eq_true_eq] at fits
    obtain ⟨⟨⟨hd, hsrc⟩, some_byte⟩, few⟩ := fits
    have judged := judgePacket_data (d := BitVec.ofNat 8 d) (src := BitVec.ofNat 8 src) (rest := rest)
      some_byte few
    rw [toNat_byte hd, toNat_byte hsrc] at judged
    exact judged
  | enquiry d src =>
    simp only [packetFits, Bool.and_eq_true, decide_eq_true_eq] at fits
    simp [packetBytes, judgePacket, be8, Nat.mod_eq_of_lt (Nat.lt_succ_of_le fits.1),
      Nat.mod_eq_of_lt (Nat.lt_succ_of_le fits.2)]
  | token d | accept d | decline d | dataAck d =>
    simp only [packetFits, decide_eq_true_eq] at fits
    simp [packetBytes, judgePacket, be8, Nat.mod_eq_of_lt (Nat.lt_succ_of_le fits)]

/-- Settles O11: every field is one of `be8`, `be16` and `be24` in its place. -/
theorem packetsReadBackAsSent : Obligations.packetsReadBackAsSent := by
  refine ⟨judgePacket_packetBytes, fun p rest => rfl, fun stay r => ?_, fun s => ?_⟩
  · intro b carries
    have kind (h : recordMessageKind r.kind < 256) : field b 1 1 = recordMessageKind r.kind :=
      field_be8 rfl h
    refine ⟨rfl, fun _ => (kind ?_).trans ?_, field_be16 rfl, field_be16 rfl, field_be16 rfl, field_be24 rfl,
      field_be24 rfl⟩
    · cases r.kind <;> decide
    · cases r.kind <;> rfl
  · have flags : flagBit s.gate.unlockExpiry.isSome 4 + flagBit s.gate.lockoutExpiry.isSome 2 +
        flagBit s.gate.pin.isSome 1 = (if s.gate.unlockExpiry = none then 0 else 4) +
        (if s.gate.lockoutExpiry = none then 0 else 2) + (if s.gate.pin = none then 0 else 1) := by
      cases s.gate.unlockExpiry <;> cases s.gate.lockoutExpiry <;> cases s.gate.pin <;> rfl
    have clockSet : flagBit s.clock.set 1 = if s.clock.set then 1 else 0 := by
      cases s.clock.set <;> rfl
    simp only [roomReportBody, List.append_assoc]
    refine ⟨by simp [be8, be16, be24], field_be8 rfl, field_be8 rfl, fun _ => ?_, field_be16 rfl,
      fun h => ?_, field_be24 rfl, field_be24 rfl, field_be24 rfl, field_be8 rfl, field_be8 rfl,
      field_be8 rfl, field_be8 rfl, fun _ => (field_be8 rfl ?_).trans flags,
      fun _ => (field_be8 rfl ?_).trans clockSet, field_be24 rfl, fun _ => ?_, field_be16 rfl,
      field_be16 rfl, field_be16 rfl⟩
    · refine (field_be8 (n := roomCode s.stay.room) rfl ?_).trans ?_
      · cases s.stay.room <;> decide
      · cases s.stay.room <;> rfl
    · revert h
      unfold pendingStay
      cases s.stay.pendingCheckIn <;> exact field_be16 rfl
    · rw [flags]
      split_ifs <;> decide
    · rw [clockSet]
      split_ifs <;> decide
    · refine (field_be8 (n := feedCode s.feed.state) rfl ?_).trans ?_
      · cases s.feed.state <;> decide
      · cases s.feed.state <;> rfl

/-! ### The snapshot (section 12.4) -/

theorem field_append_left {pre post : List Byte} {first count : Nat}
    (h : first - 1 + count ≤ pre.length) : field (pre ++ post) first count = field pre first count := by
  unfold field
  rw [List.drop_append_of_le_length (by omega), List.take_append_of_le_length (by
    rw [List.length_drop]; omega)]

theorem field_append_right (pre post : List Byte) {first : Nat} (count : Nat) (h : 1 ≤ first) :
    field (pre ++ post) (pre.length + first) count = field post first count := by
  unfold field
  rw [show pre.length + first - 1 = pre.length + (first - 1) by omega, ← List.drop_drop, List.drop_left]

/-- Blocks of one length, the first at the front. -/
theorem take_drop_flatMap {α : Type} {f : α → List Byte} {size : Nat} (sizes : ∀ x, (f x).length = size)
    (xs : List α) (post : List Byte) {i : Nat} {x : α} (h : xs[i]? = some x) :
    ((xs.flatMap f ++ post).drop (size * i)).take size = f x := by
  induction xs generalizing i with
  | nil => simp at h
  | cons y xs ih =>
    cases i with
    | zero =>
      obtain rfl : y = x := by simpa using h
      rw [Nat.mul_zero, List.drop_zero, List.flatMap_cons, List.append_assoc, ← sizes y, List.take_left]
    | succ i =>
      have next : size * (i + 1) = (f y).length + size * i := by rw [sizes]; ring
      rw [next, List.flatMap_cons, List.append_assoc, ← List.drop_drop, List.drop_left]
      exact ih (by simpa using h)

theorem length_flatMap {α : Type} {f : α → List Byte} {size : Nat} (sizes : ∀ x, (f x).length = size)
    (xs : List α) : (xs.flatMap f).length = size * xs.length := by
  induction xs with
  | nil => rfl
  | cons x xs ih => rw [List.flatMap_cons, List.length_append, sizes, ih, List.length_cons]; ring

@[simp] theorem length_snapEntryBytes (e : SnapEntry) : (snapEntryBytes e).length = 12 := rfl
@[simp] theorem length_snapRecordBytes (r : SnapRecord) : (snapRecordBytes r).length = 10 := rfl
@[simp] theorem length_be8 (n : Nat) : (be8 n).length = 1 := rfl

/-- The 22 bytes of the fields before the lists. -/
def snapshotFront (x : Snapshot) : List Byte :=
  be16 x.stay ++ (be8 x.closing ++ (be24 x.total ++ (be24 x.cap ++ (be8 x.quality ++ (be16 x.nextSerial ++
    (be8 (x.roomCeiling * 16 + x.hardCeiling) ++ (be16 x.grace ++ (be16 x.previewAllowance ++
      (be8 x.unlockDuration ++ (be8 x.lockoutLength ++ (be8 x.entries.length ++
        (be8 x.records.length ++ be8 x.digits.length))))))))))))

theorem length_snapshotFront (x : Snapshot) : (snapshotFront x).length = 22 := rfl

theorem snapshotHead_eq (x : Snapshot) : snapshotHead x = snapshotFront x ++ (x.digits.flatMap be8 ++
    (x.entries.flatMap snapEntryBytes ++ x.records.flatMap snapRecordBytes)) := by
  simp only [snapshotHead, snapshotFront, List.append_assoc]

theorem snapshotBytes_eq (x : Snapshot) : snapshotBytes x = snapshotFront x ++ (x.digits.flatMap be8 ++
    (x.entries.flatMap snapEntryBytes ++ (x.records.flatMap snapRecordBytes ++
      be16 (byteSum (snapshotHead x) % 65536)))) := by
  rw [snapshotBytes, snapshotHead_eq]
  simp only [List.append_assoc]

theorem length_snapshotHead (x : Snapshot) : (snapshotHead x).length =
    22 + x.digits.length + 12 * x.entries.length + 10 * x.records.length := by
  rw [snapshotHead_eq]
  simp only [List.length_append, length_snapshotFront, length_flatMap length_be8,
    length_flatMap length_snapEntryBytes, length_flatMap length_snapRecordBytes]
  omega

theorem length_snapshotBytes (x : Snapshot) : (snapshotBytes x).length =
    24 + x.digits.length + 12 * x.entries.length + 10 * x.records.length := by
  rw [snapshotBytes, List.length_append, length_snapshotHead]
  simp only [be16, List.length_cons, List.length_nil]
  omega

/-- The fields of a snapshot fit their bytes. -/
structure SnapshotFits (x : Snapshot) : Prop where
  stay : x.stay < 65536
  closing : x.closing < 256
  total : x.total < 16777216
  cap : x.cap < 16777216
  quality : x.quality < 256
  nextSerial : x.nextSerial < 65536
  ceilings : x.roomCeiling < 16 ∧ x.hardCeiling < 16
  grace : x.grace < 65536
  previewAllowance : x.previewAllowance < 65536
  unlockDuration : x.unlockDuration < 256
  lockoutLength : x.lockoutLength < 256
  digits : x.digits.length < 256 ∧ ∀ d ∈ x.digits, d < 256
  entries : x.entries.length < 256 ∧ ∀ e ∈ x.entries, snapEntryFits e = true
  records : x.records.length < 256 ∧ ∀ r ∈ x.records, snapRecordFits r = true

theorem SnapshotFits.of_snapshotFits {x : Snapshot} (h : snapshotFits x = true) : SnapshotFits x := by
  simp only [snapshotFits, Bool.and_eq_true, decide_eq_true_eq, List.all_eq_true, and_assoc] at h
  obtain ⟨stay, closing, total, cap, quality, nextSerial, room, hard, grace, preview, unlock, lockout, digits,
    digit, entries, entry, records, record⟩ := h
  constructor
  case digits => exact ⟨Nat.lt_succ_of_le digits, fun d hd => Nat.lt_succ_of_le (digit d hd)⟩
  case entries => exact ⟨Nat.lt_succ_of_le entries, entry⟩
  case records => exact ⟨Nat.lt_succ_of_le records, record⟩
  all_goals omega

/-- A field of a block of the bytes. -/
theorem field_block (bs : List Byte) (before size first count : Nat) (low : 1 ≤ first)
    (high : first - 1 + count ≤ size) :
    field bs (before + first) count = field ((bs.drop before).take size) first count := by
  unfold field
  rw [show before + first - 1 = before + (first - 1) by omega, ← List.drop_drop, List.drop_take,
    List.take_take, Nat.min_eq_left (by omega)]

theorem byteAt_eq_field {bs : List Byte} {i : Nat} (h : i - 1 < bs.length) : byteAt bs i = field bs i 1 := by
  have one : (bs.drop (i - 1)).take 1 = [bs[i - 1]] := by
    rw [List.drop_eq_getElem_cons h]
    rfl
  rw [field, one, byteAt, List.getD_eq_getElem _ _ h]
  simp [beNat]

section
variable {x : Snapshot} (fits : SnapshotFits x)
include fits

/-- The fields before the lists, in their places. -/
theorem snapshot_front_fields :
    let lies (first count value : Nat) := field (snapshotBytes x) first count = value
    lies 1 2 x.stay ∧ lies 3 1 x.closing ∧ lies 4 3 x.total ∧ lies 7 3 x.cap ∧ lies 10 1 x.quality ∧
    lies 11 2 x.nextSerial ∧ lies 13 1 (x.roomCeiling * 16 + x.hardCeiling) ∧ lies 14 2 x.grace ∧
    lies 16 2 x.previewAllowance ∧ lies 18 1 x.unlockDuration ∧ lies 19 1 x.lockoutLength ∧
    lies 20 1 x.entries.length ∧ lies 21 1 x.records.length ∧ lies 22 1 x.digits.length := by
  have front {first count value : Nat} (inside : first - 1 + count ≤ 22)
      (h : field (snapshotFront x) first count = value) :
      field (snapshotBytes x) first count = value := by
    rw [snapshotBytes_eq, field_append_left (by rwa [length_snapshotFront]), h]
  exact ⟨front (by decide) (field_be16 rfl fits.stay), front (by decide) (field_be8 rfl fits.closing),
    front (by decide) (field_be24 rfl fits.total), front (by decide) (field_be24 rfl fits.cap),
    front (by decide) (field_be8 rfl fits.quality), front (by decide) (field_be16 rfl fits.nextSerial),
    front (by decide) (field_be8 rfl (by have := fits.ceilings; omega)),
    front (by decide) (field_be16 rfl fits.grace), front (by decide) (field_be16 rfl fits.previewAllowance),
    front (by decide) (field_be8 rfl fits.unlockDuration), front (by decide) (field_be8 rfl fits.lockoutLength),
    front (by decide) (field_be8 rfl fits.entries.1), front (by decide) (field_be8 rfl fits.records.1),
    front (by decide) (field_be8 rfl fits.digits.1)⟩

omit fits in
theorem drop_snapshotBytes_digits : (snapshotBytes x).drop 22 = x.digits.flatMap be8 ++
    (x.entries.flatMap snapEntryBytes ++ (x.records.flatMap snapRecordBytes ++
      be16 (byteSum (snapshotHead x) % 65536))) := by
  rw [snapshotBytes_eq, ← length_snapshotFront x, List.drop_left]

omit fits in
theorem drop_snapshotBytes_entries : (snapshotBytes x).drop (22 + x.digits.length) =
    x.entries.flatMap snapEntryBytes ++ (x.records.flatMap snapRecordBytes ++
      be16 (byteSum (snapshotHead x) % 65536)) := by
  have digits : x.digits.length = (x.digits.flatMap be8).length := by
    rw [length_flatMap length_be8, Nat.one_mul]
  rw [← List.drop_drop, drop_snapshotBytes_digits, digits, List.drop_left]

omit fits in
theorem drop_snapshotBytes_records :
    (snapshotBytes x).drop (22 + x.digits.length + 12 * x.entries.length) =
      x.records.flatMap snapRecordBytes ++ be16 (byteSum (snapshotHead x) % 65536) := by
  rw [← List.drop_drop, drop_snapshotBytes_entries, ← length_flatMap length_snapEntryBytes, List.drop_left]

omit fits in
theorem snapshotBytes_entry {i : Nat} {e : SnapEntry} (h : x.entries[i]? = some e) :
    ((snapshotBytes x).drop (22 + x.digits.length + 12 * i)).take 12 = snapEntryBytes e := by
  rw [← List.drop_drop, drop_snapshotBytes_entries]
  exact take_drop_flatMap length_snapEntryBytes _ _ h

omit fits in
theorem snapshotBytes_record {i : Nat} {r : SnapRecord} (h : x.records[i]? = some r) :
    ((snapshotBytes x).drop (22 + x.digits.length + 12 * x.entries.length + 10 * i)).take 10 =
      snapRecordBytes r := by
  rw [← List.drop_drop, drop_snapshotBytes_records]
  exact take_drop_flatMap length_snapRecordBytes _ _ h

omit fits in
theorem snapshotBytes_digit {i d : Nat} (h : x.digits[i]? = some d) :
    ((snapshotBytes x).drop (22 + i)).take 1 = be8 d := by
  rw [← List.drop_drop, drop_snapshotBytes_digits]
  have block := take_drop_flatMap length_be8 x.digits (x.entries.flatMap snapEntryBytes ++
    (x.records.flatMap snapRecordBytes ++ be16 (byteSum (snapshotHead x) % 65536))) h
  rwa [Nat.one_mul] at block

end

/-- The fields of an entitlement in its 12 bytes. -/
theorem snapEntry_fields {e : SnapEntry} (fits : snapEntryFits e = true) :
    let lies (first count value : Nat) := field (snapEntryBytes e) first count = value
    lies 1 2 e.film ∧ lies 3 1 e.state ∧ lies 4 2 e.price ∧ lies 6 2 e.clear ∧ lies 8 2 e.impaired ∧
      lies 10 3 e.windowEnd := by
  simp only [snapEntryFits, Bool.and_eq_true, decide_eq_true_eq, and_assoc] at fits
  obtain ⟨film, state, price, clear, impaired, windowEnd⟩ := fits
  exact ⟨field_be16 rfl (Nat.lt_succ_of_le film), field_be8 rfl (Nat.lt_succ_of_le state),
    field_be16 rfl (Nat.lt_succ_of_le price), field_be16 rfl (Nat.lt_succ_of_le clear),
    field_be16 rfl (Nat.lt_succ_of_le impaired), field_be24 rfl (Nat.lt_succ_of_le windowEnd)⟩

/-- The fields of a record in its 10 bytes. -/
theorem snapRecord_fields {r : SnapRecord} (fits : snapRecordFits r = true) :
    let lies (first count value : Nat) := field (snapRecordBytes r) first count = value
    lies 1 2 r.serial ∧ lies 3 2 (r.kind * 16384 + r.spare * 4096 + r.film) ∧ lies 5 3 r.amount ∧
      lies 8 3 r.minute := by
  simp only [snapRecordFits, Bool.and_eq_true, decide_eq_true_eq, and_assoc] at fits
  obtain ⟨serial, kind, spare, film, amount, minute⟩ := fits
  exact ⟨field_be16 rfl (Nat.lt_succ_of_le serial), field_be16 rfl (by omega),
    field_be24 rfl (Nat.lt_succ_of_le amount), field_be24 rfl (Nat.lt_succ_of_le minute)⟩

theorem parseSnapEntry_snapEntryBytes {e : SnapEntry} (fits : snapEntryFits e = true) :
    parseSnapEntry (snapEntryBytes e) = e := by
  obtain ⟨film, state, price, clear, impaired, windowEnd⟩ := snapEntry_fields fits
  rw [parseSnapEntry, byteAt_eq_field (by simp), film, state, price, clear, impaired, windowEnd]

theorem parseSnapRecord_snapRecordBytes {r : SnapRecord} (fits : snapRecordFits r = true) :
    parseSnapRecord (snapRecordBytes r) = r := by
  obtain ⟨serial, kind, amount, minute⟩ := snapRecord_fields fits
  simp only [snapRecordFits, Bool.and_eq_true, decide_eq_true_eq, and_assoc] at fits
  obtain ⟨_, kindFits, spareFits, filmFits, _, _⟩ := fits
  have kindByte : byteAt (snapRecordBytes r) 3 = (r.kind * 16384 + r.spare * 4096 + r.film) / 256 := by
    have two : byteAt (snapRecordBytes r) 3 =
        (BitVec.ofNat 8 ((r.kind * 16384 + r.spare * 4096 + r.film) / 256)).toNat := rfl
    rw [two, BitVec.toNat_ofNat]
    omega
  rw [parseSnapRecord, kindByte, serial, kind, amount, minute]
  obtain ⟨serial, kind, spare, film, amount, minute⟩ := r
  dsimp only at *
  congr 1 <;> omega

/-! ### The whole snapshot -/

theorem digitsOf_flatMap_be8 {digits : List Nat} (fits : ∀ d ∈ digits, d < 256) :
    digitsOf (digits.flatMap be8) = digits := by
  induction digits with
  | nil => rfl
  | cons d ds ih =>
    have rest := ih fun d hd => fits d (List.mem_cons_of_mem _ hd)
    have first := toNat_byte (Nat.le_of_lt_succ (fits d (List.mem_cons_self ..)))
    simp only [digitsOf, List.flatMap_cons, be8, List.map_append, List.map_cons, List.map_nil, first] at rest ⊢
    rw [rest]
    rfl

/-- The check sum's place, and its value. -/
theorem drop_snapshotBytes_check (x : Snapshot) :
    (snapshotBytes x).take ((snapshotBytes x).length - 2) = snapshotHead x ∧
      (snapshotBytes x).drop ((snapshotBytes x).length - 2) = be16 (byteSum (snapshotHead x) % 65536) := by
  have place : (snapshotBytes x).length - 2 = (snapshotHead x).length := by
    rw [length_snapshotBytes, length_snapshotHead]
    omega
  rw [place]
  exact ⟨List.take_left, List.drop_left⟩

theorem checkSum_fits (bs : List Byte) : byteSum bs % 65536 < 256 ^ 2 :=
  Nat.mod_lt (byteSum bs) (by decide : 0 < 65536)

theorem snapshotCheckOk_snapshotBytes (x : Snapshot) : snapshotCheckOk (snapshotBytes x) = true := by
  obtain ⟨front, sum⟩ := drop_snapshotBytes_check x
  rw [snapshotCheckOk, front, sum, beNat_be16 (checkSum_fits _), beq_self_eq_true]

section
variable {x : Snapshot} (fits : SnapshotFits x)
include fits

theorem snapshot_counts : byteAt (snapshotBytes x) 20 = x.entries.length ∧
    byteAt (snapshotBytes x) 21 = x.records.length ∧ byteAt (snapshotBytes x) 22 = x.digits.length := by
  obtain ⟨_, _, _, _, _, _, _, _, _, _, _, entries, records, digits⟩ := snapshot_front_fields fits
  have long := length_snapshotBytes x
  rw [byteAt_eq_field (by omega), byteAt_eq_field (by omega), byteAt_eq_field (by omega)]
  exact ⟨entries, records, digits⟩

theorem lengthCalledFor_snapshotBytes :
    lengthCalledFor 0x11 (snapshotBytes x) = some (snapshotBytes x).length := by
  obtain ⟨entries, records, digits⟩ := snapshot_counts fits
  have long := length_snapshotBytes x
  simp only [lengthCalledFor, countByte_eq, entries, records, digits]
  rw [if_pos (by omega), if_pos (by omega), if_pos (by omega), long]
  rfl

theorem parseSnapshot_snapshotBytes : parseSnapshot (snapshotBytes x) = x := by
  obtain ⟨entryCount, recordCount, digitCount⟩ := snapshot_counts fits
  obtain ⟨stay, closing, total, cap, quality, nextSerial, ceilings, grace, preview, unlock, lockout, _⟩ :=
    snapshot_front_fields fits
  have long := length_snapshotBytes x
  have digits : digitsOf (((snapshotBytes x).drop 22).take x.digits.length) = x.digits := by
    have width := length_flatMap length_be8 x.digits
    rw [Nat.one_mul] at width
    rw [drop_snapshotBytes_digits, ← width, List.take_left, digitsOf_flatMap_be8 fits.digits.2]
  have entries : (List.range x.entries.length).map (fun i =>
      parseSnapEntry (((snapshotBytes x).drop (22 + x.digits.length + 12 * i)).take 12)) = x.entries := by
    refine List.ext_getElem (by simp) fun i hi hi' => ?_
    rw [List.getElem_map, List.getElem_range, snapshotBytes_entry (List.getElem?_eq_getElem hi'),
      parseSnapEntry_snapEntryBytes (fits.entries.2 _ (List.getElem_mem hi'))]
  have records : (List.range x.records.length).map (fun i =>
      parseSnapRecord (((snapshotBytes x).drop
        (22 + x.digits.length + 12 * x.entries.length + 10 * i)).take 10)) = x.records := by
    refine List.ext_getElem (by simp) fun i hi hi' => ?_
    rw [List.getElem_map, List.getElem_range, snapshotBytes_record (List.getElem?_eq_getElem hi'),
      parseSnapRecord_snapRecordBytes (fits.records.2 _ (List.getElem_mem hi'))]
  have byte {i : Nat} (h : i < 24) : byteAt (snapshotBytes x) i = field (snapshotBytes x) i 1 :=
    byteAt_eq_field (by omega)
  have room : (x.roomCeiling * 16 + x.hardCeiling) / 16 = x.roomCeiling := by
    have := fits.ceilings
    omega
  have hard : (x.roomCeiling * 16 + x.hardCeiling) % 16 = x.hardCeiling := by
    have := fits.ceilings
    omega
  rw [← byte (by decide)] at closing quality ceilings unlock lockout
  unfold parseSnapshot
  simp only [entryCount, recordCount, digitCount, digits, entries, records, stay, closing,
    total, cap, quality, nextSerial, ceilings, room, hard, grace, preview, unlock, lockout]

end

/-- Settles O12: the fields of the front, of each block, and the sum. -/
theorem snapshotsReadBackAsWritten : Obligations.snapshotsReadBackAsWritten := by
  intro x ok
  have fits := SnapshotFits.of_snapshotFits ok
  obtain ⟨stay, closing, total, cap, quality, nextSerial, ceilings, grace, preview, unlock, lockout,
    entries, records, digits⟩ := snapshot_front_fields fits
  refine ⟨parseSnapshot_snapshotBytes fits, snapshotCheckOk_snapshotBytes x, length_snapshotBytes x,
    lengthCalledFor_snapshotBytes fits, stay, closing, total, cap, quality, nextSerial, ?_, grace, preview,
    unlock, lockout, entries, records, digits, fun i d h => ?_, fun i e h => ?_, fun i r h => ?_, ?_⟩
  · rw [Nat.mul_comm]
    exact ceilings
  · change field (snapshotBytes x) (23 + i) 1 = d
    rw [show 23 + i = 22 + i + 1 by omega, field_block _ _ 1 1 1 (by decide) (by decide),
      snapshotBytes_digit h]
    exact field_be8 rfl (fits.digits.2 d (List.mem_of_getElem? h))
  · obtain ⟨film, state, price, clear, impaired, windowEnd⟩ :=
      snapEntry_fields (fits.entries.2 e (List.mem_of_getElem? h))
    have block (first count value : Nat) (low : 1 ≤ first) (high : first - 1 + count ≤ 12)
        (at_ : field (snapEntryBytes e) first count = value) :
        field (snapshotBytes x) (23 + x.digits.length + 12 * i + (first - 1)) count = value := by
      rw [show 23 + x.digits.length + 12 * i + (first - 1) = 22 + x.digits.length + 12 * i + first by omega,
        field_block _ _ 12 _ _ low high, snapshotBytes_entry h, at_]
    exact ⟨block 1 2 _ (by decide) (by decide) film, block 3 1 _ (by decide) (by decide) state,
      block 4 2 _ (by decide) (by decide) price, block 6 2 _ (by decide) (by decide) clear,
      block 8 2 _ (by decide) (by decide) impaired, block 10 3 _ (by decide) (by decide) windowEnd⟩
  · obtain ⟨serial, kind, amount, minute⟩ := snapRecord_fields (fits.records.2 r (List.mem_of_getElem? h))
    have block (first count value : Nat) (low : 1 ≤ first) (high : first - 1 + count ≤ 10)
        (at_ : field (snapRecordBytes r) first count = value) :
        field (snapshotBytes x)
          (23 + x.digits.length + 12 * x.entries.length + 10 * i + (first - 1)) count = value := by
      rw [show 23 + x.digits.length + 12 * x.entries.length + 10 * i + (first - 1) =
          22 + x.digits.length + 12 * x.entries.length + 10 * i + first by omega,
        field_block _ _ 10 _ _ low high, snapshotBytes_record h, at_]
    refine ⟨block 1 2 _ (by decide) (by decide) serial, ?_, block 5 3 _ (by decide) (by decide) amount,
      block 8 3 _ (by decide) (by decide) minute⟩
    rw [Nat.mul_comm 16384, Nat.mul_comm 4096]
    exact block 3 2 _ (by decide) (by decide) kind
  · obtain ⟨front, sum⟩ := drop_snapshotBytes_check x
    have long := length_snapshotBytes x
    rw [front, field, show (snapshotBytes x).length - 1 - 1 = (snapshotBytes x).length - 2 by omega, sum]
    exact beNat_be16 (checkSum_fits _)

end Sys2Proof.Machine
end

section
/-! PROOFS. The entitlement table under a change of one place: the sums over its entries, and the walk over
its places (R68, R95, R99). -/

namespace Sys2Proof.Machine

/-! ### Sums over the table -/

/-- The sum of a value over the entries of a table. -/
def tableSum (value : Entry → Nat) (es : List (Option Entry)) : Nat :=
  (es.map fun o => (o.map value).getD 0).sum

theorem tableSum_eq (value : Entry → Nat) (es : List (Option Entry)) :
    tableSum value es = ((liveEntries es).map value).sum := by
  induction es with
  | nil => rfl
  | cons o es ih =>
    cases o
    · simpa [tableSum, liveEntries] using ih
    · simpa [tableSum, liveEntries] using ih

/-- The price an entry holds reserved (R95). -/
def boughtPrice (e : Entry) : Nat := if e.state = .bought then e.price.getD 0 else 0

/-- The place an entry holds reserved in the posting queue (R101). -/
def boughtOne (e : Entry) : Nat := if e.state = .bought then 1 else 0

theorem boughtSum_eq (es : List (Option Entry)) : boughtSum es = tableSum boughtPrice es :=
  (tableSum_eq _ es).symm

theorem boughtCount_eq (es : List (Option Entry)) : boughtCount es = tableSum boughtOne es := by
  rw [tableSum_eq, boughtCount]
  induction liveEntries es with
  | nil => rfl
  | cons e live ih => by_cases bought : e.state = .bought <;> simp [ih, boughtOne, bought, Nat.add_comm]

/-- A table's sum loses the value of the entry that was at the place and gains that of the one put there. -/
theorem tableSum_set (value : Entry → Nat) {es : List (Option Entry)} {i : Nat} (hi : i < es.length)
    (o : Option Entry) : tableSum value (es.set i o) + ((es.getD i none).map value).getD 0 =
      tableSum value es + (o.map value).getD 0 := by
  induction es generalizing i with
  | nil => simp at hi
  | cons x es ih =>
    cases i with
    | zero => simp [tableSum]; omega
    | succ i =>
      have rest := ih (i := i) (by simpa using hi)
      simp only [tableSum, List.set_cons_succ, List.map_cons, List.sum_cons, List.getD_cons_succ] at rest ⊢
      omega

theorem mem_liveEntries_iff {es : List (Option Entry)} {e : Entry} :
    e ∈ liveEntries es ↔ ∃ i : Nat, es.getD i none = some e := by
  rw [liveEntries, mem_occupants_iff]
  refine exists_congr fun i => ?_
  rw [List.getD_eq_getElem?_getD]
  cases es[i]? <;> simp

theorem mem_liveEntries_entryAt {f : Folio} {e : Entry} :
    e ∈ liveEntries f.entries ↔ ∃ i, entryAt f i = some e := mem_liveEntries_iff

theorem lt_of_entryAt {f : Folio} {i : Nat} {e : Entry} (he : entryAt f i = some e) :
    i < f.entries.length := by
  obtain ⟨hi, _⟩ := List.getElem?_eq_some_iff.mp (entryAt_eq_some_iff.mp he)
  exact hi

theorem entryAt_of_entries {f g : Folio} (same : g.entries = f.entries) (i : Nat) :
    entryAt g i = entryAt f i := by rw [entryAt, entryAt, same]

/-- A place of the table after a change of one place. -/
theorem getD_set {es : List (Option Entry)} {i : Nat} (hi : i < es.length) (o : Option Entry) (k : Nat) :
    (es.set i o).getD k none = if k = i then o else es.getD k none := by
  by_cases same : k = i
  · subst same
    simp [hi]
  · simp [same, List.getElem?_set_ne (Ne.symm same)]

theorem anySettling_iff {es : List (Option Entry)} :
    anySettling es = true ↔ ∃ i e, es.getD i none = some e ∧ e.state = .settling := by
  simp only [anySettling, List.any_eq_true, mem_liveEntries_iff, beq_iff_eq]
  exact ⟨fun ⟨e, ⟨i, he⟩, hs⟩ => ⟨i, e, he, hs⟩, fun ⟨i, e, he, hs⟩ => ⟨e, ⟨i, he⟩, hs⟩⟩

/-! ### The walk over the places -/

/-- A walk over the places from a start on that each of its steps takes one place further has reached all
eight. -/
theorem overPlaces_reach {P : Nat → State → Prop} (step : Nat → State → State) {s : State}
    (start : P 0 s) (next : ∀ k t, k < 8 → P k t → P (k + 1) (step k t)) : P 8 (overPlaces step s) := by
  have upTo (n : Nat) : n ≤ 8 → P n ((List.range n).foldl (fun t i => step i t) s) := by
    induction n with
    | zero => exact fun _ => start
    | succ n ih =>
      intro hn
      rw [List.range_succ, List.foldl_append]
      exact next n _ hn (ih (Nat.le_of_succ_le hn))
  exact upTo 8 (Nat.le_refl 8)

end Sys2Proof.Machine
end

section
/-! PROOFS. A walk of the Folio Unit over the entitlement table, with what it leaves: the entries it
removes with a report, the CREDIT records it makes, and the reports it queues (R86, R88, R98 to R100). -/

namespace Sys2Proof.Machine

/-! ### What is owed for an entry -/

/-- The report of a removed entry: LAPSED for a BOUGHT one, and otherwise ENDED (R86, R99). -/
def goneTold (quality : Nat) (e : Entry) : Report :=
  if e.state = .bought then
    .filmEvent e.film .lapsed none e.price e.windowEnd e.clear e.impaired e.previewUsed none
  else endedTold quality e

theorem goneTold_of_ended {quality : Nat} {e : Entry} (notBought : e.state ≠ .bought) :
    goneTold quality e = endedTold quality e := if_neg notBought

theorem creditDue_of_charged {quality : Nat} {e : Entry} (charged : e.state = .charged) :
    creditDue quality e = creditAmount (e.price.getD 0) e.clear e.impaired quality := by
  simp only [creditDue, charged]

theorem creditDue_of_settling {quality : Nat} {e : Entry} (settling : e.state = .settling) :
    creditDue quality e = e.credit.getD 0 := by
  simp only [creditDue, settling]

theorem creditDue_of_unpaid {quality : Nat} {e : Entry} (unpaid : e.state = .preview ∨ e.state = .bought) :
    creditDue quality e = 0 := by
  rcases unpaid with h | h <;> simp only [creditDue, h]

theorem creditDue_enterSettling {quality : Nat} {e : Entry} (charged : e.state = .charged) :
    creditDue quality (enterSettling quality e) = creditDue quality e :=
  (creditDue_of_charged charged).symm

theorem goneTold_enterSettling {quality : Nat} {e : Entry} (charged : e.state = .charged) :
    goneTold quality (enterSettling quality e) = goneTold quality e := by
  have due := creditDue_enterSettling (quality := quality) charged
  rw [goneTold_of_ended (by simp [enterSettling]), goneTold_of_ended (by simp [charged])]
  simp only [endedTold, due]
  rfl

/-- What a removed entry is to show: its report, its film and its credit. -/
def goneShown (quality : Nat) (e : Entry) : Report × Nat × Nat :=
  (goneTold quality e, e.film, creditDue quality e)

theorem goneShown_enterSettling {quality : Nat} {e : Entry} (charged : e.state = .charged) :
    goneShown quality (enterSettling quality e) = goneShown quality e := by
  simp only [goneShown, goneTold_enterSettling charged, creditDue_enterSettling charged]
  rfl

theorem creditsOf_eq (quality : Nat) (gone : List Entry) : creditsOf quality gone =
    ((gone.map (goneShown quality)).map (·.2)).filter fun owed => decide (0 < owed.2) := by
  rw [creditsOf, List.map_map, List.filter_map]
  rfl

theorem creditsOf_append (quality : Nat) (gone gone' : List Entry) :
    creditsOf quality (gone ++ gone') = creditsOf quality gone ++ creditsOf quality gone' := by
  simp only [creditsOf, List.filter_append, List.map_append]

theorem creditsOf_congr {quality : Nat} {gone gone' : List Entry}
    (same : gone.map (goneShown quality) = gone'.map (goneShown quality)) :
    creditsOf quality gone = creditsOf quality gone' := by
  rw [creditsOf_eq, creditsOf_eq, same]

theorem goneTold_congr {quality : Nat} {gone gone' : List Entry}
    (same : gone.map (goneShown quality) = gone'.map (goneShown quality)) :
    gone.map (goneTold quality) = gone'.map (goneTold quality) := by
  have first := congrArg (List.map Prod.fst) same
  rwa [List.map_map, List.map_map] at first

/-- Records that follow one another, and others that follow them (R102, R103). -/
theorem recordsFollow_append {minute first middle last : Nat} {rs rs' : List Record}
    (h : recordsFollow minute first rs middle) (h' : recordsFollow minute middle rs' last) :
    recordsFollow minute first (rs ++ rs') last := by
  induction rs generalizing first with
  | nil =>
    rw [recordsFollow] at h
    rwa [List.nil_append, ← h]
  | cons r rs ih =>
    obtain ⟨serial, time, rest⟩ := h
    exact ⟨serial, time, ih rest⟩

/-! ### The walk -/

/-- What becomes of a place that the walk does not report gone: nothing, a CHARGED entry enters SETTLING,
or an entry that is not charged goes without a report (R88, R98). -/
inductive Kept (quality : Nat) : Option Entry → Option Entry → Prop
  | same (o : Option Entry) : Kept quality o o
  | entered (e : Entry) (charged : e.state = .charged) :
      Kept quality (some e) (some (enterSettling quality e))
  | dropped (e : Entry) (unpaid : e.state = .preview ∨ e.state = .bought) : Kept quality (some e) none

theorem Kept.none_of_none {quality : Nat} {o : Option Entry} (h : Kept quality none o) : o = none := by
  cases h
  rfl

theorem Kept.shown {quality : Nat} {o : Option Entry} {e' : Entry} (h : Kept quality o (some e')) :
    ∃ e, o = some e ∧ goneShown quality e' = goneShown quality e := by
  cases h with
  | same => exact ⟨e', rfl, rfl⟩
  | entered e charged => exact ⟨e, rfl, goneShown_enterSettling charged⟩

theorem Kept.trans {quality : Nat} {o o' o'' : Option Entry} (h : Kept quality o o')
    (h' : Kept quality o' o'') : Kept quality o o'' := by
  cases h with
  | same => exact h'
  | entered e charged =>
    cases h' with
    | same => exact .entered e charged
    | entered _ charged' => cases charged'
    | dropped _ unpaid => rcases unpaid with unpaid | unpaid <;> cases unpaid
  | dropped e unpaid =>
    cases h'
    exact .dropped e unpaid

/-- The entries of the places of a log. -/
def loggedEntries (f : Folio) (log : List Nat) : List Entry := log.filterMap (entryAt f)

theorem loggedEntries_append (f : Folio) (log log' : List Nat) :
    loggedEntries f (log ++ log') = loggedEntries f log ++ loggedEntries f log' :=
  List.filterMap_append

/-- The second state is the first after a walk over the table: the entries of the places in `log` were
removed, each with its report, and those with a credit due with their CREDIT record. -/
structure Walk (s t : State) (log : List Nat) (records : List Record) (reports : List Report) : Prop where
  frame : t = { s with folio := t.folio, link := tell reports s.link }
  folio : t.folio = { s.folio with
    entries := t.folio.entries, reserved := t.folio.reserved
    queue := s.folio.queue ++ records, nextSerial := t.folio.nextSerial
    total := s.folio.total - (records.map (·.amount)).sum
    snapshotSeconds := if reports.all noSnapshot then s.folio.snapshotSeconds else 0 }
  length : t.folio.entries.length = s.folio.entries.length
  nodup : log.Nodup
  gone : ∀ i, i ∈ log → (∃ e, entryAt s.folio i = some e) ∧ entryAt t.folio i = none
  kept : ∀ i, i ∉ log → Kept s.folio.quality (entryAt s.folio i) (entryAt t.folio i)
  told : reports.filter noSnapshot = (loggedEntries s.folio log).map (goneTold s.folio.quality)
  credits : records.map (fun r => (r.film, r.amount)) =
    creditsOf s.folio.quality (loggedEntries s.folio log)
  kinds : ∀ r, r ∈ records → r.kind = .credit
  serials : recordsFollow (houseMinute s.clock) s.folio.nextSerial records t.folio.nextSerial

namespace Walk
variable {s t u : State} {log log' : List Nat} {records records' : List Record}
  {reports reports' : List Report}

theorem refl (s : State) : Walk s s [] [] [] where
  frame := rfl
  folio := by simp
  length := rfl
  nodup := .nil
  gone := nofun
  kept _ _ := .same _
  told := rfl
  credits := rfl
  kinds := nofun
  serials := rfl

theorem length_loggedEntries {f : Folio} (there : ∀ i, i ∈ log → ∃ e, entryAt f i = some e) :
    (loggedEntries f log).length = log.length := by
  induction log with
  | nil => rfl
  | cons i is ih =>
    obtain ⟨e, he⟩ := there i (List.mem_cons_self ..)
    have rest := ih fun k mem => there k (List.mem_cons_of_mem _ mem)
    simp only [loggedEntries, List.filterMap_cons, he, List.length_cons] at rest ⊢
    rw [rest]

theorem length_logged (h : Walk s t log records reports) :
    (loggedEntries s.folio log).length = log.length :=
  length_loggedEntries fun i mem => (h.gone i mem).1

theorem quality (h : Walk s t log records reports) : t.folio.quality = s.folio.quality := by
  rw [h.folio]
theorem total (h : Walk s t log records reports) :
    t.folio.total = s.folio.total - (records.map (·.amount)).sum := by
  rw [h.folio]
theorem queue (h : Walk s t log records reports) : t.folio.queue = s.folio.queue ++ records := by
  rw [h.folio]
theorem seconds (h : Walk s t log records reports) : t.folio.snapshotSeconds =
    if reports.all noSnapshot then s.folio.snapshotSeconds else 0 := by
  rw [h.folio]
theorem clock (h : Walk s t log records reports) : t.clock = s.clock := by rw [h.frame]
theorem gate (h : Walk s t log records reports) : t.gate = s.gate := by rw [h.frame]
theorem stay (h : Walk s t log records reports) : t.stay = s.stay := by rw [h.frame]
theorem link (h : Walk s t log records reports) : t.link = tell reports s.link := by rw [h.frame]

theorem lt (h : Walk s t log records reports) {i : Nat} (mem : i ∈ log) :
    i < s.folio.entries.length := by
  obtain ⟨⟨_, he⟩, _⟩ := h.gone i mem
  exact lt_of_entryAt he

/-- An empty place stays empty. -/
theorem none_of_none (h : Walk s t log records reports) {i : Nat} (empty : entryAt s.folio i = none) :
    entryAt t.folio i = none := by
  by_cases mem : i ∈ log
  · exact (h.gone i mem).2
  · exact Kept.none_of_none (empty ▸ h.kept i mem)

/-- An entry that is still there shows what the one before it does. -/
theorem goneShown_eq (h : Walk s t log records reports) {i : Nat} {e' : Entry}
    (after : entryAt t.folio i = some e') : ∃ e, entryAt s.folio i = some e ∧
      goneShown s.folio.quality e' = goneShown s.folio.quality e := by
  have mem : i ∉ log := fun mem => by simp [(h.gone i mem).2] at after
  exact Kept.shown (after ▸ h.kept i mem)

theorem shown_logged (h : Walk s t log records reports)
    (there : ∀ i, i ∈ log' → ∃ e, entryAt t.folio i = some e) :
    (loggedEntries t.folio log').map (goneShown s.folio.quality) =
      (loggedEntries s.folio log').map (goneShown s.folio.quality) := by
  induction log' with
  | nil => rfl
  | cons i is ih =>
    obtain ⟨e', after⟩ := there i (List.mem_cons_self ..)
    obtain ⟨e, before, shown⟩ := h.goneShown_eq after
    have rest := ih fun k mem => there k (List.mem_cons_of_mem _ mem)
    simp only [loggedEntries, List.filterMap_cons, after, before, List.map_cons, shown] at rest ⊢
    rw [rest]

/-- One walk after another. -/
theorem trans (h : Walk s t log records reports) (h' : Walk t u log' records' reports') :
    Walk s u (log ++ log') (records ++ records') (reports ++ reports') := by
  have apart (i : Nat) (mem : i ∈ log) : i ∉ log' := fun mem' => by
    obtain ⟨⟨e, there⟩, _⟩ := h'.gone i mem'
    simp [(h.gone i mem).2] at there
  have shown := h.shown_logged fun i mem => (h'.gone i mem).1
  refine ⟨?_, ?_, h'.length.trans h.length, ?_, ?_, ?_, ?_, ?_, ?_, ?_⟩
  · have frame := h'.frame
    rw [h.frame] at frame
    rw [tell_append]
    exact frame
  · have folio := h'.folio
    rw [h.seconds, h.total, h.queue] at folio
    rw [h.folio] at folio
    rw [folio]
    simp only [List.append_assoc, List.map_append, List.sum_append, List.all_append, Nat.sub_sub]
    congr 1
    cases reports.all noSnapshot <;> cases reports'.all noSnapshot <;> rfl
  · exact List.nodup_append.mpr ⟨h.nodup, h'.nodup, fun i mem k mem' same => apart i mem (same ▸ mem')⟩
  · intro i mem
    rcases List.mem_append.mp mem with mem | mem
    · exact ⟨(h.gone i mem).1, h'.none_of_none (h.gone i mem).2⟩
    · obtain ⟨⟨e', there⟩, after⟩ := h'.gone i mem
      obtain ⟨e, before, _⟩ := h.goneShown_eq there
      exact ⟨⟨e, before⟩, after⟩
  · intro i mem
    rw [List.mem_append, not_or] at mem
    have second := h'.kept i mem.2
    rw [h.quality] at second
    exact (h.kept i mem.1).trans second
  · have told := h'.told
    rw [h.quality, goneTold_congr shown] at told
    rw [List.filter_append, h.told, told, ← List.map_append, ← loggedEntries_append]
  · have credits := h'.credits
    rw [h.quality, creditsOf_congr shown] at credits
    rw [List.map_append, h.credits, credits, ← creditsOf_append, ← loggedEntries_append]
  · intro r mem
    rcases List.mem_append.mp mem with mem | mem
    · exact h.kinds r mem
    · exact h'.kinds r mem
  · have serials := h'.serials
    rw [h.clock] at serials
    exact recordsFollow_append h.serials serials

/-- An entry that went with a credit due has its CREDIT record. -/
theorem credit_record (h : Walk s t log records reports) {i : Nat} {e : Entry} (mem : i ∈ log)
    (before : entryAt s.folio i = some e) (due : 0 < creditDue s.folio.quality e) :
    ∃ r, r ∈ records ∧ r.kind = .credit ∧ r.film = e.film ∧
      r.amount = creditDue s.folio.quality e := by
  have owed : (e.film, creditDue s.folio.quality e) ∈
      creditsOf s.folio.quality (loggedEntries s.folio log) := by
    refine List.mem_map.mpr ⟨e, List.mem_filter.mpr ⟨?_, by simpa using due⟩, rfl⟩
    exact List.mem_filterMap.mpr ⟨i, mem, before⟩
  rw [← h.credits] at owed
  obtain ⟨r, there, same⟩ := List.mem_map.mp owed
  simp only [Prod.mk.injEq] at same
  exact ⟨r, there, h.kinds r there, same.1, same.2⟩

/-- A removed entry has its report. -/
theorem told_mem (h : Walk s t log records reports) {i : Nat} {e : Entry} (mem : i ∈ log)
    (before : entryAt s.folio i = some e) : goneTold s.folio.quality e ∈ reports := by
  have there : goneTold s.folio.quality e ∈ reports.filter noSnapshot := by
    rw [h.told]
    exact List.mem_map_of_mem (List.mem_filterMap.mpr ⟨i, mem, before⟩)
  exact (List.mem_filter.mp there).1

end Walk
end Sys2Proof.Machine
end

section
/-! PROOFS. Settlement (R98 to R100): the entries waiting in SETTLING take the unreserved places in place
order. -/

namespace Sys2Proof.Machine

/-! ### One place (R99) -/

section
variable {s : State} {i : Nat} {e : Entry}

/-- An entry that has a credit to come, and no unreserved place for its record, waits. -/
theorem settlePlace_of_full {credit : Nat} (he : entryAt s.folio i = some e) (hs : e.state = .settling)
    (hc : e.credit = some (credit + 1)) (full : unreservedPlace s.folio = false) :
    settlePlace i s = s := by
  simp only [settlePlace, he, hs, hc, full, if_true]
  rfl

theorem settlePlace_of_credit {credit : Nat} (he : entryAt s.folio i = some e)
    (hs : e.state = .settling) (hc : e.credit = some (credit + 1))
    (place : unreservedPlace s.folio = true) : settlePlace i s =
      endEntry i e (credit + 1)
        (creditTotal (credit + 1) (appendRecord .credit e.film (credit + 1) s)) := by
  simp only [settlePlace, he, hs, hc, place, if_true]

theorem settlePlace_of_no_credit (he : entryAt s.folio i = some e) (hs : e.state = .settling)
    (hc : e.credit.getD 0 = 0) : settlePlace i s = endEntry i e 0 s := by
  simp only [settlePlace, he, hs, if_true]
  split
  · rename_i c hcredit
    simp [hcredit] at hc
  · rfl

theorem settlePlace_of_none (he : entryAt s.folio i = none) : settlePlace i s = s := by
  simp only [settlePlace, he]

theorem settlePlace_of_other (he : entryAt s.folio i = some e) (hs : e.state ≠ .settling) :
    settlePlace i s = s := by
  simp only [settlePlace, he, if_neg hs]

/-- The entry of the place is gone: its report and a snapshot follow (R99). -/
structure EndsPlace (s : State) (i : Nat) (e : Entry) (t : State) (records : List Record) : Prop where
  entry : entryAt s.folio i = some e
  settling : e.state = .settling
  entries : t.folio.entries = s.folio.entries.set i none
  reserved : t.folio.reserved = s.folio.reserved
  walk : Walk s t [i] records [endedTold s.folio.quality e, snapshotTold t]
  place : 0 < e.credit.getD 0 → unreservedPlace s.folio = true

theorem noSnapshot_snapshotTold (t : State) : noSnapshot (snapshotTold t) = false := rfl
theorem noSnapshot_endedTold (quality : Nat) (e : Entry) :
    noSnapshot (endedTold quality e) = true := rfl

theorem entryAt_set_none {f g : Folio} (hi : i < f.entries.length)
    (set : g.entries = f.entries.set i none) (k : Nat) :
    entryAt g k = if k = i then none else entryAt f k := by
  rw [entryAt, set, getD_set hi]
  rfl

theorem walk_of_settled {t : State} {records : List Record} (he : entryAt s.folio i = some e)
    (hs : e.state = .settling) (hframe : t = { s with folio := t.folio, link := t.link })
    (hlink : t.link = queueReport (snapshotTold t) (queueReport (endedTold s.folio.quality e) s.link))
    (hfolio : t.folio = { s.folio with
      entries := s.folio.entries.set i none
      queue := s.folio.queue ++ records, nextSerial := t.folio.nextSerial
      total := s.folio.total - (records.map (·.amount)).sum
      snapshotSeconds := 0 })
    (credits : records.map (fun r => (r.film, r.amount)) = creditsOf s.folio.quality [e])
    (kinds : ∀ r, r ∈ records → r.kind = .credit)
    (serials : recordsFollow (houseMinute s.clock) s.folio.nextSerial records t.folio.nextSerial) :
    Walk s t [i] records [endedTold s.folio.quality e, snapshotTold t] := by
  have hi := lt_of_entryAt he
  have entries : t.folio.entries = s.folio.entries.set i none := by rw [hfolio]
  have after := entryAt_set_none hi entries
  have logged : loggedEntries s.folio [i] = [e] := by simp [loggedEntries, he]
  refine ⟨?_, ?_, ?_, List.nodup_singleton i, ?_, ?_, ?_, ?_, kinds, serials⟩
  · rw [hlink] at hframe
    exact hframe
  · rw [hfolio]
    simp [noSnapshot_snapshotTold]
  · rw [entries, List.length_set]
  · intro k mem
    obtain rfl := List.mem_singleton.mp mem
    exact ⟨⟨e, he⟩, by rw [after, if_pos rfl]⟩
  · intro k mem
    rw [after, if_neg (by simpa using mem)]
    exact .same _
  · rw [logged, List.map_singleton, goneTold_of_ended (by simp [hs])]
    rfl
  · rw [logged, credits]

theorem endEntry_frame (i : Nat) (e : Entry) (credit : Nat) (s : State) : endEntry i e credit s =
    { s with folio := (endEntry i e credit s).folio, link := (endEntry i e credit s).link } := rfl

theorem endEntry_folio (i : Nat) (e : Entry) (credit : Nat) (s : State) :
    (endEntry i e credit s).folio =
      { s.folio with entries := s.folio.entries.set i none, snapshotSeconds := 0 } := rfl

theorem endEntry_link (i : Nat) (e : Entry) (credit : Nat) (s : State) : (endEntry i e credit s).link =
    queueReport (snapshotTold (endEntry i e credit s)) (queueReport (.filmEvent e.film .ended none e.price
      e.windowEnd e.clear e.impaired e.previewUsed (some credit)) s.link) := rfl

/-- The state in which a CREDIT record has been made (R99). -/
theorem credited_folio (amount film : Nat) (s : State) :
    (creditTotal amount (appendRecord .credit film amount s)).folio = { s.folio with
      total := s.folio.total - amount
      queue := s.folio.queue ++ [⟨s.folio.nextSerial, .credit, film, amount, houseMinute s.clock⟩]
      nextSerial := serialAfter s.folio.nextSerial } := rfl

/-- Settlement of a place: no entry waits there, its entry waits on, or it goes. -/
theorem settlePlace_outcome (i : Nat) (s : State) :
    (settlePlace i s = s ∧ ∀ e, entryAt s.folio i = some e → e.state ≠ .settling) ∨
    (settlePlace i s = s ∧ ∃ e c, entryAt s.folio i = some e ∧ e.state = .settling ∧
      e.credit = some (c + 1) ∧ unreservedPlace s.folio = false) ∨
    (∃ e records, EndsPlace s i e (settlePlace i s) records) := by
  cases he : entryAt s.folio i with
  | none => exact .inl ⟨settlePlace_of_none he, nofun⟩
  | some e =>
    by_cases hs : e.state = .settling
    · right
      cases hc : e.credit.getD 0 with
      | zero =>
        have eq := settlePlace_of_no_credit he hs hc
        refine .inr ⟨e, [], he, hs, by rw [eq, endEntry_folio], by rw [eq, endEntry_folio], ?_,
          by simp [hc]⟩
        have due : creditDue s.folio.quality e = 0 := (creditDue_of_settling hs).trans hc
        refine walk_of_settled he hs (by rw [eq, ← endEntry_frame]) ?_
          (by rw [eq, endEntry_folio]; simp) ?_ nofun (by rw [eq, endEntry_folio, recordsFollow])
        · rw [eq, endedTold, due, ← endEntry_link]
        · simp [creditsOf, due]
      | succ c =>
        have credit : e.credit = some (c + 1) := by
          cases h : e.credit with
          | none => simp [h] at hc
          | some n => simpa [h] using hc
        have due : creditDue s.folio.quality e = c + 1 := (creditDue_of_settling hs).trans hc
        cases place : unreservedPlace s.folio with
        | false => exact .inl ⟨settlePlace_of_full he hs credit place, e, c, rfl, hs, credit, rfl⟩
        | true =>
          have eq := settlePlace_of_credit he hs credit place
          refine .inr ⟨e, [⟨s.folio.nextSerial, .credit, e.film, c + 1, houseMinute s.clock⟩], he, hs,
            by rw [eq, endEntry_folio, credited_folio], by rw [eq, endEntry_folio, credited_folio], ?_,
            fun _ => place⟩
          refine walk_of_settled he hs ?_ ?_ ?_ ?_ (by simp) ?_
          · rw [eq]
            exact endEntry_frame _ _ _ _
          · rw [eq, endedTold, due]
            exact endEntry_link _ _ _ _
          · rw [eq, endEntry_folio, credited_folio]
            simp
          · simp [creditsOf, due]
          · rw [eq, endEntry_folio, credited_folio]
            exact ⟨rfl, rfl, rfl⟩
    · exact .inl ⟨settlePlace_of_other he hs, fun e' he' => by cases he'; exact hs⟩

theorem EndsPlace.tableSum {t : State} {records : List Record} (h : EndsPlace s i e t records)
    {value : Entry → Nat} (zero : value e = 0) :
    tableSum value t.folio.entries = tableSum value s.folio.entries := by
  have sum := tableSum_set value (lt_of_entryAt h.entry) none
  have entry : s.folio.entries.getD i none = some e := h.entry
  rw [entry] at sum
  rw [h.entries]
  simpa [zero] using sum

theorem EndsPlace.boughtCount {t : State} {records : List Record} (h : EndsPlace s i e t records) :
    boughtCount t.folio.entries = boughtCount s.folio.entries := by
  rw [boughtCount_eq, boughtCount_eq]
  exact h.tableSum (by simp [boughtOne, h.settling])

theorem unreservedPlace_eq_false {f : Folio} :
    unreservedPlace f = false ↔ 10 ≤ f.queue.length + boughtCount f.entries := by
  simp [unreservedPlace]

end

/-! ### The places in order (R100) -/

/-- The entry of a place that waited and has gone. -/
def settledAt (s t : State) (i : Nat) : Option Entry :=
  (entryAt s.folio i).filter fun e => e.state == .settling && entryAt t.folio i == none

/-- The entries of the first places that waited and have gone. -/
def settledGone (s t : State) (k : Nat) : List Entry := (List.range k).filterMap (settledAt s t)

/-- What settlement of the first places leaves. -/
structure SettledTo (s : State) (k : Nat) (t : State) (log : List Nat) (records : List Record)
    (reports : List Report) : Prop extends Walk s t log records reports where
  below : ∀ i, i ∈ log → i < k ∧ ∃ e, entryAt s.folio i = some e ∧ e.state = .settling
  others : ∀ i, i ∉ log → entryAt t.folio i = entryAt s.folio i
  inPlaceOrder : loggedEntries s.folio log = settledGone s t k
  reserved : t.folio.reserved = s.folio.reserved
  bought : boughtCount t.folio.entries = boughtCount s.folio.entries
  twice : reports.length = 2 * log.length
  last : reports ≠ [] → reports.getLast? = some (snapshotTold t)
  waits : ∀ i e, i < k → entryAt t.folio i = some e → e.state = .settling →
    ∃ c, e.credit = some (c + 1) ∧ unreservedPlace t.folio = false
  unmoved : log = [] → t = s
  taken : ∀ i e j e', i < j → entryAt t.folio i = some e → e.state = .settling → j ∈ log →
    entryAt s.folio j = some e' → e'.credit.getD 0 = 0

section
variable {s t : State} {k : Nat} {log : List Nat} {records : List Record} {reports : List Report}

theorem settledTo_zero (s : State) : SettledTo s 0 s [] [] [] where
  toWalk := Walk.refl s
  below := nofun
  others _ _ := rfl
  inPlaceOrder := rfl
  reserved := rfl
  bought := rfl
  twice := rfl
  last some_report := absurd rfl some_report
  waits _ _ below := absurd below (Nat.not_lt_zero _)
  unmoved _ := rfl
  taken _ _ _ _ _ _ _ mem := absurd mem List.not_mem_nil

theorem settledGone_succ (s t : State) (k : Nat) :
    settledGone s t (k + 1) = settledGone s t k ++ (settledAt s t k).toList := by
  rw [settledGone, settledGone, List.range_succ, List.filterMap_append, List.filterMap_cons]
  cases settledAt s t k <;> rfl

theorem SettledTo.not_logged (h : SettledTo s k t log records reports) : k ∉ log :=
  fun mem => Nat.lt_irrefl k (h.below k mem).1

/-- Settlement passes a place whose entry does not go. -/
theorem SettledTo.pass (h : SettledTo s k t log records reports)
    (stays : ∀ e, entryAt t.folio k = some e → e.state = .settling →
      ∃ c, e.credit = some (c + 1) ∧ unreservedPlace t.folio = false) :
    SettledTo s (k + 1) t log records reports where
  toWalk := h.toWalk
  below i mem := ⟨Nat.lt_succ_of_lt (h.below i mem).1, (h.below i mem).2⟩
  others := h.others
  inPlaceOrder := by
    have none_gone : settledAt s t k = none := by
      rw [settledAt, h.others k h.not_logged]
      cases entryAt s.folio k <;> simp [Option.filter]
    rw [settledGone_succ, none_gone, h.inPlaceOrder]
    exact (List.append_nil _).symm
  reserved := h.reserved
  bought := h.bought
  twice := h.twice
  last := h.last
  waits i e hi he hs := by
    rcases Nat.lt_succ_iff_lt_or_eq.mp hi with hi | rfl
    · exact h.waits i e hi he hs
    · exact stays e he hs
  unmoved := h.unmoved
  taken := h.taken

/-- Settlement removes the entry of a place. -/
theorem SettledTo.take (h : SettledTo s k t log records reports) {u : State} {e : Entry}
    {more : List Record} (gone : EndsPlace t k e u more) :
    SettledTo s (k + 1) u (log ++ [k]) (records ++ more)
      (reports ++ [endedTold t.folio.quality e, snapshotTold u]) := by
  have before : entryAt s.folio k = some e := (h.others k h.not_logged).symm.trans gone.entry
  have after := entryAt_set_none (lt_of_entryAt gone.entry) gone.entries
  have still_full (full : unreservedPlace t.folio = false) : unreservedPlace u.folio = false := by
    rw [unreservedPlace_eq_false] at full ⊢
    rw [gone.boughtCount, gone.walk.queue, List.length_append]
    omega
  refine ⟨h.toWalk.trans gone.walk, ?_, ?_, ?_, gone.reserved.trans h.reserved,
    gone.boughtCount.trans h.bought, ?_, ?_, ?_, fun empty => by simp at empty, ?_⟩
  · intro i mem
    rcases List.mem_append.mp mem with mem | mem
    · exact ⟨Nat.lt_succ_of_lt (h.below i mem).1, (h.below i mem).2⟩
    · obtain rfl := List.mem_singleton.mp mem
      exact ⟨Nat.lt_succ_self i, e, before, gone.settling⟩
  · intro i mem
    simp only [List.mem_append, List.mem_singleton, not_or] at mem
    rw [after, if_neg mem.2, h.others i mem.1]
  · have earlier : settledGone s u k = settledGone s t k := by
      refine List.filterMap_congr fun i mem => ?_
      rw [settledAt, settledAt, after, if_neg (Nat.ne_of_lt (List.mem_range.mp mem))]
    have here : settledAt s u k = some e := by
      rw [settledAt, before, after, if_pos rfl]
      simp [Option.filter, gone.settling]
    rw [settledGone_succ, earlier, loggedEntries_append, h.inPlaceOrder, here]
    simp [loggedEntries, before]
  · simp only [List.length_append, h.twice, List.length_cons, List.length_nil]
    omega
  · simp
  · intro i e' hi he hs
    rw [after] at he
    split_ifs at he with same
    obtain ⟨c, credit, full⟩ := h.waits i e' (by omega) he hs
    exact ⟨c, credit, still_full full⟩
  · intro i e' j e'' hij he hs mem he''
    rw [after] at he
    split_ifs at he with same
    rcases List.mem_append.mp mem with mem | mem
    · exact h.taken i e' j e'' hij he hs mem he''
    · obtain rfl := List.mem_singleton.mp mem
      obtain ⟨_, _, full⟩ := h.waits i e' hij he hs
      obtain rfl : e = e'' := by simpa [before] using he''
      by_contra credit
      simp [gone.place (Nat.pos_of_ne_zero credit)] at full

/-- What settlement leaves (R98 to R100). -/
theorem settleWaiting_settled (s : State) :
    ∃ log records reports, SettledTo s 8 (settleWaiting s) log records reports := by
  refine overPlaces_reach (P := fun k t => ∃ log records reports, SettledTo s k t log records reports)
    settlePlace ⟨[], [], [], settledTo_zero s⟩ ?_
  rintro k t - ⟨log, records, reports, h⟩
  obtain ⟨same, idle⟩ | ⟨same, e, c, he, _, credit, full⟩ | ⟨e, more, gone⟩ := settlePlace_outcome k t
  · rw [same]
    exact ⟨log, records, reports, h.pass fun e he hs => absurd hs (idle e he)⟩
  · rw [same]
    refine ⟨log, records, reports, h.pass fun e' he' _ => ?_⟩
    rw [he] at he'
    cases he'
    exact ⟨c, credit, full⟩
  · exact ⟨_, _, _, h.take gone⟩

/-- With no entry waiting there is nothing to settle. -/
theorem settleWaiting_of_none (idle : anySettling s.folio.entries = false) : settleWaiting s = s := by
  refine overPlaces_induct (P := fun t => t = s) settlePlace s rfl ?_
  rintro i t - rfl
  obtain ⟨same, _⟩ | ⟨same, _⟩ | ⟨e, _, gone⟩ := settlePlace_outcome i t
  · exact same
  · exact same
  · have waits : anySettling t.folio.entries = true :=
      anySettling_iff.mpr ⟨i, e, gone.entry, gone.settling⟩
    simp [waits] at idle

end

/-! ### The statement -/

theorem creditAmount_of_due {price clear impaired quality : Nat} (paid : 0 < price)
    (minute : 60 ≤ impaired) (share : (clear + impaired) * quality ≤ impaired * 100) :
    creditAmount price clear impaired quality = price * impaired / (clear + impaired) :=
  if_pos ⟨paid, minute, share⟩

theorem creditAmount_of_not_due {price clear impaired quality : Nat}
    (h : price = 0 ∨ impaired < 60 ∨ impaired * 100 < (clear + impaired) * quality) :
    creditAmount price clear impaired quality = 0 := by
  refine if_neg ?_
  rintro ⟨paid, minute, share⟩
  omega

/-- Settlement of one place, said with the state it leaves (R99). -/
theorem endEntry_eq (i : Nat) (e : Entry) (credit : Nat) (s t : State)
    (folio : (endEntry i e credit s).folio = t.folio)
    (rest : t = { s with folio := t.folio }) :
    endEntry i e credit s = { t with
      link := queueReport (snapshotTold t) (queueReport (.filmEvent e.film .ended none e.price
        e.windowEnd e.clear e.impaired e.previewUsed (some credit)) s.link) } := by
  rw [rest, ← folio]
  rfl

section
variable {s t : State} {log : List Nat} {records : List Record} {reports : List Report}

/-- The place of an entry that waited holds it still, with its credit to come, or is empty, and then its
credit is in a CREDIT record (R99, R100). -/
theorem SettledTo.settledInto (h : SettledTo s 8 t log records reports) {i : Nat} {e : Entry} (hi : i < 8)
    (he : entryAt s.folio i = some e) (hs : e.state = .settling) :
    settledInto s.folio.quality records e (entryAt t.folio i) := by
  by_cases mem : i ∈ log
  · exact .inr ⟨(h.gone i mem).2, h.credit_record mem he⟩
  · have same := (h.others i mem).trans he
    obtain ⟨c, credit, _⟩ := h.waits i e hi same hs
    have due : creditDue s.folio.quality e = c + 1 := by rw [creditDue_of_settling hs, credit]; rfl
    refine .inl ⟨by omega, ?_⟩
    rw [same, due, ← hs, ← credit]

theorem SettledTo.told_ended {k : Nat} (h : SettledTo s k t log records reports) :
    reports.filter noSnapshot = (settledGone s t k).map (endedTold s.folio.quality) := by
  rw [h.told, ← h.inPlaceOrder]
  refine List.map_congr_left fun e mem => goneTold_of_ended ?_
  obtain ⟨i, logged, he⟩ := List.mem_filterMap.mp mem
  obtain ⟨_, e', he', settling⟩ := h.below i logged
  obtain rfl : e' = e := by simpa [he'] using he
  simp [settling]

theorem SettledTo.length_gone {k : Nat} (h : SettledTo s k t log records reports) :
    (settledGone s t k).length = log.length := by
  rw [← h.inPlaceOrder, h.toWalk.length_logged]

/-- Reports come only with entries that go. -/
theorem SettledTo.seconds (h : SettledTo s 8 t log records reports) : t.folio.snapshotSeconds =
    if reports = [] then s.folio.snapshotSeconds else 0 := by
  rw [h.toWalk.seconds]
  rcases log with _ | ⟨i, log⟩
  · have empty : reports = [] := List.length_eq_zero_iff.mp h.twice
    simp [empty]
  · have some_report : reports ≠ [] := fun empty => by simpa [empty] using h.twice
    have shown : snapshotTold t ∈ reports := List.mem_of_getLast? (h.last some_report)
    have not_all : reports.all noSnapshot = false :=
      List.all_eq_false.mpr ⟨_, shown, by simp [noSnapshot_snapshotTold]⟩
    simp [not_all, some_report]

end

/-- Settles O41: the first two parts are the definitions of the credit amount and of settlement of one
place; the walk over the places is the settled part of `SettledTo`. -/
theorem settlementCreditsImpairedFilms : Obligations.settlementCreditsImpairedFilms := by
  refine ⟨fun price clear impaired quality => ⟨creditAmount_le .., ?_, creditAmount_of_not_due⟩, ?_, ?_⟩
  · intro paid minute share
    have credit := creditAmount_of_due paid minute share
    refine ⟨credit, fun none_clear => ?_⟩
    rw [credit, none_clear, Nat.zero_add, Nat.mul_div_cancel _ (by omega)]
  · intro s i e credit he hs hc
    refine ⟨fun none_due => ?_, fun due place => ?_, fun due full => ?_⟩
    · subst none_due
      rw [settlePlace_of_no_credit he hs (by simp [hc])]
      exact endEntry_eq i e 0 s _ (endEntry_folio ..) rfl
    · obtain ⟨c, rfl⟩ := Nat.exists_eq_succ_of_ne_zero (Nat.ne_of_gt due)
      rw [settlePlace_of_credit he hs hc (by simpa [unreservedPlace] using place)]
      exact endEntry_eq i e (c + 1) _ _ ((endEntry_folio ..).trans (by rw [credited_folio]; rfl)) rfl
    · obtain ⟨c, rfl⟩ := Nat.exists_eq_succ_of_ne_zero (Nat.ne_of_gt due)
      exact settlePlace_of_full he hs hc (unreservedPlace_eq_false.mpr full)
  · intro s eight
    obtain ⟨log, records, reports, h⟩ := settleWaiting_settled s
    generalize settleWaiting s = t at h
    have folio := h.toWalk.folio
    rw [← h.toWalk.seconds, h.seconds, h.reserved] at folio
    refine ⟨t.folio.entries, records, t.folio.nextSerial, reports, ?_, h.length.trans eight, ?_, ?_, ?_,
      ?_, ?_, h.serials, fun i => h.none_of_none, ?_, ?_, ?_⟩
    · rw [← folio]
      exact h.frame
    · exact h.told_ended
    · rw [h.twice, ← h.length_gone]
      rfl
    · exact h.credits.trans (by rw [h.inPlaceOrder]; rfl)
    · intro some_report
      rw [h.last some_report, ← folio]
      exact congrArg (fun u => some (snapshotTold u)) h.frame
    · exact List.all_eq_true.mpr fun r mem => by simp [h.kinds r mem]
    · intro i e he
      refine ⟨fun other => ?_, fun waiting => h.settledInto ?_ he waiting⟩
      · have mem : i ∉ log := fun mem => by
          obtain ⟨_, e', he', settling⟩ := h.below i mem
          rw [he] at he'
          cases he'
          exact other settling
        exact (h.others i mem).trans he
      · rw [← eight]
        exact lt_of_entryAt he
    · intro i k e e' hik he hs he' _ due
      have mem : k ∉ log := fun mem => by
        have none_due := h.taken i e k e' hik he hs mem he'
        omega
      exact (h.others k mem).trans he'
    · intro waiting
      obtain ⟨i, e, he, hs⟩ := anySettling_iff.mp waiting
      have hi : i < 8 := by
        rw [← eight, ← h.length]
        exact lt_of_entryAt (f := t.folio) he
      obtain ⟨_, _, full⟩ := h.waits i e hi he hs
      have queue := unreservedPlace_eq_false.mp full
      rwa [h.toWalk.queue] at queue

end Sys2Proof.Machine
end

section
/-! PROOFS. The table when a stay ends: PREVIEW and BOUGHT entries go, CHARGED entries enter SETTLING, and
the entries waiting settle (R88, R98 to R100). -/

namespace Sys2Proof.Machine

/-! ### Places of a walk -/

theorem entryAt_setEntry {s : State} {i : Nat} (hi : i < s.folio.entries.length) (o : Option Entry)
    (k : Nat) : entryAt (setEntry i o s).folio k = if k = i then o else entryAt s.folio k := by
  rw [setEntry_folio, entryAt, getD_set hi]
  rfl

namespace Walk
variable {s t : State} {log : List Nat} {records : List Record} {reports : List Report}

/-- The entries gone are those of the logged places, in place order. -/
theorem logged_perm (h : Walk s t log records reports) {n : Nat} (size : s.folio.entries.length = n)
    {select : Nat → Option Entry} (gone : ∀ i, i ∈ log → select i = entryAt s.folio i)
    (rest : ∀ i, i ∉ log → select i = none) :
    (loggedEntries s.folio log).Perm ((List.range n).filterMap select) := by
  have places : log.Perm ((List.range n).filter (· ∈ log)) := by
    refine (List.perm_ext_iff_of_nodup h.nodup (List.nodup_range.filter _)).mpr fun i => ?_
    simp only [List.mem_filter, List.mem_range, decide_eq_true_eq]
    exact ⟨fun mem => ⟨size ▸ h.lt mem, mem⟩, fun mem => mem.2⟩
  have same : (List.range n).filterMap select =
      ((List.range n).filter (· ∈ log)).filterMap (entryAt s.folio) := by
    rw [List.filterMap_filter]
    refine List.filterMap_congr fun i _ => ?_
    by_cases mem : i ∈ log
    · simp [mem, gone i mem]
    · simp [mem, rest i mem]
  rw [same]
  exact places.filterMap _

/-- A charged or waiting entry is gone, with its credit in a record, or it waits with its credit. -/
theorem settledInto (h : Walk s t log records reports) {i : Nat} {e : Entry}
    (he : entryAt s.folio i = some e) (paid : e.state = .charged ∨ e.state = .settling)
    (waits : ∀ e', entryAt t.folio i = some e' → e'.state = .settling ∧ ∃ c, e'.credit = some (c + 1)) :
    settledInto s.folio.quality records e (entryAt t.folio i) := by
  by_cases mem : i ∈ log
  · exact .inr ⟨(h.gone i mem).2, h.credit_record mem he⟩
  · have kept := h.kept i mem
    rw [he] at kept
    generalize entryAt t.folio i = after at kept waits
    cases kept with
    | same =>
      obtain ⟨settling, c, credit⟩ := waits e rfl
      have due : creditDue s.folio.quality e = c + 1 := by
        rw [creditDue_of_settling settling, credit]
        rfl
      exact .inl ⟨by omega, by rw [due, ← settling, ← credit]⟩
    | entered _ charged =>
      obtain ⟨_, c, credit⟩ := waits _ rfl
      have due : creditDue s.folio.quality e = c + 1 := by
        rw [creditDue_of_charged charged]
        simpa [enterSettling] using credit
      refine .inl ⟨by omega, ?_⟩
      rw [creditDue_of_charged charged]
      rfl
    | dropped _ unpaid =>
      rcases unpaid with unpaid | unpaid <;> rcases paid with paid | paid <;> simp [unpaid] at paid

/-- A CHARGED entry enters SETTLING (R98). -/
theorem enter {i : Nat} {e : Entry} (he : entryAt s.folio i = some e) (charged : e.state = .charged) :
    Walk s (setEntry i (some (enterSettling s.folio.quality e)) s) [] [] [] where
  frame := rfl
  folio := by simp
  length := by simp
  nodup := .nil
  gone := nofun
  kept k _ := by
    rw [entryAt_setEntry (lt_of_entryAt he)]
    split_ifs with same
    · rw [same, he]
      exact .entered e charged
    · exact .same _
  told := rfl
  credits := rfl
  kinds := nofun
  serials := rfl

/-- An entry that is not charged goes without a report (R88). -/
theorem drop {i : Nat} {e : Entry} (he : entryAt s.folio i = some e)
    (unpaid : e.state = .preview ∨ e.state = .bought) (reserved : Nat) :
    Walk s { s with folio := { s.folio with
      entries := s.folio.entries.set i none, reserved := reserved } } [] [] [] where
  frame := rfl
  folio := by simp
  length := by simp
  nodup := .nil
  gone := nofun
  kept k _ := by
    rw [entryAt_set_none (f := s.folio) (g := { s.folio with
      entries := s.folio.entries.set i none, reserved := reserved }) (lt_of_entryAt he) rfl]
    split_ifs with same
    · rw [same, he]
      exact .dropped e unpaid
    · exact .same _
  told := rfl
  credits := rfl
  kinds := nofun
  serials := rfl

end Walk

/-! ### The places of a table that a stay leaves -/

/-- What is left of a table once the stay has left the first places. -/
structure LeftTo (s : State) (k : Nat) (t : State) (log : List Nat) (records : List Record)
    (reports : List Report) : Prop extends Walk s t log records reports where
  paid : ∀ i e, i ∈ log → entryAt s.folio i = some e → e.state = .charged ∨ e.state = .settling
  ahead : ∀ i e, k ≤ i → entryAt t.folio i = some e → entryAt s.folio i = some e
  behind : ∀ i e, i < k → entryAt t.folio i = some e → e.state = .settling
  reserved : t.folio.reserved = boughtSum t.folio.entries
  twice : reports.length = 2 * log.length

section
variable {s t : State} {k : Nat} {log : List Nat} {records : List Record} {reports : List Report}

/-- Settlement takes no price out of R, and R stays the sum over the BOUGHT entries (R95). -/
theorem SettledTo.reserved_sum (h : SettledTo s k t log records reports)
    (sum : s.folio.reserved = boughtSum s.folio.entries) :
    t.folio.reserved = boughtSum t.folio.entries := by
  rw [h.reserved, sum]
  have same (i : Nat) : ((entryAt t.folio i).map boughtPrice).getD 0 =
      ((entryAt s.folio i).map boughtPrice).getD 0 := by
    by_cases mem : i ∈ log
    · obtain ⟨_, e, before, settling⟩ := h.below i mem
      rw [(h.gone i mem).2, before]
      simp [boughtPrice, settling]
    · rw [h.others i mem]
  rw [boughtSum_eq, boughtSum_eq, tableSum, tableSum]
  refine congrArg List.sum (List.ext_getElem (by simp [h.length]) fun i hi hi' => ?_)
  have here := same i
  simp only [List.length_map] at hi hi'
  simp only [entryAt, List.getD_eq_getElem?_getD, List.getElem?_eq_getElem hi,
    List.getElem?_eq_getElem hi', Option.getD_some] at here
  simpa using here.symm

/-- The stay passes a place that is empty or waits already. -/
theorem LeftTo.pass (h : LeftTo s k t log records reports)
    (waits : ∀ e, entryAt t.folio k = some e → e.state = .settling) :
    LeftTo s (k + 1) t log records reports where
  toWalk := h.toWalk
  paid := h.paid
  ahead i e hi := h.ahead i e (Nat.le_of_succ_le hi)
  behind i e hi he := by
    rcases Nat.lt_succ_iff_lt_or_eq.mp hi with hi | rfl
    · exact h.behind i e hi he
    · exact waits e he
  reserved := h.reserved
  twice := h.twice

/-- The place of an entry that is not charged is emptied (R88). -/
theorem LeftTo.drop (h : LeftTo s k t log records reports) {e : Entry}
    (he : entryAt t.folio k = some e) (unpaid : e.state = .preview ∨ e.state = .bought) (reserved : Nat)
    (sum : reserved = boughtSum (t.folio.entries.set k none)) :
    LeftTo s (k + 1) { t with folio := { t.folio with
      entries := t.folio.entries.set k none, reserved := reserved } } log records reports := by
  have after := entryAt_set_none (f := t.folio) (g := { t.folio with
    entries := t.folio.entries.set k none, reserved := reserved }) (lt_of_entryAt he) rfl
  have walk := h.toWalk.trans (Walk.drop he unpaid reserved)
  simp only [List.append_nil] at walk
  refine ⟨walk, h.paid, ?_, ?_, sum, h.twice⟩
  · intro i e' hi he'
    rw [after, if_neg (by omega)] at he'
    exact h.ahead i e' (Nat.le_of_succ_le hi) he'
  · intro i e' hi he'
    rw [after] at he'
    split_ifs at he' with same
    exact h.behind i e' (by omega) he'

/-- A walk to an entry that waits began with it, or with one that was CHARGED. -/
theorem Walk.paid_of_settling (h : Walk s t log records reports) {i : Nat} {e e' : Entry}
    (before : entryAt s.folio i = some e) (after : entryAt t.folio i = some e')
    (settling : e'.state = .settling) : e.state = .charged ∨ e.state = .settling := by
  have kept := h.kept i (fun gone => by simp [(h.gone i gone).2] at after)
  rw [before, after] at kept
  cases kept with
  | same => exact .inr settling
  | entered _ charged => exact .inl charged

/-- The entries waiting settle (R100). -/
theorem LeftTo.settleWaiting (h : LeftTo s k t log records reports) :
    ∃ log records reports, LeftTo s k (settleWaiting t) log records reports := by
  obtain ⟨log', records', reports', settled⟩ := settleWaiting_settled t
  have still {i : Nat} {e : Entry} (he : entryAt (Machine.settleWaiting t).folio i = some e) :
      entryAt t.folio i = some e := by
    have mem : i ∉ log' := fun mem => by simp [(settled.gone i mem).2] at he
    rwa [settled.others i mem] at he
  refine ⟨_, _, _, h.toWalk.trans settled.toWalk, ?_, fun i e hi he => h.ahead i e hi (still he),
    fun i e hi he => h.behind i e hi (still he), settled.reserved_sum h.reserved, ?_⟩
  · intro i e mem before
    rcases List.mem_append.mp mem with mem | mem
    · exact h.paid i e mem before
    · obtain ⟨_, e', there, settling⟩ := settled.below i mem
      exact h.toWalk.paid_of_settling before there settling
  · simp only [List.length_append, h.twice, settled.twice]
    omega

/-- The CHARGED entry of a place enters SETTLING (R98). -/
theorem LeftTo.enter (h : LeftTo s k t log records reports) {e : Entry}
    (he : entryAt t.folio k = some e) (charged : e.state = .charged) :
    LeftTo s (k + 1) (setEntry k (some (enterSettling t.folio.quality e)) t) log records reports := by
  have hk := lt_of_entryAt he
  have walk := h.toWalk.trans (Walk.enter he charged)
  simp only [List.append_nil] at walk
  refine ⟨walk, h.paid, ?_, ?_, ?_, h.twice⟩
  · intro i e' hi he'
    rw [entryAt_setEntry hk, if_neg (by omega)] at he'
    exact h.ahead i e' (Nat.le_of_succ_le hi) he'
  · intro i e' hi he'
    rw [entryAt_setEntry hk] at he'
    split_ifs at he' with same
    · cases he'
      rfl
    · exact h.behind i e' (by omega) he'
  · have place : t.folio.entries.getD k none = some e := he
    have sums := tableSum_set boughtPrice hk (some (enterSettling t.folio.quality e))
    have entered : boughtPrice (enterSettling t.folio.quality e) = 0 := by
      simp [boughtPrice, enterSettling]
    have unbought : boughtPrice e = 0 := by simp [boughtPrice, charged]
    rw [place, Option.map_some, Option.map_some, entered, unbought] at sums
    rw [setEntry_folio, boughtSum_eq]
    refine (h.reserved.trans (boughtSum_eq _)).trans ?_
    exact sums.symm

/-- A place as the stay leaves it. -/
theorem LeftTo.leave (h : LeftTo s k t log records reports) :
    ∃ log records reports, LeftTo s (k + 1) (leavePlace k t) log records reports := by
  unfold leavePlace
  cases he : entryAt t.folio k with
  | none => exact ⟨log, records, reports, h.pass fun e he' => by simp [he] at he'⟩
  | some e =>
    have sums := tableSum_set boughtPrice (lt_of_entryAt he) none
    have place : t.folio.entries.getD k none = some e := he
    rw [place, ← boughtSum_eq, ← boughtSum_eq, ← h.reserved] at sums
    simp only [Option.map_some, Option.map_none, Option.getD_some, Option.getD_none] at sums
    dsimp only
    split
    · rename_i preview
      simp only [boughtPrice, preview] at sums
      exact ⟨log, records, reports, h.drop he (.inl preview) t.folio.reserved (by simpa using sums.symm)⟩
    · rename_i bought
      simp only [boughtPrice, bought, if_true] at sums
      exact ⟨log, records, reports, h.drop he (.inr bought) (t.folio.reserved - e.price.getD 0) (by omega)⟩
    · rename_i charged
      exact (h.enter he charged).settleWaiting
    · rename_i settling
      refine ⟨log, records, reports, h.pass fun e' he' => ?_⟩
      rw [he] at he'
      cases he'
      exact settling

/-- What the end of a stay leaves of the table (R88, R100). -/
structure TableLeft (s t : State) (log : List Nat) (records : List Record) (reports : List Report) :
    Prop extends Walk s t log records reports where
  paid : ∀ i e, i ∈ log → entryAt s.folio i = some e → e.state = .charged ∨ e.state = .settling
  reserved : t.folio.reserved = 0
  twice : reports.length = 2 * log.length
  waits : ∀ i e, entryAt t.folio i = some e → e.state = .settling ∧ (∃ c, e.credit = some (c + 1)) ∧
    10 ≤ t.folio.queue.length

theorem tableSum_eq_zero {value : Entry → Nat} {f : Folio}
    (zero : ∀ i e, entryAt f i = some e → value e = 0) : tableSum value f.entries = 0 := by
  rw [tableSum_eq, List.sum_eq_zero_iff]
  intro n mem
  obtain ⟨e, live, rfl⟩ := List.mem_map.mp mem
  obtain ⟨i, he⟩ := mem_liveEntries_entryAt.mp live
  exact zero i e he

theorem leaveTable_left {s : State} (eight : s.folio.entries.length = 8)
    (sum : s.folio.reserved = boughtSum s.folio.entries) :
    ∃ log records reports, TableLeft s (leaveTable s) log records reports := by
  have start : LeftTo s 0 s [] [] [] :=
    ⟨Walk.refl s, nofun, fun _ _ _ => id, fun _ _ below => absurd below (Nat.not_lt_zero _), sum, rfl⟩
  obtain ⟨log, records, reports, left⟩ := overPlaces_reach
    (P := fun k t => ∃ log records reports, LeftTo s k t log records reports) leavePlace
    ⟨_, _, _, start⟩ (fun k t _ ⟨_, _, _, h⟩ => h.leave)
  obtain ⟨log', records', reports', settled⟩ := settleWaiting_settled (overPlaces leavePlace s)
  obtain ⟨log, records, reports, all⟩ := left.settleWaiting
  unfold leaveTable
  generalize overPlaces leavePlace s = u at settled all
  generalize settleWaiting u = t at settled all
  have settling {i : Nat} {e : Entry} (he : entryAt t.folio i = some e) :
      i < 8 ∧ e.state = .settling := by
    have hi : i < 8 := by
      rw [← eight, ← all.length]
      exact lt_of_entryAt he
    exact ⟨hi, all.behind i e hi he⟩
  have none_bought {value : Entry → Nat} (zero : ∀ e : Entry, e.state = .settling → value e = 0) :
      tableSum value t.folio.entries = 0 := tableSum_eq_zero fun i e he => zero e (settling he).2
  refine ⟨log, records, reports, all.toWalk, all.paid, ?_, all.twice, ?_⟩
  · rw [all.reserved, boughtSum_eq]
    exact none_bought fun e waits => by simp [boughtPrice, waits]
  · intro i e he
    obtain ⟨hi, waits⟩ := settling he
    obtain ⟨c, credit, full⟩ := settled.waits i e hi he waits
    have queue := unreservedPlace_eq_false.mp full
    rw [boughtCount_eq, none_bought fun e waits => by simp [boughtOne, waits]] at queue
    exact ⟨waits, ⟨c, credit⟩, queue⟩

end
end Sys2Proof.Machine
end

section
/-! PROOFS. The laws of the billing taken apart: the entitlement table, the Folio Unit, the room. -/

namespace Sys2Proof.Machine

/-- The laws of the entitlement table (R68). -/
structure TableLaws (es : List (Option Entry)) : Prop where
  eight : es.length = 8
  films : ((liveEntries es).map (·.film)).Nodup
  entries : ∀ e, e ∈ liveEntries es → entryOk e = true

theorem tableOk_iff (es : List (Option Entry)) : tableOk es = true ↔ TableLaws es := by
  simp only [tableOk, Bool.and_eq_true, beq_iff_eq, decide_eq_true_eq, List.all_eq_true, and_assoc]
  exact ⟨fun ⟨eight, films, entries⟩ => ⟨eight, films, entries⟩, fun h => ⟨h.eight, h.films, h.entries⟩⟩

/-- The laws of the Folio Unit. -/
structure FolioLaws (f : Folio) : Prop where
  table : TableLaws f.entries
  tariffs : tariffsOk f.tariffs = true
  reserved : f.reserved = boughtSum f.entries
  places : f.queue.length + boughtCount f.entries ≤ 10
  waits : anySettling f.entries = true → unreservedPlace f = false
  serials : serialsOk f = true
  records : ∀ r, r ∈ f.queue → recordOk r = true
  total : f.total ≤ 9999999
  cap : f.cap ≤ 9999999
  quality : 1 ≤ f.quality ∧ f.quality ≤ 100
  seconds : f.snapshotSeconds ≤ 59
  full : isCount f.tariffFull = true

theorem folioOk_iff (f : Folio) : folioOk f = true ↔ FolioLaws f := by
  simp only [folioOk, Bool.and_eq_true, beq_iff_eq, decide_eq_true_eq, List.all_eq_true, and_assoc,
    tableOk_iff, Bool.or_eq_true, Bool.not_eq_true']
  constructor
  · rintro ⟨table, tariffs, reserved, places, waits, serials, records, total, cap, low, high, seconds, full⟩
    exact ⟨table, tariffs, reserved, places, fun some_waits => by simpa [some_waits] using waits, serials,
      records, total, cap, ⟨low, high⟩, seconds, full⟩
  · intro h
    refine ⟨h.table, h.tariffs, h.reserved, h.places, ?_, h.serials, h.records, h.total, h.cap,
      h.quality.1, h.quality.2, h.seconds, h.full⟩
    cases waiting : anySettling f.entries
    · exact .inl rfl
    · exact .inr (h.waits waiting)

/-- The laws of the billing. -/
structure BillingLaws (s : State) : Prop where
  gate : gateOk s.gate = true
  vacant : s.stay.room ≠ .occupied → gateIsVacant s.gate = true
  folio : FolioLaws s.folio
  closes : closesOk s.folio = true
  reference : referenceOk s = true
  stay : stayOk s.stay = true
  room : roomOk s = true
  clock : clockOk s.clock = true

theorem billingOk_iff (s : State) : billingOk s = true ↔ BillingLaws s := by
  simp only [billingOk, Bool.and_eq_true, and_assoc, Bool.or_eq_true, beq_iff_eq, folioOk_iff]
  constructor
  · rintro ⟨gate, vacant, folio, closes, reference, stay, room, clock⟩
    exact ⟨gate, vacant.resolve_left, folio, closes, reference, stay, room, clock⟩
  · intro h
    exact ⟨h.gate, Decidable.or_iff_not_imp_left.mpr h.vacant, h.folio, h.closes, h.reference, h.stay, h.room, h.clock⟩

/-! ### The room (R88, R96, R110, R114) -/

theorem isClosure_iff (r : Record) : isClosure r = true ↔ r.kind = .stayClosed := by
  simp [isClosure]

theorem isClosure_eq_false (r : Record) : isClosure r = false ↔ r.kind ≠ .stayClosed := by
  simp [isClosure]

theorem roomOk_occupied_iff {s : State} (room : s.stay.room = .occupied) : roomOk s = true ↔
    s.stay.stay ≠ 0 ∧ s.stay.closureQueued = false ∧ s.stay.pendingCheckIn = none ∧
      (∀ r, r ∈ s.folio.queue → isClosure r = false) ∧
      s.folio.total + s.folio.reserved ≤ s.folio.cap := by
  simp [roomOk, room, and_assoc]

theorem roomOk_closing_iff {s : State} (room : s.stay.room = .closing) : roomOk s = true ↔
    s.stay.stay ≠ 0 ∧ (∀ e, e ∈ liveEntries s.folio.entries → e.state = .settling) ∧
      (∀ r, r ∈ s.folio.queue.dropLast → isClosure r = false) ∧
      s.stay.closureQueued = s.folio.queue.any isClosure ∧
      (s.stay.closureQueued = true → anySettling s.folio.entries = false) ∧
      s.folio.total ≤ s.folio.cap := by
  simp only [roomOk, room, Bool.and_eq_true, bne_iff_ne, List.all_eq_true, beq_iff_eq,
    Bool.not_eq_true', Bool.or_eq_true, decide_eq_true_eq, and_assoc]
  cases s.stay.closureQueued <;> simp

theorem roomOk_empty_iff {s : State} (room : s.stay.room = .starting ∨ s.stay.room = .vacant) :
    roomOk s = true ↔ s.stay.stay = 0 ∧ s.stay.closureQueued = false ∧ s.stay.pendingCheckIn = none ∧
      folioEmpty s.folio = true := by
  rcases room with room | room <;> simp [roomOk, room, and_assoc]

end Sys2Proof.Machine
end

section
/-! PROOFS. CHECK_OUT in OCCUPIED, and CHECK_IN of another stay there (R112 to R114). -/

namespace Sys2Proof.Machine

/-! ### The closure (R114) -/

section
variable {s u : State} {log : List Nat} {records : List Record} {reports : List Report}

/-- The closure's record of T, where it is queued. -/
def closureRecords (u : State) : List Record :=
  if closureDue u then [⟨u.folio.nextSerial, .stayClosed, 0, u.folio.total, houseMinute u.clock⟩] else []

/-- The Folio Unit after the closure test. -/
def closureFolio (u : State) : Folio :=
  { u.folio with
    queue := u.folio.queue ++ closureRecords u
    nextSerial := if closureDue u then serialAfter u.folio.nextSerial else u.folio.nextSerial
    snapshotSeconds := if closureDue u then 0 else u.folio.snapshotSeconds }

/-- The reports of a closure that is queued. -/
def closureTold (u : State) : List Report :=
  let t : State := { u with stay := { u.stay with closureQueued := true }, folio := closureFolio u }
  if closureDue u then [stayTold .closureQueued false t, snapshotTold t] else []

theorem closureTest_eq (u : State) : closureTest u = { u with
    stay := { u.stay with closureQueued := u.stay.closureQueued || closureDue u }
    folio := closureFolio u, link := tell (closureTold u) u.link } := by
  unfold closureTest
  cases due : closureDue u
  · simp [closureFolio, closureRecords, closureTold, due]
  · simp only [closureFolio, closureRecords, closureTold, due, if_true, Bool.or_true]
    rfl

/-- The closure is queued exactly when no entry waits and the queue has a place. -/
theorem closureDue_iff (room : u.stay.room = .closing) (unqueued : u.stay.closureQueued = false)
    (waits : ∀ i e, entryAt u.folio i = some e → e.state = .settling) :
    closureDue u = true ↔ liveEntries u.folio.entries = [] ∧ u.folio.queue.length < 10 := by
  have none_waits : anySettling u.folio.entries = false ↔ liveEntries u.folio.entries = [] := by
    constructor
    · intro none_settling
      refine List.eq_nil_iff_forall_not_mem.mpr fun e live => ?_
      obtain ⟨i, he⟩ := mem_liveEntries_iff.mp live
      simp [anySettling_iff.mpr ⟨i, e, he, waits i e he⟩] at none_settling
    · intro empty
      simp [anySettling, empty]
  simp [closureDue, room, unqueued, none_waits]

end

/-! ### The check-out -/

/-- A stay closes with a check-in pending or with none, and the buffer of its message is freed. -/
theorem freeBuffer_checkOut {s v : State} (ix : BufferIx) (pending : Option StayParams) (closes : Bool)
    (rs : List Report) (after : v = { s with
      stay := { s.stay with room := .closing, closureQueued := closes }
      gate := gateVacated s.gate, folio := v.folio, link := tell rs s.link }) :
    let t : State := { s with
      stay := { s.stay with
        room := .closing, pendingCheckIn := pending, closureQueued := closes }
      gate := gateVacated s.gate, folio := { v.folio with snapshotSeconds := 0 } }
    freeBuffer ix (emitSnapshot (stayReport .checkOut false (v.setStay { v.stay with
      pendingCheckIn := pending }))) = { t with
        loop := setBuffer s.loop ix .free
        link := tell (rs ++ [stayTold .checkOut false t, snapshotTold t]) s.link } := by
  intro t
  rw [tell_append, after]
  rfl

theorem closeStay_eq (s : State) : closeStay s = closureTest (leaveTable (gateVacant
    (s.setStay { s.stay with room := .closing }))) := rfl

@[simp] theorem leaveTable_stay (s : State) : (leaveTable s).stay = s.stay :=
  leaveTable_changes s .stay (by simp)

theorem closureTest_pendingCheckIn (u : State) :
    (closureTest u).stay.pendingCheckIn = u.stay.pendingCheckIn := by rw [closureTest_eq]

theorem closeStay_pendingCheckIn (s : State) :
    (closeStay s).stay.pendingCheckIn = s.stay.pendingCheckIn := by
  rw [closeStay_eq, closureTest_pendingCheckIn, leaveTable_stay]
  rfl

/-- CHECK_OUT and CHECK_IN of another stay close the stay in the same way. -/
theorem exec_closes {s : State} {ix : BufferIx} {m : InboxMessage} {c : Instr}
    {pending : Option StayParams} (h : atHandler ix m s) (room : s.stay.room = .occupied)
    (none_pending : s.stay.pendingCheckIn = none)
    (command : (c = .checkOut ∧ pending = none ∧ ∃ p, parseDesk m = some (.guestStatus false false p)) ∨
      (c = .checkIn ∧ ∃ p, pending = some p ∧ parseDesk m = some (.guestStatus true false p) ∧
        p.stay ≠ 0 ∧ p.stay ≠ s.stay.stay)) :
    exec c s = .next (freeBuffer ix (emitSnapshot (stayReport .checkOut false
      ((closeStay s).setStay { (closeStay s).stay with pendingCheckIn := pending })))) := by
  rcases command with ⟨rfl, rfl, p, parsed⟩ | ⟨rfl, p, rfl, parsed, some_stay, other⟩
  · have served : exec .checkOut s = .next (freeBuffer ix (takeCheckOut s)) :=
      congrArg _ (serveMessage_of_atHandler h parsed rfl)
    have same := (closeStay_pendingCheckIn s).trans none_pending
    rw [served, takeCheckOut, room]
    dsimp only [checkOutOccupied]
    generalize closeStay s = t at same
    have unchanged : t.setStay { t.stay with pendingCheckIn := none } = t := by
      rw [← same]
      rfl
    rw [unchanged]
  · have served : exec .checkIn s = .next (freeBuffer ix (takeCheckIn p s)) :=
      congrArg _ (serveMessage_of_atHandler h parsed rfl)
    rw [served, takeCheckIn, if_neg some_stay, room]
    dsimp only
    rw [if_neg other]
    rfl

/-- The room begins to close: the gate has its vacant values and reports them (R56, R64, R112). -/
def leaving (s : State) : State :=
  { s with
    stay := { s.stay with room := .closing }, gate := gateVacated s.gate
    link := queueReport (.lockState .stayChange none (lockSummary (gateVacated s.gate))) s.link }

theorem closeStay_leaving (s : State) : closeStay s = closureTest (leaveTable (leaving s)) := rfl

/-- What remains of the folio after the leave and the closure. -/
theorem closureFolio_of_left {s u : State} {log : List Nat} {records : List Record}
    {reports : List Report} (left : TableLeft (leaving s) u log records reports) :
    { closureFolio u with snapshotSeconds := 0 } = { s.folio with
      entries := u.folio.entries, total := u.folio.total, reserved := 0
      nextSerial := (closureFolio u).nextSerial
      queue := s.folio.queue ++ (records ++ closureRecords u), snapshotSeconds := 0 } := by
  have folio := left.toWalk.folio
  rw [left.reserved, ← left.toWalk.total] at folio
  have queue : u.folio.queue = s.folio.queue ++ records := left.toWalk.queue
  rw [closureFolio, queue, List.append_assoc, folio]
  rfl

/-- The state a stay leaves as it closes, before the reports of the check-out. -/
theorem closeStay_of_left {s u : State} {log : List Nat} {records : List Record}
    {reports : List Report} (left : TableLeft (leaving s) u log records reports)
    (unqueued : s.stay.closureQueued = false) : closureTest u = { s with
      stay := { s.stay with room := .closing, closureQueued := closureDue u }
      gate := gateVacated s.gate, folio := (closureTest u).folio
      link := tell (.lockState .stayChange none (lockSummary (gateVacated s.gate)) ::
        (reports ++ closureTold u)) s.link } := by
  have frame := left.frame
  rw [closureTest_eq]
  have stay : u.stay = { s.stay with room := .closing } := left.toWalk.stay
  have link : u.link = tell reports (leaving s).link := left.toWalk.link
  rw [stay, link, ← tell_append, unqueued, Bool.false_or]
  generalize closureFolio u = folio
  generalize closureTold u = told
  generalize closureDue u = closes
  rw [frame]
  rfl

section
variable {s u : State} {log : List Nat} {records : List Record} {reports : List Report}

theorem closureRecords_follow (u : State) : recordsFollow (houseMinute u.clock) u.folio.nextSerial
    (closureRecords u) (closureFolio u).nextSerial := by
  rw [closureRecords, closureFolio]
  cases closureDue u
  · rfl
  · exact ⟨rfl, rfl, rfl⟩

theorem filter_credits (h : Walk s u log records reports) :
    (records ++ closureRecords u).filter (fun r => r.kind == .credit) = records := by
  have credits : records.filter (fun r => r.kind == .credit) = records :=
    List.filter_eq_self.mpr fun r mem => by simp [h.kinds r mem]
  have closure : (closureRecords u).filter (fun r => r.kind == .credit) = [] := by
    rw [closureRecords]
    cases closureDue u <;> rfl
  rw [List.filter_append, credits, closure, List.append_nil]

theorem length_closureTold (u : State) :
    (closureTold u).length = 2 * ((closureTold u).filter noSnapshot).length := by
  rw [closureTold]
  cases closureDue u <;> rfl

theorem TableLeft.told_ended (h : TableLeft s u log records reports) :
    reports.filter noSnapshot = (loggedEntries s.folio log).map (endedTold s.folio.quality) := by
  rw [h.told]
  refine List.map_congr_left fun e mem => goneTold_of_ended ?_
  obtain ⟨i, logged, he⟩ := List.mem_filterMap.mp mem
  rcases h.paid i e logged he with paid | paid <;> simp [paid]

theorem TableLeft.twice_told (h : TableLeft s u log records reports) :
    reports.length = 2 * (reports.filter noSnapshot).length := by
  rw [h.twice, h.told, List.length_map, h.toWalk.length_logged]

/-- The entry of a place that was charged or waited and has gone. -/
def endedAt (f g : Folio) (i : Nat) : Option Entry :=
  (entryAt f i).filter fun e => (e.state == .charged || e.state == .settling) && entryAt g i == none

theorem TableLeft.gone_perm (h : TableLeft s u log records reports) (eight : s.folio.entries.length = 8) :
    (loggedEntries s.folio log).Perm ((List.range 8).filterMap (endedAt s.folio u.folio)) := by
  refine h.toWalk.logged_perm eight (fun i mem => ?_) (fun i mem => ?_)
  · obtain ⟨⟨e, he⟩, after⟩ := h.gone i mem
    rcases h.paid i e mem he with paid | paid <;> simp [endedAt, he, after, Option.filter, paid]
  · have kept := h.kept i mem
    unfold endedAt
    generalize entryAt s.folio i = before at kept
    generalize entryAt u.folio i = after at kept
    cases kept with
    | same => cases before <;> simp [Option.filter]
    | entered => simp [Option.filter]
    | dropped e unpaid => rcases unpaid with unpaid | unpaid <;> simp [Option.filter, unpaid]

/-- An entry that was not charged has gone (R88). -/
theorem TableLeft.gone_of_unpaid (h : TableLeft s u log records reports) {i : Nat} {e : Entry}
    (he : entryAt s.folio i = some e) (unpaid : e.state = .preview ∨ e.state = .bought) :
    entryAt u.folio i = none := by
  have mem : i ∉ log := fun mem => by
    rcases h.paid i e mem he with paid | paid <;> rcases unpaid with unpaid | unpaid <;>
      simp [paid] at unpaid
  have kept := h.kept i mem
  have waits := h.waits i
  rw [he] at kept
  generalize entryAt u.folio i = after at kept waits
  cases kept with
  | same =>
    have settling := (waits e rfl).1
    rcases unpaid with unpaid | unpaid <;> simp [unpaid] at settling
  | entered _ charged => rcases unpaid with unpaid | unpaid <;> simp [charged] at unpaid
  | dropped => rfl

end

theorem stayTold_congr {cause : StayCause} {clamped : Bool} {t t' : State} (stay : t.stay = t'.stay)
    (folio : t.folio = t'.folio) : stayTold cause clamped t = stayTold cause clamped t' := by
  rw [stayTold, stayTold, stay, folio]

theorem closureTold_filter {u t : State}
    (stay : t.stay = { u.stay with closureQueued := closureDue u })
    (folio : t.folio = { closureFolio u with snapshotSeconds := 0 }) :
    (closureTold u).filter noSnapshot =
      if closureDue u then [stayTold .closureQueued false t] else [] := by
  rw [closureTold]
  cases due : closureDue u
  · rfl
  · rw [due] at stay
    refine congrArg (fun r => [r]) (stayTold_congr stay.symm ?_)
    rw [folio, closureFolio, due]
    rfl

/-- Settles O48: the table is left (`leaveTable_left`), and then the closure tested (`closureTest_eq`). -/
theorem aStayCloses : Obligations.aStayCloses := by
  intro s ix m c pending h ok room command
  have laws := (billingOk_iff s).mp ok
  obtain ⟨-, unqueued, none_pending, -, -⟩ := (roomOk_occupied_iff room).mp laws.room
  obtain ⟨log, records, reports, left⟩ :=
    leaveTable_left (s := leaving s) laws.folio.table.eight laws.folio.reserved
  have served := exec_closes h room none_pending command
  rw [closeStay_leaving] at served
  generalize leaveTable (leaving s) = u at left served
  have after := closeStay_of_left left unqueued
  have quality : (leaving s).folio.quality = s.folio.quality := rfl
  have folio : { closureFolio u with snapshotSeconds := 0 } = { s.folio with
      entries := u.folio.entries, total := u.folio.total, reserved := 0
      nextSerial := (closureFolio u).nextSerial
      queue := s.folio.queue ++ (records ++ closureRecords u), snapshotSeconds := 0 } :=
    closureFolio_of_left left
  have closes := closureDue_iff (u := u) (by rw [left.toWalk.stay]; rfl)
    (by rw [left.toWalk.stay]; exact unqueued) fun i e he => (left.waits i e he).1
  have gone := left.gone_perm laws.folio.table.eight
  refine ⟨u.folio.entries, u.folio.total, (closureFolio u).nextSerial, records ++ closureRecords u,
    closureDue u, reports ++ closureTold u, reports.filter noSnapshot, ?_, ?_, ?_, ?_, ?_, ?_, ?_, ?_, ?_,
    ?_, ?_, ?_, ?_, ?_, ?_⟩
  · rw [served, freeBuffer_checkOut ix pending (closureDue u) _ after]
    rw [show (closureTest u).folio = closureFolio u by rw [closureTest_eq], folio]
    rfl
  · rw [List.filter_append]
    refine congrArg (_ ++ ·) (closureTold_filter ?_ folio.symm)
    rw [left.toWalk.stay, ← none_pending]
    rfl
  · rw [left.told_ended]
    exact gone.map _
  · rw [filter_credits left.toWalk, left.credits]
    exact (gone.filter _).map _
  · rw [List.length_append, List.filter_append, List.length_append, left.twice_told, length_closureTold]
    omega
  · have follow := closureRecords_follow u
    rw [left.toWalk.clock] at follow
    exact recordsFollow_append left.serials follow
  · exact left.length.trans laws.folio.table.eight
  · exact fun i => left.toWalk.none_of_none
  · intro i e he
    refine ⟨left.gone_of_unpaid he, fun paid => ?_⟩
    have into := left.toWalk.settledInto he paid fun e' he' =>
      ⟨(left.waits i e' he').1, (left.waits i e' he').2.1⟩
    rcases into with waits | ⟨empty, credited⟩
    · exact .inl waits
    · refine .inr ⟨empty, fun due => ?_⟩
      obtain ⟨r, mem, shown⟩ := credited due
      exact ⟨r, List.mem_append_left _ mem, shown⟩
  · rw [filter_credits left.toWalk]
    exact left.toWalk.total
  · intro some_waits
    obtain ⟨e, live⟩ := List.exists_mem_of_ne_nil _ some_waits
    obtain ⟨i, he⟩ := mem_liveEntries_iff.mp live
    have full := (left.waits i e he).2.2
    rw [left.toWalk.queue, List.length_append] at full
    rw [List.length_append]
    exact Nat.le_trans full (by simp [leaving])
  · rw [closes, filter_credits left.toWalk, left.toWalk.queue, List.length_append, Nat.add_comm]
    rfl
  · intro due
    refine ⟨⟨u.folio.nextSerial, .stayClosed, 0, u.folio.total, houseMinute u.clock⟩, ?_, rfl, rfl, rfl, ?_⟩
    · simp [closureRecords, due]
    · rw [left.toWalk.clock]
      rfl
  · intro due
    rw [closureRecords, if_pos due, List.dropLast_concat]
    exact List.all_eq_true.mpr fun r mem => by simp [left.kinds r mem]
  · intro open_still
    rw [closureRecords, open_still]
    simpa using left.kinds

end Sys2Proof.Machine
end

section
/-! PROOFS. TIME and MINUTE_ADVANCE (R65, R86, R122 to R124): the windows that are due, whichever block
acts first. -/

namespace Sys2Proof.Machine

/-! ### The windows (R86) -/

/-- An entry's window is due at a minute. -/
def due (minute : Nat) (e : Entry) : Bool := e.windowEnd.any fun w => w ≤ minute

theorem reached_windowEnd (minute : Nat) (e : Entry) : reached e.windowEnd minute = due minute e := by
  unfold reached due
  cases e.windowEnd <;> rfl

/-- A BOUGHT entry lapses at a minute. -/
def lapses (minute : Nat) (e : Entry) : Bool := e.state == .bought && due minute e

/-- An entry waits, or enters SETTLING at a minute. -/
def settles (minute : Nat) (e : Entry) : Bool :=
  e.state == .settling || (e.state == .charged && due minute e)

section
variable {s t : State} {minute k : Nat} {log : List Nat} {records : List Record} {reports : List Report}

theorem Walk.emit (s : State) : Walk s (emitSnapshot s) [] [] [snapshotTold (emitSnapshot s)] where
  frame := rfl
  folio := by simp [noSnapshot_snapshotTold]
  length := rfl
  nodup := .nil
  gone := nofun
  kept _ _ := .same _
  told := rfl
  credits := rfl
  kinds := nofun
  serials := rfl

theorem lapsePlace_folio (i : Nat) (e : Entry) (s : State) : (lapsePlace i e s).folio = { s.folio with
    entries := s.folio.entries.set i none, reserved := s.folio.reserved - e.price.getD 0
    snapshotSeconds := 0 } := rfl

theorem entryAt_lapsePlace {i : Nat} (hi : i < s.folio.entries.length) (e : Entry) (k : Nat) :
    entryAt (lapsePlace i e s).folio k = if k = i then none else entryAt s.folio k :=
  entryAt_set_none hi (by rw [lapsePlace_folio]) k

/-- A BOUGHT entry lapses, with its report and a snapshot (R86). -/
theorem Walk.lapse {i : Nat} {e : Entry} (he : entryAt s.folio i = some e) (bought : e.state = .bought) :
    Walk s (lapsePlace i e s) [i] [] [goneTold s.folio.quality e, snapshotTold (lapsePlace i e s)] where
  frame := by
    rw [goneTold, if_pos bought]
    rfl
  folio := by
    rw [lapsePlace_folio]
    simp [noSnapshot_snapshotTold]
  length := by rw [lapsePlace_folio, List.length_set]
  nodup := List.nodup_singleton i
  gone k mem := by
    obtain rfl := List.mem_singleton.mp mem
    exact ⟨⟨e, he⟩, by rw [entryAt_lapsePlace (lt_of_entryAt he), if_pos rfl]⟩
  kept k mem := by
    rw [entryAt_lapsePlace (lt_of_entryAt he), if_neg (by simpa using mem)]
    exact .same _
  told := by
    have told : noSnapshot (goneTold s.folio.quality e) = true := by
      rw [goneTold, if_pos bought]
      rfl
    simp [loggedEntries, he, told, noSnapshot_snapshotTold]
  credits := by
    simp [loggedEntries, he, creditsOf, creditDue_of_unpaid (.inr bought)]
  kinds := nofun
  serials := rfl

/-- What the windows of the first places leave of the table. -/
structure MinuteTo (s : State) (minute k : Nat) (t : State) (log : List Nat) (records : List Record)
    (reports : List Report) : Prop extends Walk s t log records reports where
  which : ∀ i e, i ∈ log → entryAt s.folio i = some e → (lapses minute e || settles minute e) = true
  still : ∀ i e, i ∉ log → entryAt s.folio i = some e → entryAt t.folio i = some e ∨
    (e.state = .charged ∧ due minute e = true ∧
      entryAt t.folio i = some (enterSettling s.folio.quality e))
  ahead : ∀ i e, k ≤ i → entryAt s.folio i = some e → e.state ≠ .settling → entryAt t.folio i = some e
  behind : ∀ i e, i < k → entryAt s.folio i = some e → due minute e = true →
    e.state = .bought ∨ e.state = .charged → entryAt t.folio i ≠ some e
  sum : s.folio.reserved = boughtSum s.folio.entries → t.folio.reserved = boughtSum t.folio.entries

/-- Every entry that waits has a credit to come. -/
def creditsOwed (f : Folio) : Prop := ∀ i e, i < 8 → entryAt f i = some e → e.state = .settling →
  ∃ c, e.credit = some (c + 1)

/-- The reports that are snapshots end with one of the state. -/
def lastShows (reports : List Report) (t : State) : Prop :=
  ∀ r, (reports.filter fun r => !noSnapshot r).getLast? = some r → r = snapshotTold t

/-- What the windows of the first places leave, with the snapshots. -/
structure MinuteShown (s : State) (minute k : Nat) (t : State) (log : List Nat) (records : List Record)
    (reports : List Report) : Prop extends MinuteTo s minute k t log records reports where
  shown : ∀ i e, i < k → entryAt s.folio i = some e → due minute e = true →
    e.state = .bought ∨ e.state = .charged → ∃ r, r ∈ reports ∧ noSnapshot r = false
  owed : creditsOwed s.folio → creditsOwed t.folio
  last : lastShows reports t

theorem lastShows_append {reports reports' : List Report} (some_shown : reports' ≠ [])
    (last : reports'.getLast? = some (snapshotTold t)) : lastShows (reports ++ reports') t := by
  intro r hr
  obtain ⟨front, rfl⟩ := List.getLast?_eq_some_iff.mp last
  rw [← List.append_assoc, List.filter_append] at hr
  simp [noSnapshot_snapshotTold] at hr
  exact hr.symm

theorem MinuteTo.before_of_bought (h : MinuteTo s minute k t log records reports) {i : Nat} {e : Entry}
    (after : entryAt t.folio i = some e) (notSettling : e.state ≠ .settling) :
    entryAt s.folio i = some e := by
  have kept := h.kept i (fun gone => by simp [(h.gone i gone).2] at after)
  rw [after] at kept
  generalize entryAt s.folio i = before at kept
  cases kept with
  | same => rfl
  | entered _ _ => exact absurd rfl notSettling

/-- The windows pass a place where none is due. -/
theorem MinuteTo.pass (h : MinuteTo s minute k t log records reports)
    (idle : ∀ e, entryAt t.folio k = some e → due minute e = true → e.state ≠ .bought ∧ e.state ≠ .charged) :
    MinuteTo s minute (k + 1) t log records reports where
  toWalk := h.toWalk
  which := h.which
  still := h.still
  ahead i e hi := h.ahead i e (Nat.le_of_succ_le hi)
  behind i e hi he isDue paid := by
    rcases Nat.lt_succ_iff_lt_or_eq.mp hi with hi | rfl
    · exact h.behind i e hi he isDue paid
    · intro after
      obtain ⟨notBought, notCharged⟩ := idle e after isDue
      rcases paid with paid | paid
      · exact notBought paid
      · exact notCharged paid
  sum := h.sum

/-- A BOUGHT entry lapses. -/
theorem MinuteTo.lapse (h : MinuteTo s minute k t log records reports) {e : Entry}
    (he : entryAt t.folio k = some e) (bought : e.state = .bought) (isDue : due minute e = true) :
    MinuteTo s minute (k + 1) (lapsePlace k e t) (log ++ [k]) records
      (reports ++ [goneTold t.folio.quality e, snapshotTold (lapsePlace k e t)]) := by
  have before := h.before_of_bought he (by simp [bought])
  have after := entryAt_lapsePlace (lt_of_entryAt he) e
  have walk := h.toWalk.trans (Walk.lapse he bought)
  rw [List.append_nil] at walk
  refine ⟨walk, ?_, ?_, ?_, ?_, ?_⟩
  · intro i e' mem he'
    rcases List.mem_append.mp mem with mem | mem
    · exact h.which i e' mem he'
    · obtain rfl := List.mem_singleton.mp mem
      rw [before] at he'
      cases he'
      simp [lapses, bought, isDue]
  · intro i e' mem he'
    simp only [List.mem_append, List.mem_singleton, not_or] at mem
    rw [after, if_neg mem.2]
    exact h.still i e' mem.1 he'
  · intro i e' hi he' notSettling
    rw [after, if_neg (by omega)]
    exact h.ahead i e' (Nat.le_of_succ_le hi) he' notSettling
  · intro i e' hi he' isDue' paid
    rw [after]
    split_ifs with same
    · simp
    · exact h.behind i e' (by omega) he' isDue' paid
  · intro start
    have place : t.folio.entries.getD k none = some e := he
    have sums := tableSum_set boughtPrice (lt_of_entryAt he) none
    rw [place, ← boughtSum_eq, ← boughtSum_eq, ← h.sum start] at sums
    simp only [Option.map_some, Option.map_none, Option.getD_some, Option.getD_none, boughtPrice, bought,
      if_true] at sums
    rw [lapsePlace_folio]
    show t.folio.reserved - e.price.getD 0 = boughtSum (t.folio.entries.set k none)
    omega

/-- A CHARGED entry enters SETTLING. -/
theorem MinuteTo.enter (h : MinuteTo s minute k t log records reports) {e : Entry}
    (he : entryAt t.folio k = some e) (charged : e.state = .charged) (isDue : due minute e = true) :
    MinuteTo s minute (k + 1) (setEntry k (some (enterSettling t.folio.quality e)) t) log records
      reports := by
  have hk := lt_of_entryAt he
  have before := h.before_of_bought he (by simp [charged])
  have walk := h.toWalk.trans (Walk.enter he charged)
  simp only [List.append_nil] at walk
  refine ⟨walk, h.which, ?_, ?_, ?_, ?_⟩
  · intro i e' mem he'
    rw [entryAt_setEntry hk]
    split_ifs with same
    · rw [same, before] at he'
      cases he'
      exact .inr ⟨charged, isDue, by rw [h.toWalk.quality]⟩
    · exact h.still i e' mem he'
  · intro i e' hi he' notSettling
    rw [entryAt_setEntry hk, if_neg (by omega)]
    exact h.ahead i e' (Nat.le_of_succ_le hi) he' notSettling
  · intro i e' hi he' isDue' paid
    rw [entryAt_setEntry hk]
    split_ifs with same
    · rintro ⟨⟩
      rcases paid with paid | paid <;> cases paid
    · exact h.behind i e' (by omega) he' isDue' paid
  · intro start
    have place : t.folio.entries.getD k none = some e := he
    have sums := tableSum_set boughtPrice hk (some (enterSettling t.folio.quality e))
    have entered : boughtPrice (enterSettling t.folio.quality e) = 0 := by
      simp [boughtPrice, enterSettling]
    have unbought : boughtPrice e = 0 := by simp [boughtPrice, charged]
    rw [place, Option.map_some, Option.map_some, entered, unbought] at sums
    rw [setEntry_folio, boughtSum_eq]
    refine ((h.sum start).trans (boughtSum_eq _)).trans ?_
    exact sums.symm

/-- The entries waiting settle. -/
theorem MinuteTo.settle (h : MinuteTo s minute k t log records reports) {u : State}
    {log' : List Nat} {records' : List Record} {reports' : List Report}
    (settled : SettledTo t 8 u log' records' reports') :
    MinuteTo s minute k u (log ++ log') (records ++ records') (reports ++ reports') := by
  refine ⟨h.toWalk.trans settled.toWalk, ?_, ?_, ?_, ?_, ?_⟩
  · intro i e mem he
    rcases List.mem_append.mp mem with mem | mem
    · exact h.which i e mem he
    · obtain ⟨_, e', there, settling⟩ := settled.below i mem
      have notGone : i ∉ log := fun gone => by simp [(h.gone i gone).2] at there
      rcases h.still i e notGone he with same | ⟨charged, isDue, _⟩
      · rw [there] at same
        cases same
        simp [settles, settling]
      · simp [settles, charged, isDue]
  · intro i e mem he
    simp only [List.mem_append, not_or] at mem
    rw [settled.others i mem.2]
    exact h.still i e mem.1 he
  · intro i e hi he notSettling
    have there := h.ahead i e hi he notSettling
    have mem : i ∉ log' := fun mem => by
      obtain ⟨_, e', he', settling⟩ := settled.below i mem
      rw [there] at he'
      cases he'
      exact notSettling settling
    exact (settled.others i mem).trans there
  · intro i e hi he isDue paid
    by_cases mem : i ∈ log'
    · simp [(settled.gone i mem).2]
    · rw [settled.others i mem]
      exact h.behind i e hi he isDue paid
  · exact fun start => settled.reserved_sum (h.sum start)

/-- A snapshot is emitted. -/
theorem MinuteTo.emit (h : MinuteTo s minute k t log records reports) :
    MinuteTo s minute k (emitSnapshot t) log records (reports ++ [snapshotTold (emitSnapshot t)]) := by
  have walk := h.toWalk.trans (Walk.emit t)
  simp only [List.append_nil] at walk
  exact ⟨walk, h.which, h.still, h.ahead, h.behind, h.sum⟩

theorem SettledTo.owed (h : SettledTo s 8 t log records reports) : creditsOwed t.folio := by
  intro i e hi he settling
  obtain ⟨c, credit, _⟩ := h.waits i e hi he settling
  exact ⟨c, credit⟩

theorem SettledTo.lastShows (h : SettledTo s 8 t log records reports) {before : List Report}
    (last : lastShows before s) : lastShows (before ++ reports) t := by
  rcases log with _ | ⟨i, log⟩
  · have empty : reports = [] := List.length_eq_zero_iff.mp h.twice
    rw [empty, List.append_nil, h.unmoved rfl]
    exact last
  · have some_report : reports ≠ [] := fun empty => by simpa [empty] using h.twice
    exact lastShows_append some_report (h.last some_report)

/-- A place as the minute leaves it (R86). -/
theorem MinuteShown.window (h : MinuteShown s minute k t log records reports) :
    ∃ log records reports, MinuteShown s minute (k + 1) (windowPlace minute k t) log records reports := by
  have idle (same : windowPlace minute k t = t) (notDue : ∀ e, entryAt t.folio k = some e →
      due minute e = true → e.state ≠ .bought ∧ e.state ≠ .charged) :
      ∃ log records reports,
        MinuteShown s minute (k + 1) (windowPlace minute k t) log records reports := by
    rw [same]
    refine ⟨log, records, reports, h.toMinuteTo.pass notDue, ?_, h.owed, h.last⟩
    intro i e hi he isDue paid
    rcases Nat.lt_succ_iff_lt_or_eq.mp hi with hi | rfl
    · exact h.shown i e hi he isDue paid
    · have after := h.ahead i e (Nat.le_refl i) he (by rcases paid with paid | paid <;> simp [paid])
      obtain ⟨notBought, notCharged⟩ := notDue e after isDue
      exact absurd paid (not_or.mpr ⟨notBought, notCharged⟩)
  cases he : entryAt t.folio k with
  | none => exact idle (by simp only [windowPlace, he]) fun e he' => by simp [he] at he'
  | some e =>
    cases isDue : due minute e with
    | false =>
      refine idle ?_ fun e' he' isDue' => ?_
      · simp only [windowPlace, he, reached_windowEnd, isDue]
        rfl
      · rw [he] at he'
        cases he'
        simp [isDue] at isDue'
    | true =>
      have unpaid (state : e.state = .preview ∨ e.state = .settling) : ∀ e', entryAt t.folio k = some e' →
          due minute e' = true → e'.state ≠ .bought ∧ e'.state ≠ .charged := by
        intro e' he' _
        rw [he] at he'
        cases he'
        rcases state with state | state <;> simp [state]
      cases state : e.state with
      | preview =>
        exact idle (by simp only [windowPlace, he, state]; split <;> rfl) (unpaid (.inl state))
      | settling =>
        exact idle (by simp only [windowPlace, he, state]; split <;> rfl) (unpaid (.inr state))
      | bought =>
        have acts : windowPlace minute k t = settleWaiting (lapsePlace k e t) := by
          simp only [windowPlace, he, reached_windowEnd, isDue, if_true, state]
        obtain ⟨log', records', reports', settled⟩ := settleWaiting_settled (lapsePlace k e t)
        rw [acts]
        generalize settleWaiting (lapsePlace k e t) = u at settled
        refine ⟨_, _, _, (h.toMinuteTo.lapse he state isDue).settle settled, ?_, fun _ => settled.owed,
          settled.lastShows (lastShows_append (List.cons_ne_nil _ _) rfl)⟩
        exact fun _ _ _ _ _ _ => ⟨snapshotTold (lapsePlace k e t), by simp, rfl⟩
      | charged =>
        have acts : windowPlace minute k t = emitSnapshot (settleCharged k e t) := by
          simp only [windowPlace, he, reached_windowEnd, isDue, if_true, state]
        obtain ⟨log', records', reports', settled⟩ :=
          settleWaiting_settled (setEntry k (some (enterSettling t.folio.quality e)) t)
        rw [acts, settleCharged]
        generalize settleWaiting (setEntry k (some (enterSettling t.folio.quality e)) t) = u at settled
        refine ⟨_, _, _, ((h.toMinuteTo.enter he state isDue).settle settled).emit, ?_, fun _ => ?_, ?_⟩
        · exact fun _ _ _ _ _ _ => ⟨_, List.mem_append_right _ (List.mem_singleton_self _), rfl⟩
        · exact settled.owed
        · exact lastShows_append (List.cons_ne_nil _ _) rfl

theorem folioMinute_shown (minute : Nat) (s : State) : ∃ log records reports,
    MinuteShown s minute 8 (folioMinute minute s) log records reports := by
  have start : MinuteShown s minute 0 s [] [] [] :=
    ⟨⟨Walk.refl s, nofun, fun _ _ _ => .inl, fun _ _ _ he _ => he,
      fun _ _ below => absurd below (Nat.not_lt_zero _), id⟩,
      fun _ _ below => absurd below (Nat.not_lt_zero _), id, nofun⟩
  exact overPlaces_reach (P := fun k t => ∃ log records reports, MinuteShown s minute k t log records reports)
    (windowPlace minute) ⟨_, _, _, start⟩ fun k t _ ⟨_, _, _, h⟩ => h.window

end
end Sys2Proof.Machine
end

section
/-! PROOFS. The change of the house minute at the gate and at the Folio Unit, in either order (R65, R86,
R124). -/

namespace Sys2Proof.Machine

/-! ### The gate's share (R65) -/

/-- The gate once what is due at a minute has ended. -/
def gateAfter (minute : Nat) (g : RatingGate) : RatingGate :=
  { g with
    unlockExpiry := g.unlockExpiry.filter fun e => minute < e
    lockoutExpiry := g.lockoutExpiry.filter fun e => minute < e }

/-- The lock summary between the end of an unlock and that of a lockout. -/
def unlockEndedSummary (minute : Nat) (g : RatingGate) : LockSummary :=
  lockSummary { g with unlockExpiry := g.unlockExpiry.filter fun e => minute < e }

/-- The reports of what ends at a minute, the unlock before the lockout. -/
def gateTold (minute : Nat) (g : RatingGate) : List Report :=
  (if (gateAfter minute g).unlockExpiry = g.unlockExpiry then []
    else [.lockState .unlockEnded (some .expired) (unlockEndedSummary minute g)]) ++
  (if (gateAfter minute g).lockoutExpiry = g.lockoutExpiry then []
    else [.lockState .lockoutEnded (some .expired) (lockSummary (gateAfter minute g))])

theorem filter_of_reached {expiry : Option Nat} {minute : Nat} (h : reached expiry minute = true) :
    (expiry.filter fun e => minute < e) = none ∧ expiry ≠ none := by
  cases expiry with
  | none => cases h
  | some e =>
    have reached : e ≤ minute := of_decide_eq_true h
    simp [Option.filter, Nat.not_lt.mpr reached]

theorem filter_of_not_reached {expiry : Option Nat} {minute : Nat} (h : reached expiry minute = false) :
    (expiry.filter fun e => minute < e) = expiry := by
  cases expiry with
  | none => rfl
  | some e =>
    have open_still : ¬ e ≤ minute := of_decide_eq_false h
    simp [Option.filter, Nat.lt_of_not_le open_still]

theorem gateMinute_eq (minute : Nat) (s : State) : gateMinute minute s = { s with
    gate := gateAfter minute s.gate, link := tell (gateTold minute s.gate) s.link } := by
  unfold gateMinute gateTold unlockEndedSummary gateAfter
  cases unlock : reached s.gate.unlockExpiry minute <;>
    cases lockout : reached s.gate.lockoutExpiry minute
  · simp [filter_of_not_reached unlock, filter_of_not_reached lockout, lockout]
  · obtain ⟨ended, some_expiry⟩ := filter_of_reached lockout
    simp [filter_of_not_reached unlock, ended, some_expiry.symm, lockout]
    rfl
  · obtain ⟨ended, some_expiry⟩ := filter_of_reached unlock
    simp [filter_of_not_reached lockout, ended, some_expiry.symm, lockReport, lockout]
    rfl
  · obtain ⟨ended, some_expiry⟩ := filter_of_reached unlock
    obtain ⟨ended', some_expiry'⟩ := filter_of_reached lockout
    simp [ended, ended', some_expiry.symm, some_expiry'.symm, lockReport, lockout]
    rfl

theorem mem_gateTold {minute : Nat} {g : RatingGate} {r : Report} (mem : r ∈ gateTold minute g) :
    reportKindByte r = 0x43 := by
  unfold gateTold at mem
  split_ifs at mem
  · simp at mem
  · simp only [List.nil_append, List.mem_singleton] at mem
    rw [mem]
    rfl
  · simp only [List.append_nil, List.mem_singleton] at mem
    rw [mem]
    rfl
  · simp only [List.cons_append, List.nil_append, List.mem_cons, List.not_mem_nil, or_false] at mem
    rcases mem with rfl | rfl <;> rfl

/-! ### Either order (R124) -/

section
variable {s t : State} {minute k : Nat} {log : List Nat} {records : List Record} {reports : List Report}

/-- The windows do not look at the gate's expiries, and their snapshots do not show them. -/
theorem MinuteShown.rebase {l : SetLink}
    (h : MinuteShown { s with gate := gateAfter minute s.gate, link := l } minute k t log records
      reports) :
    MinuteShown s minute k { s with folio := t.folio, link := tell reports s.link } log records
      reports where
  frame := rfl
  folio := h.folio
  length := h.length
  nodup := h.nodup
  gone := h.gone
  kept := h.kept
  told := h.told
  credits := h.credits
  kinds := h.kinds
  serials := h.serials
  which := h.which
  still := h.still
  ahead := h.ahead
  behind := h.behind
  sum := h.sum
  shown := h.shown
  owed := h.owed
  last r hr := by
    rw [h.last r hr, h.frame]
    rfl

theorem signalMinute_gateFirst (s : State) : signalMinute false s =
    folioMinute s.clock.minute (gateMinute s.clock.minute s) := by
  simp only [signalMinute, Bool.false_eq_true, if_false]

theorem signalMinute_folioFirst (s : State) : signalMinute true s =
    gateMinute s.clock.minute (folioMinute s.clock.minute s) := by
  simp only [signalMinute, if_true]

/-- The gate acts first. -/
theorem gateMinute_folioMinute_shown (minute : Nat) (s : State) : ∃ t log records reports,
    MinuteShown s minute 8 t log records reports ∧
    folioMinute minute (gateMinute minute s) = { s with
      gate := gateAfter minute s.gate, folio := t.folio
      link := tell (gateTold minute s.gate ++ reports) s.link } := by
  rw [gateMinute_eq]
  generalize hl : tell (gateTold minute s.gate) s.link = l
  obtain ⟨log, records, reports, h⟩ := folioMinute_shown minute { s with
    gate := gateAfter minute s.gate, link := l }
  generalize folioMinute minute { s with gate := gateAfter minute s.gate, link := l } = u at h
  refine ⟨_, log, records, reports, h.rebase, ?_⟩
  rw [tell_append, hl]
  exact h.frame

/-- The Folio Unit acts first. -/
theorem folioMinute_gateMinute_shown (minute : Nat) (s : State) : ∃ t log records reports,
    MinuteShown s minute 8 t log records reports ∧
    gateMinute minute (folioMinute minute s) = { s with
      gate := gateAfter minute s.gate, folio := t.folio
      link := tell (reports ++ gateTold minute s.gate) s.link } := by
  obtain ⟨log, records, reports, h⟩ := folioMinute_shown minute s
  refine ⟨_, log, records, reports, h, ?_⟩
  have gate : (folioMinute minute s).gate = s.gate := folioMinute_gate minute s
  have frame := h.frame
  rw [gateMinute_eq, tell_append]
  generalize folioMinute minute s = u at frame gate
  rw [gate, frame]

/-- The minute changes: the windows of the Folio Unit, and what ends at the gate, whichever acts first. -/
theorem signalMinute_shown (folioFirst : Bool) (s : State) : ∃ t log records reports told,
    MinuteShown s s.clock.minute 8 t log records reports ∧
    (told = reports ++ gateTold s.clock.minute s.gate ∨
      told = gateTold s.clock.minute s.gate ++ reports) ∧
    signalMinute folioFirst s = { s with
      gate := gateAfter s.clock.minute s.gate, folio := t.folio, link := tell told s.link } := by
  cases folioFirst
  · obtain ⟨t, log, records, reports, h, after⟩ := gateMinute_folioMinute_shown s.clock.minute s
    exact ⟨t, log, records, reports, _, h, .inr rfl, after⟩
  · obtain ⟨t, log, records, reports, h, after⟩ := folioMinute_gateMinute_shown s.clock.minute s
    exact ⟨t, log, records, reports, _, h, .inl rfl, after⟩

/-- With no window due and no entry waiting, the Folio Unit does nothing. -/
theorem folioMinute_of_idle (notDue : ∀ e, e ∈ liveEntries s.folio.entries → due minute e = false) :
    folioMinute minute s = s := by
  refine overPlaces_induct (P := fun t => t = s) (windowPlace minute) s rfl ?_
  rintro i t - rfl
  unfold windowPlace
  cases he : entryAt t.folio i with
  | none => rfl
  | some e =>
    have not_reached := notDue e (mem_liveEntries_entryAt.mpr ⟨i, he⟩)
    dsimp only
    rw [reached_windowEnd, not_reached]
    rfl

theorem signalMinute_folio_of_idle (folioFirst : Bool)
    (notDue : ∀ e, e ∈ liveEntries s.folio.entries → due s.clock.minute e = false) :
    (signalMinute folioFirst s).folio = s.folio := by
  have gate : (gateMinute s.clock.minute s).folio = s.folio := by rw [gateMinute_eq]
  cases folioFirst
  · rw [signalMinute_gateFirst, folioMinute_of_idle (by rwa [gate]), gate]
  · rw [signalMinute_folioFirst, folioMinute_of_idle notDue, gate]

end
end Sys2Proof.Machine
end

section
/-! PROOFS. TIME and MINUTE_ADVANCE: what the reports of the two blocks and the table show (R65, R86, R98 to
R100, R122 to R124). -/

namespace Sys2Proof.Machine

/-! ### The reports of both blocks -/

/-- Reports of the Folio Unit with those of the gate before or after them. -/
def besideGate (gate reports told : List Report) : Prop := told = reports ++ gate ∨ told = gate ++ reports

section
variable {gate reports told : List Report}

theorem besideGate.filter_of_none {p : Report → Bool} (h : besideGate gate reports told)
    (none_gate : ∀ r, r ∈ gate → p r = false) : told.filter p = reports.filter p := by
  have empty : gate.filter p = [] := List.filter_eq_nil_iff.mpr fun r mem => by simp [none_gate r mem]
  rcases h with rfl | rfl <;> simp [List.filter_append, empty]

theorem besideGate.filter_gate {p : Report → Bool} (h : besideGate gate reports told)
    (all_gate : ∀ r, r ∈ gate → p r = true) (none_report : ∀ r, r ∈ reports → p r = false) :
    told.filter p = gate := by
  have empty : reports.filter p = [] := List.filter_eq_nil_iff.mpr fun r mem => by simp [none_report r mem]
  have all : gate.filter p = gate := List.filter_eq_self.mpr all_gate
  rcases h with rfl | rfl <;> simp [List.filter_append, empty, all]

theorem besideGate.mem_iff (h : besideGate gate reports told) {r : Report} :
    r ∈ told ↔ r ∈ reports ∨ r ∈ gate := by
  rcases h with rfl | rfl
  · exact List.mem_append
  · rw [List.mem_append, or_comm]

theorem besideGate.all_of_gate {p : Report → Bool} (h : besideGate gate reports told)
    (all_gate : ∀ r, r ∈ gate → p r = true) : told.all p = reports.all p := by
  have all : gate.all p = true := List.all_eq_true.mpr all_gate
  rcases h with rfl | rfl <;> simp [List.all_append, all]

end

/-! ### The entries that go -/

/-- The credit that an entry leaves when it goes. -/
def creditOf (quality : Nat) (e : Entry) : Option (Nat × Nat) :=
  if 0 < creditDue quality e then some (e.film, creditDue quality e) else none

theorem creditsOf_eq_filterMap (quality : Nat) (gone : List Entry) :
    creditsOf quality gone = gone.filterMap (creditOf quality) := by
  induction gone with
  | nil => rfl
  | cons e gone ih =>
    rw [show e :: gone = [e] ++ gone from rfl, creditsOf_append, ih, List.filterMap_append]
    by_cases owed : 0 < creditDue quality e <;> simp [creditsOf, creditOf, owed]

/-- The entry of a place that lapses or settles and has gone. -/
def minuteGone (minute : Nat) (f g : Folio) (i : Nat) : Option Entry :=
  (entryAt f i).filter fun e => lapses minute e || (settles minute e && entryAt g i == none)

/-- The entry of a place that settles and has gone. -/
def minuteSettled (minute : Nat) (f g : Folio) (i : Nat) : Option Entry :=
  (entryAt f i).filter fun e => settles minute e && entryAt g i == none

/-- The report of an entry of a place that lapses or settles and has gone. -/
def minuteTold (minute : Nat) (f g : Folio) (i : Nat) : Option Report :=
  (entryAt f i).bind fun e =>
    if lapses minute e then
      some (.filmEvent e.film .lapsed none e.price e.windowEnd e.clear e.impaired e.previewUsed none)
    else if settles minute e && entryAt g i == none then some (endedTold f.quality e)
    else none

theorem bought_of_lapses {minute : Nat} {e : Entry} (h : lapses minute e = true) :
    e.state = .bought ∧ due minute e = true := by simpa [lapses] using h

theorem not_bought_of_settles {minute : Nat} {e : Entry} (h : settles minute e = true) :
    e.state ≠ .bought := by
  intro bought
  simp [settles, bought] at h

theorem minuteGone_told (minute : Nat) (f g : Folio) (i : Nat) :
    (minuteGone minute f g i).map (goneTold f.quality) = minuteTold minute f g i := by
  unfold minuteGone minuteTold
  cases entryAt f i with
  | none => rfl
  | some e =>
    cases lapsed : lapses minute e with
    | true =>
      obtain ⟨bought, _⟩ := bought_of_lapses lapsed
      simp [Option.filter, lapsed, goneTold, bought]
    | false =>
      cases settled : settles minute e with
      | false => simp [Option.filter, lapsed, settled]
      | true =>
        have told := goneTold_of_ended (quality := f.quality) (not_bought_of_settles settled)
        cases entryAt g i <;> simp [Option.filter, lapsed, settled, told]

theorem minuteGone_credit (minute : Nat) (f g : Folio) (i : Nat) :
    (minuteGone minute f g i).bind (creditOf f.quality) =
      (minuteSettled minute f g i).bind (creditOf f.quality) := by
  unfold minuteGone minuteSettled
  cases entryAt f i with
  | none => rfl
  | some e =>
    cases lapsed : lapses minute e with
    | true =>
      obtain ⟨bought, _⟩ := bought_of_lapses lapsed
      have none_owed : creditOf f.quality e = none := by
        simp [creditOf, creditDue_of_unpaid (.inr bought)]
      have notSettled : settles minute e = false := by
        by_contra settled
        exact not_bought_of_settles (by simpa using settled) bought
      simp [Option.filter, lapsed, none_owed, notSettled]
    | false => simp [Option.filter, lapsed]

section
variable {s t : State} {minute : Nat} {log : List Nat} {records : List Record} {reports : List Report}

/-- An entry that the walk has not logged does not lapse. -/
theorem MinuteTo.not_lapsed (h : MinuteTo s minute 8 t log records reports)
    (eight : s.folio.entries.length = 8) {i : Nat} {e : Entry} (mem : i ∉ log)
    (he : entryAt s.folio i = some e) : lapses minute e = false := by
  by_contra lapsed
  obtain ⟨bought, isDue⟩ := bought_of_lapses (by simpa using lapsed)
  rcases h.still i e mem he with same | ⟨charged, _, _⟩
  · exact h.behind i e (eight ▸ lt_of_entryAt he) he isDue (.inl bought) same
  · simp [bought] at charged

theorem MinuteTo.logged_of_lapses (h : MinuteTo s minute 8 t log records reports)
    (eight : s.folio.entries.length = 8) {i : Nat} {e : Entry} (he : entryAt s.folio i = some e)
    (lapsed : lapses minute e = true) : i ∈ log := by
  by_contra mem
  simp [h.not_lapsed eight mem he] at lapsed

theorem MinuteTo.logged_of_gone (h : MinuteTo s minute 8 t log records reports) {i : Nat} {e : Entry}
    (he : entryAt s.folio i = some e) (gone : entryAt t.folio i = none) : i ∈ log := by
  by_contra mem
  rcases h.still i e mem he with same | ⟨_, _, entered⟩
  · simp [same] at gone
  · simp [entered] at gone

/-- An entry that neither waits nor has a window that is due stays as it is. -/
theorem MinuteTo.stays (h : MinuteTo s minute 8 t log records reports) {i : Nat} {e : Entry}
    (he : entryAt s.folio i = some e)
    (idle : e.state = .preview ∨ (e.state ≠ .settling ∧ due minute e = false)) :
    entryAt t.folio i = some e := by
  have mem : i ∉ log := fun mem => by
    have which := h.which i e mem he
    rcases idle with preview | ⟨notSettling, notDue⟩
    · simp [lapses, settles, preview] at which
    · simp [lapses, settles, notSettling, notDue] at which
  rcases h.still i e mem he with same | ⟨charged, isDue, _⟩
  · exact same
  · rcases idle with preview | ⟨_, notDue⟩
    · simp [charged] at preview
    · simp [isDue] at notDue

theorem MinuteTo.gone_perm (h : MinuteTo s minute 8 t log records reports)
    (eight : s.folio.entries.length = 8) :
    (loggedEntries s.folio log).Perm ((List.range 8).filterMap (minuteGone minute s.folio t.folio)) := by
  refine h.toWalk.logged_perm eight (fun i mem => ?_) (fun i mem => ?_)
  · obtain ⟨⟨e, he⟩, after⟩ := h.gone i mem
    have which := h.which i e mem he
    simp [minuteGone, he, after, Option.filter, Bool.or_eq_true _ _ ▸ which]
  · cases he : entryAt s.folio i with
    | none => simp [minuteGone, he]
    | some e =>
      have notLapsed := h.not_lapsed eight mem he
      have there : (entryAt t.folio i == none) = false := by
        rcases h.still i e mem he with same | ⟨_, _, entered⟩
        · rw [same]
          rfl
        · rw [entered]
          rfl
      simp [minuteGone, he, Option.filter, notLapsed, there]

theorem MinuteTo.kinds_told (h : MinuteTo s minute 8 t log records reports) {r : Report}
    (mem : r ∈ reports) : reportKindByte r = 0x44 ∨ reportKindByte r = 0x47 := by
  cases shown : noSnapshot r with
  | false => exact .inr (by simpa [noSnapshot] using shown)
  | true =>
    have told : r ∈ reports.filter noSnapshot := List.mem_filter.mpr ⟨mem, shown⟩
    rw [h.told] at told
    obtain ⟨e, -, rfl⟩ := List.mem_map.mp told
    unfold goneTold
    split_ifs <;> exact .inl rfl

theorem MinuteTo.filter_films (h : MinuteTo s minute 8 t log records reports) :
    reports.filter (fun r => reportKindByte r == 0x44) = reports.filter noSnapshot := by
  refine List.filter_congr fun r mem => ?_
  rcases h.kinds_told mem with kind | kind <;> simp [noSnapshot, kind]

theorem MinuteTo.told_perm (h : MinuteTo s minute 8 t log records reports)
    (eight : s.folio.entries.length = 8) :
    (reports.filter fun r => reportKindByte r == 0x44).Perm
      ((List.range 8).filterMap (minuteTold minute s.folio t.folio)) := by
  rw [h.filter_films, h.told]
  refine ((h.gone_perm eight).map _).trans (List.Perm.of_eq ?_)
  rw [List.map_filterMap]
  exact List.filterMap_congr fun i _ => minuteGone_told minute s.folio t.folio i

theorem MinuteTo.credits_perm (h : MinuteTo s minute 8 t log records reports)
    (eight : s.folio.entries.length = 8) :
    (records.map fun r => (r.film, r.amount)).Perm (creditsOf s.folio.quality
      ((List.range 8).filterMap (minuteSettled minute s.folio t.folio))) := by
  rw [h.credits, creditsOf_eq_filterMap, creditsOf_eq_filterMap]
  refine ((h.gone_perm eight).filterMap _).trans (List.Perm.of_eq ?_)
  rw [List.filterMap_filterMap, List.filterMap_filterMap]
  exact List.filterMap_congr fun i _ => minuteGone_credit minute s.folio t.folio i

/-- The price that an entry gives back as it lapses (R86). -/
def lapsedPrice (minute : Nat) (e : Entry) : Nat := if lapses minute e then e.price.getD 0 else 0

theorem tableSum_add {u v w : Entry → Nat} {es fs : List (Option Entry)} (same : fs.length = es.length)
    (each : ∀ i, ((fs.getD i none).map v).getD 0 + ((es.getD i none).map w).getD 0 =
      ((es.getD i none).map u).getD 0) : tableSum v fs + tableSum w es = tableSum u es := by
  induction es generalizing fs with
  | nil =>
    obtain rfl := List.length_eq_zero_iff.mp same
    rfl
  | cons o es ih =>
    cases fs with
    | nil => simp at same
    | cons o' fs =>
      have head := each 0
      have tail := ih (by simpa using same) fun i => by simpa using each (i + 1)
      simp only [List.getD_cons_zero] at head
      simp only [tableSum, List.map_cons, List.sum_cons] at tail ⊢
      omega

theorem MinuteTo.reserved_add (h : MinuteTo s minute 8 t log records reports)
    (eight : s.folio.entries.length = 8) (start : s.folio.reserved = boughtSum s.folio.entries) :
    t.folio.reserved +
      (((liveEntries s.folio.entries).filter (lapses minute)).map (·.price.getD 0)).sum =
        s.folio.reserved := by
  have lapsed : (((liveEntries s.folio.entries).filter (lapses minute)).map (·.price.getD 0)).sum =
      tableSum (lapsedPrice minute) s.folio.entries := by
    rw [tableSum_eq]
    induction liveEntries s.folio.entries with
    | nil => rfl
    | cons e live ih =>
      cases isLapsed : lapses minute e <;> simp [ih, isLapsed, lapsedPrice]
  rw [lapsed, start, h.sum start, boughtSum_eq, boughtSum_eq]
  refine tableSum_add h.length fun i => ?_
  change ((entryAt t.folio i).map boughtPrice).getD 0 +
    ((entryAt s.folio i).map (lapsedPrice minute)).getD 0 = ((entryAt s.folio i).map boughtPrice).getD 0
  cases he : entryAt s.folio i with
  | none => rw [h.none_of_none he]; rfl
  | some e =>
    by_cases mem : i ∈ log
    · rw [(h.gone i mem).2]
      have which := h.which i e mem he
      rw [Bool.or_eq_true] at which
      rcases which with isLapsed | isSettled
      · simp [lapsedPrice, isLapsed, boughtPrice, (bought_of_lapses isLapsed).1]
      · have notBought := not_bought_of_settles isSettled
        have notLapsed : lapses minute e = false := by simp [lapses, notBought]
        simp [lapsedPrice, notLapsed, boughtPrice, notBought]
    · have notLapsed := h.not_lapsed eight mem he
      rcases h.still i e mem he with same | ⟨charged, _, entered⟩
      · simp [same, lapsedPrice, notLapsed]
      · simp [entered, lapsedPrice, notLapsed, boughtPrice, charged, enterSettling]

/-- The place of an entry whose window is due, or that waits, at a minute. -/
theorem MinuteShown.settledInto (h : MinuteShown s minute 8 t log records reports)
    (eight : s.folio.entries.length = 8) (owed : creditsOwed s.folio) {i : Nat} {e : Entry}
    (he : entryAt s.folio i = some e) (settled : settles minute e = true) :
    settledInto s.folio.quality records e (entryAt t.folio i) := by
  have hi : i < 8 := eight ▸ lt_of_entryAt he
  have paid : e.state = .charged ∨ e.state = .settling := by
    simp only [settles, Bool.or_eq_true, beq_iff_eq, Bool.and_eq_true] at settled
    rcases settled with settling | ⟨charged, _⟩
    · exact .inr settling
    · exact .inl charged
  refine h.toWalk.settledInto he paid fun e' he' => ?_
  have settling : e'.state = .settling := by
    have mem : i ∉ log := fun mem => by simp [(h.gone i mem).2] at he'
    rcases h.still i e mem he with same | ⟨_, _, entered⟩
    · rw [he'] at same
      cases same
      rcases paid with charged | settling
      · have isDue : due minute e = true := by simpa [settles, charged] using settled
        exact absurd he' (h.behind i e hi he isDue (.inr charged))
      · exact settling
    · rw [he'] at entered
      cases entered
      rfl
  exact ⟨settling, h.owed owed i e' hi he' settling⟩

end

/-! ### The statement -/

theorem creditsOwed_of_laws {f : Folio} (laws : TableLaws f.entries) : creditsOwed f := by
  intro i e _ he settling
  have ok := laws.entries e (mem_liveEntries_entryAt.mpr ⟨i, he⟩)
  simp only [entryOk, settling, Bool.and_eq_true, decide_eq_true_eq] at ok
  obtain ⟨-, ⟨-, some_credit⟩, -⟩ := ok
  cases credit : e.credit with
  | none => simp [credit] at some_credit
  | some n =>
    cases n with
    | zero => simp [credit] at some_credit
    | succ c => exact ⟨c, rfl⟩

/-- The state in which the minute has come. -/
def atMinute (minute : Nat) (s : State) : State :=
  { s with clock := { set := true, minute := minute, elapsed := some 60000000 } }

/-- Settles O51: both commands signal the minute, and `signalMinute_shown` says what that leaves. -/
theorem theMinuteChanges : Obligations.theMinuteChanges := by
  intro s folioFirst changes
  have key (c : Instr) (minute : Nat) (loop : LoopStation) (served : exec c s =
      .next { signalMinute folioFirst (atMinute minute s) with loop := loop }) : changes c minute loop := by
    obtain ⟨t, log, records, reports, told, h, beside, after⟩ :=
      signalMinute_shown folioFirst (atMinute minute s)
    have idle := signalMinute_folio_of_idle (s := atMinute minute s) folioFirst
    replace beside : besideGate (gateTold minute s.gate) reports told := beside
    replace h : MinuteShown (atMinute minute s) minute 8 t log records reports := h
    rw [after] at served idle
    refine ⟨t.folio.entries, t.folio.reserved, records, t.folio.nextSerial, t.folio.snapshotSeconds, told,
      ?_, ?_, ?_, ?_, h.serials, ?_, ?_⟩
    · have folio := h.folio
      rw [← h.toWalk.seconds] at folio
      rw [served, folio]
      rfl
    · refine ⟨unlockEndedSummary minute s.gate, ?_, fun lockout => ?_⟩
      · exact beside.filter_gate (fun r mem => by simp [mem_gateTold mem])
          fun r mem => by rcases h.kinds_told mem with kind | kind <;> simp [kind]
      · exact congrArg (fun e => lockSummary { gateAfter minute s.gate with lockoutExpiry := e }) lockout.symm
    · intro r hr
      rw [beside.filter_of_none fun r mem => by simp [noSnapshot, mem_gateTold mem]] at hr
      have folio := h.folio
      rw [← h.toWalk.seconds] at folio
      rw [h.last r hr, h.frame, folio]
      rfl
    · rw [beside.all_of_gate fun r mem => by simp [noSnapshot, mem_gateTold mem]]
      exact h.toWalk.seconds
    · intro ok
      have laws := ((billingOk_iff s).mp ok).folio
      have eight : (atMinute minute s).folio.entries.length = 8 := laws.table.eight
      have owed : creditsOwed (atMinute minute s).folio := creditsOwed_of_laws laws.table
      refine ⟨?_, ?_, h.credits_perm eight, ?_, h.reserved_add eight laws.reserved, ?_,
        fun i => h.none_of_none, ?_⟩
      · rw [beside.filter_of_none fun r mem => by simp [mem_gateTold mem]]
        exact h.told_perm eight
      · rintro ⟨i, e, he, paid, isDue⟩
        have hi : i < 8 := eight ▸ lt_of_entryAt (f := (atMinute minute s).folio) he
        obtain ⟨r, mem, shown⟩ := h.shown i e hi he isDue paid
        exact ⟨r, beside.mem_iff.mpr (.inl mem), shown⟩
      · refine List.all_eq_true.mpr fun r mem => ?_
        rcases beside.mem_iff.mp mem with mem | mem
        · rcases h.kinds_told mem with kind | kind <;> simp [kind]
        · simp [mem_gateTold mem]
      · exact List.all_eq_true.mpr fun r mem => by simp [h.kinds r mem]
      · intro i e he
        refine ⟨fun lapsed => ?_, fun settled => ?_, fun stays => ?_⟩
        · have mem := h.logged_of_lapses eight he lapsed
          have told := h.told_mem mem he
          rw [goneTold, if_pos (bought_of_lapses lapsed).1] at told
          exact ⟨(h.gone i mem).2, beside.mem_iff.mpr (.inl told)⟩
        · refine ⟨h.settledInto eight owed he settled, fun gone => ?_⟩
          have told := h.told_mem (h.logged_of_gone he gone) he
          rw [goneTold_of_ended (not_bought_of_settles settled)] at told
          exact beside.mem_iff.mpr (.inl told)
        · exact h.stays he stays
    · intro notDue none_waits
      have folio := h.folio
      rw [← h.toWalk.seconds] at folio
      refine folio.symm.trans (idle fun e live => ?_)
      cases window : e.windowEnd with
      | none => simp [due, window]
      | some w =>
        have later : minute < w := notDue e w live window
        simp only [due, window, Option.any_some]
        exact decide_eq_false (Nat.not_le.mpr later)
  have sameLoop (t : State) : (signalMinute folioFirst t).loop = t.loop :=
    signalMinute_changes folioFirst t .loop (by simp)
  refine ⟨fun ix m minute h parsed => key _ _ _ ?_, fun set below => key _ _ _ ?_, fun set last => ?_⟩
  · have served : exec (.time folioFirst) s = .next (freeBuffer ix (takeTime folioFirst minute s)) :=
      congrArg _ (serveMessage_of_atHandler h parsed rfl)
    have clamped : min minute lastMinute = if 16777215 < minute then 16777215 else minute := by
      unfold lastMinute
      split_ifs <;> omega
    have taken : takeTime folioFirst minute s = signalMinute folioFirst
        (atMinute (if 16777215 < minute then 16777215 else minute) s) := by
      rw [← clamped]
      rfl
    rw [served, taken, freeBuffer, sameLoop]
    rfl
  · have advanced : advanceMinute folioFirst s =
        signalMinute folioFirst (atMinute (s.clock.minute + 1) s) := by
      have below : s.clock.minute < lastMinute := below
      rw [advanceMinute, if_pos set, if_pos below]
      exact congrArg (fun b => signalMinute folioFirst (s.setClock
        { set := b, minute := s.clock.minute + 1, elapsed := some minuteMicros })) set
    refine (congrArg Host.Outcome.next advanced).trans ?_
    have same := sameLoop (atMinute (s.clock.minute + 1) s)
    generalize signalMinute folioFirst (atMinute (s.clock.minute + 1) s) = t at same
    rw [show s.loop = t.loop from same.symm]
  · have advanced : advanceMinute folioFirst s =
        s.setClock { s.clock with elapsed := some minuteMicros } := by
      rw [advanceMinute, if_pos set, if_neg (Nat.not_lt.mpr (show lastMinute ≤ s.clock.minute from last))]
    exact congrArg Host.Outcome.next advanced

end Sys2Proof.Machine
end

section
/-! PROOFS. PURCHASE: the eleven checks and the film bought (R79 to R83). -/

namespace Sys2Proof.Machine

/-! ### The film of a request and its entry -/

theorem validFilm_iff (film : Nat) : validFilm film = true ↔ 1 ≤ film ∧ film ≤ 4095 := by
  simp [validFilm]

theorem not_validFilm_iff (film : Nat) : validFilm film = false ↔ film = 0 ∨ 4095 < film := by
  rw [← Bool.not_eq_true, validFilm_iff]
  omega

section
variable {s : State} {film i : Nat} {e : Entry}

theorem filmEntry_of_place (here : placeOf s.folio.entries film = some i) :
    filmEntry s film = entryAt s.folio i := by
  simp only [filmEntry, here, Option.bind_some]

theorem filmEntry_of_absent (absent : placeOf s.folio.entries film = none) :
    filmEntry s film = none := by
  simp only [filmEntry, absent, Option.bind_none]

/-- The place of a film holds its entry. -/
theorem entryAt_placeOf (here : placeOf s.folio.entries film = some i) :
    ∃ e, entryAt s.folio i = some e ∧ e.film = film := by
  rw [placeOf_eq_placeWhere, placeWhere_eq_some_iff] at here
  obtain ⟨⟨e, place, same⟩, _⟩ := here
  exact ⟨e, entryAt_eq_some_iff.mpr place, by simpa using same⟩

theorem placeForFilm_isSome (film : Nat) (s : State) : (placeForFilm film s).isSome = true ↔
    (filmEntry s film).isSome = true ∨ (newPlace s.folio.entries).isSome = true := by
  cases here : placeOf s.folio.entries film with
  | some i =>
    obtain ⟨e, he, _⟩ := entryAt_placeOf here
    simp [placeForFilm, here, filmEntry_of_place here, he]
  | none =>
    rw [filmEntry_of_absent here]
    cases place : newPlace s.folio.entries <;> simp [placeForFilm, here, place]

theorem paidEntry_iff (o : Option Entry) :
    (o.map (·.state) = some .bought ∨ o.map (·.state) = some .charged) ↔
      o.any (fun e => e.state == .bought || e.state == .charged) = true := by
  cases o <;> simp

theorem waitingEntry_iff (o : Option Entry) :
    o.map (·.state) = some .settling ↔ o.any (fun e => e.state == .settling) = true := by
  cases o <;> simp

end

/-! ### The checks (R79, R81) -/

/-- The reply's values to PURCHASE and CANCEL as the Folio Unit stands (R83, R84). -/
def folioBody (s : State) (film : Nat) : ReplyBody :=
  .folio film ((filmEntry s film).map (·.state)) ((filmEntry s film).bind (·.price))
    ((filmEntry s film).bind (·.windowEnd)) s.folio.total s.folio.reserved s.folio.cap

theorem answerFolio_takeFrame (f : Frame) (code : ResultCode) (s : State) :
    answerFolio f code (takeFrame f s) =
      { s with link := replied f code (folioBody s (bodyFilm f)) s.link } := rfl

/-- A PURCHASE has been answered with this code, which changes only the reply unless it is OK. -/
def purchaseAnswered (f : Frame) (s : State) (code : ResultCode) (t : State) : Prop :=
  ∃ body, t.link.slot = .ready ⟨f.kind + 0x80#8, f.tag, code, body⟩ ∧
    (code ≠ .ok → body = folioBody s (bodyFilm f) ∧ t = { s with link := replied f code body s.link })

theorem purchaseAnswered_refused (f : Frame) (s : State) (code : ResultCode) :
    purchaseAnswered f s code (answerFolio f code (takeFrame f s)) :=
  ⟨_, rfl, fun _ => ⟨rfl, rfl⟩⟩

theorem purchaseAnswered_ok (f : Frame) (s t : State) :
    purchaseAnswered f s .ok (answerFolio f .ok t) := ⟨_, rfl, fun h => absurd rfl h⟩

/-- The code of the last four checks and of the place (R80, R81). -/
def placeCode (f : Frame) (s : State) : ResultCode :=
  if (placeForFilm (bodyFilm f) s).isSome then .ok else .tableFull

theorem placeForFilm_takeFrame (film : Nat) (f : Frame) (s : State) :
    (placeForFilm film (takeFrame f s)).isSome = (placeForFilm film s).isSome := by
  rw [Bool.eq_iff_iff, placeForFilm_isSome, placeForFilm_isSome]
  rfl

theorem purchaseAnswered_free (f : Frame) (t : Tariff) (s : State) :
    purchaseAnswered f s (placeCode f s) (purchaseFree f t (takeFrame f s)) := by
  rw [placeCode, ← placeForFilm_takeFrame _ f, purchaseFree]
  cases place : placeForFilm (bodyFilm f) (takeFrame f s) with
  | none => exact purchaseAnswered_refused f s .tableFull
  | some p => exact purchaseAnswered_ok f s _

theorem purchaseAnswered_paid (f : Frame) (t : Tariff) (s : State) :
    purchaseAnswered f s (placeCode f s) (match placeForFilm (bodyFilm f) (takeFrame f s) with
      | none => answerFolio f .tableFull (takeFrame f s)
      | some (i, s') => answerFolio f .ok (acceptPurchase t i s')) := by
  rw [placeCode, ← placeForFilm_takeFrame _ f]
  cases place : placeForFilm (bodyFilm f) (takeFrame f s) with
  | none => exact purchaseAnswered_refused f s .tableFull
  | some p => exact purchaseAnswered_ok f s _

/-- The code that the eleven checks give (R79 to R81). -/
def purchaseCode (f : Frame) (s : State) : ResultCode :=
  let state := (filmEntry s (bodyFilm f)).map (·.state)
  if validFilm (bodyFilm f) = false then .badRequest
  else if s.stay.room ≠ .occupied then .roomState
  else if s.clock.set = false then .clockUnset
  else match tariffOf s.folio (bodyFilm f) with
    | none => .noTariff
    | some t =>
      if state = some .bought ∨ state = some .charged then .already
      else if state = some .settling then .settling
      else match ratingAnswer s.gate t.rating with
        | .barred => .ratingBarred
        | .locked => .ratingLocked
        | .allowed =>
          if t.price = 0 then placeCode f s
          else if s.folio.cap < s.folio.total + s.folio.reserved + t.price then .capReached
          else if 10 ≤ s.folio.queue.length + boughtCount s.folio.entries then .queueFull
          else placeCode f s

theorem servePurchase_answered (f : Frame) (s : State) :
    purchaseAnswered f s (purchaseCode f s) (servePurchase f (takeFrame f s)) := by
  have refused (code : ResultCode) := purchaseAnswered_refused f s code
  have entry : filmEntry (takeFrame f s) (bodyFilm f) = filmEntry s (bodyFilm f) := rfl
  unfold servePurchase purchaseCode
  dsimp only
  rw [entry, takeFrame_stay, takeFrame_clock, takeFrame_folio, takeFrame_gate]
  cases valid : validFilm (bodyFilm f) with
  | false => exact refused _
  | true =>
    simp only [Bool.not_true, Bool.false_eq_true, Bool.true_eq_false, if_false]
    by_cases room : s.stay.room ≠ .occupied
    · rw [if_pos room, if_pos room]
      exact refused _
    rw [if_neg room, if_neg room]
    by_cases clock : s.clock.set = false
    · rw [if_pos clock, if_pos clock]
      exact refused _
    rw [if_neg clock, if_neg clock]
    cases tariffOf s.folio (bodyFilm f) with
    | none => exact refused _
    | some t =>
      dsimp only
      by_cases paid : (filmEntry s (bodyFilm f)).map (·.state) = some .bought ∨
          (filmEntry s (bodyFilm f)).map (·.state) = some .charged
      · rw [if_pos paid, if_pos paid]
        exact refused _
      rw [if_neg paid, if_neg paid]
      by_cases waits : (filmEntry s (bodyFilm f)).map (·.state) = some .settling
      · rw [if_pos waits, if_pos waits]
        exact refused _
      rw [if_neg waits, if_neg waits]
      cases ratingAnswer s.gate t.rating with
      | barred => exact refused _
      | locked => exact refused _
      | allowed =>
        dsimp only
        by_cases free : t.price = 0
        · rw [if_pos free, if_pos free]
          exact purchaseAnswered_free f t s
        rw [if_neg free, if_neg free]
        by_cases cap : s.folio.cap < s.folio.total + s.folio.reserved + t.price
        · rw [if_pos cap, if_pos cap]
          exact refused _
        rw [if_neg cap, if_neg cap]
        by_cases full : 10 ≤ s.folio.queue.length + boughtCount s.folio.entries
        · rw [if_pos full, if_pos full]
          exact refused _
        rw [if_neg full, if_neg full]
        exact purchaseAnswered_paid f t s

theorem placeCode_eq (f : Frame) (s : State) : placeCode f s =
    if (filmEntry s (bodyFilm f)).isSome = true ∨ (newPlace s.folio.entries).isSome = true then .ok
    else .tableFull :=
  if_congr (placeForFilm_isSome _ s) rfl rfl

/-- Settles O36: `purchaseCode` is the chain of checks that the Folio Unit runs through. -/
theorem aPurchaseIsChecked : Obligations.aPurchaseIsChecked := by
  intro s f h film entry paid place
  have served : exec .purchase s = .next (servePurchase f (takeFrame f s)) :=
    congrArg Host.Outcome.next (serveRequest_of_requested _ h)
  obtain ⟨body, slot, refused⟩ := servePurchase_answered f s
  refine ⟨_, body, served, ?_⟩
  intro code given
  have same : given = purchaseCode f s := by
    simp only [given, code, purchaseCode, not_validFilm_iff, paidEntry_iff, waitingEntry_iff, placeCode_eq]
    refine if_congr Iff.rfl rfl (if_congr Iff.rfl rfl (if_congr Iff.rfl rfl ?_))
    change _ = (match tariffOf s.folio film with | none => _ | some t => _)
    cases tariffOf s.folio film with
    | none => rfl
    | some t =>
      refine if_congr Iff.rfl rfl (if_congr Iff.rfl rfl ?_)
      unfold ratingAnswer
      by_cases barred : s.gate.hardCeiling < t.rating
      · rw [if_pos barred, if_pos barred]
      rw [if_neg barred, if_neg barred]
      by_cases locked : effectiveCeiling s.gate < t.rating
      · rw [if_pos locked, if_pos locked]
      rw [if_neg locked, if_neg locked]
      rfl
  rw [same]
  exact ⟨slot, refused⟩

end Sys2Proof.Machine
end

section
/-! PROOFS. The film bought, the film charged, and the film returned (R77, R78, R80, R82, R84). -/

namespace Sys2Proof.Machine

/-! ### A report told while a request is served -/

theorem tell_takeFrame (rs : List Report) (f : Frame) (s : State) : tell rs (takeFrame f s).link =
    { tell rs s.link with assembler := .hunting, slot := .serving f } := by
  rw [takeFrame_link]
  generalize s.link = l
  induction rs generalizing l with
  | nil => rfl
  | cons r rs ih =>
    change tell rs (queueReport r _) = _
    rw [queueReport_withRequest]
    exact ih _

/-- A reply after reports that the request has brought. -/
theorem answer_told {f : Frame} {code : ResultCode} {body : ReplyBody} {rs : List Report} {s t : State}
    (link : t.link = tell rs (takeFrame f s).link) :
    answer f code body t = { t with link := replied f code body (tell rs s.link) } := by
  rw [tell_takeFrame] at link
  rw [show answer f code body t = { t with link :=
    { t.link with slot := .ready ⟨f.kind + 0x80#8, f.tag, code, body⟩ } } from rfl, link]
  rfl

/-! ### A charge (R77, R78) -/

/-- The entry that has become a charge. -/
def chargedEntry (serial : Nat) (e : Entry) : Entry :=
  { e with state := .charged, chargeSerial := some serial }

/-- The Folio Unit after the commit of an entry. -/
def committedFolio (i : Nat) (e : Entry) (s : State) : Folio :=
  { s.folio with
    entries := s.folio.entries.set i (some (chargedEntry s.folio.nextSerial e))
    total := s.folio.total + e.price.getD 0, reserved := s.folio.reserved - e.price.getD 0
    queue := s.folio.queue ++
      [⟨s.folio.nextSerial, .charge, e.film, e.price.getD 0, houseMinute s.clock⟩]
    nextSerial := serialAfter s.folio.nextSerial, snapshotSeconds := 0 }

/-- The report of a commit (R78, R87). -/
def committedTold (e : Entry) : Report :=
  .filmEvent e.film .committed (some .charged) e.price e.windowEnd e.clear e.impaired e.previewUsed none

/-- A report and a snapshot of a Folio Unit. -/
theorem emitSnapshot_report (r : Report) (folio : Folio) (s : State) :
    emitSnapshot (report r { s with folio := folio }) = { s with
      folio := { folio with snapshotSeconds := 0 }
      link := tell [r, snapshotTold { s with folio := { folio with snapshotSeconds := 0 } }] s.link } := rfl

theorem commitPlace_of_entry {i : Nat} {e : Entry} {s : State} (he : entryAt s.folio i = some e) :
    commitPlace i s = { s with
      folio := committedFolio i e s
      link := tell [committedTold e, snapshotTold { s with folio := committedFolio i e s }] s.link } := by
  have told := emitSnapshot_report (committedTold e) { s.folio with
    entries := s.folio.entries.set i (some (chargedEntry s.folio.nextSerial e))
    total := s.folio.total + e.price.getD 0, reserved := s.folio.reserved - e.price.getD 0
    queue := s.folio.queue ++
      [⟨s.folio.nextSerial, .charge, e.film, e.price.getD 0, houseMinute s.clock⟩]
    nextSerial := serialAfter s.folio.nextSerial } s
  rw [committedFolio, ← told]
  simp only [commitPlace, he, filmReport, committedTold, chargedEntry, setEntry, appendRecord, State.setFolio]

/-! ### The place of a film that is bought -/

section
variable {s : State} {film i : Nat} {e : Entry}

theorem placeOf_set {es : List (Option Entry)} (hi : i < es.length) (same : e.film = film)
    (place : placeOf es film = some i ∨ placeOf es film = none) :
    placeOf (es.set i (some e)) film = some i := by
  rw [placeOf_eq_placeWhere, placeWhere_eq_some_iff]
  refine ⟨⟨e, by simp [hi], by simp [same]⟩, fun k x hk there => ?_⟩
  rw [List.getElem?_set_ne (by omega)] at there
  rw [placeOf_eq_placeWhere] at place
  rcases place with here | absent
  · exact (placeWhere_eq_some_iff.mp here).2 k x hk there
  · exact placeWhere_eq_none_iff.mp absent k x there

theorem lt_of_placeOf (here : placeOf s.folio.entries film = some i) : i < s.folio.entries.length := by
  obtain ⟨e, he, _⟩ := entryAt_placeOf here
  exact lt_of_entryAt he

theorem setEntry_setEntry (i : Nat) (o o' : Option Entry) (s : State) :
    setEntry i o (setEntry i o' s) = setEntry i o s := by
  simp only [setEntry, State.setFolio, List.set_set]

theorem buyPlace_of_entry {state : EntryState} {t : Tariff} (he : entryAt s.folio i = some e) :
    buyPlace state t i s = setEntry i (some (buyEntry state t (houseMinute s.clock) e)) s := by
  simp only [buyPlace, he]

/-- The place a film may be bought in: that of its PREVIEW entry, or the one a new entry takes. -/
def buysAt (s : State) (film i : Nat) (e : Entry) : Prop :=
  (placeOf s.folio.entries film = some i ∧ entryAt s.folio i = some e) ∨
    (placeOf s.folio.entries film = none ∧ newPlace s.folio.entries = some i ∧
      e = newEntry film s.folio.feedSecond)

theorem buysAt.lt (h : buysAt s film i e) : i < s.folio.entries.length := by
  rcases h with ⟨here, _⟩ | ⟨_, place, _⟩
  · exact lt_of_placeOf here
  · exact lt_of_newPlace place

theorem buysAt.film_eq (h : buysAt s film i e) : e.film = film := by
  rcases h with ⟨here, he⟩ | ⟨_, _, rfl⟩
  · obtain ⟨e', he', same⟩ := entryAt_placeOf here
    rw [he] at he'
    cases he'
    exact same
  · rfl

theorem buysAt.placeOf_set (h : buysAt s film i e) {e' : Entry} (same : e'.film = film) :
    placeOf (s.folio.entries.set i (some e')) film = some i := by
  refine Machine.placeOf_set h.lt same ?_
  rcases h with ⟨here, _⟩ | ⟨absent, _, _⟩
  · exact .inl here
  · exact .inr absent

/-- The film has a place, and its entry there is bought in the state as it was. -/
theorem buysAt.placeForFilm (h : buysAt s film i e) : ∃ u, placeForFilm film s = some (i, u) ∧
    ∀ state t, buyPlace state t i u =
      setEntry i (some (buyEntry state t (houseMinute s.clock) e)) s := by
  rcases h with ⟨here, he⟩ | ⟨absent, place, rfl⟩
  · exact ⟨s, placeForFilm_of_entry here, fun state t => buyPlace_of_entry he⟩
  · refine ⟨_, placeForFilm_of_new absent place, fun state t => ?_⟩
    rw [buyPlace_of_entry (entryAt_setEntry_self (lt_of_newPlace place) _), setEntry_setEntry]
    rfl

/-- The values of a reply once the film's place has been set. -/
theorem folioBody_of_set {t : State} {e' : Entry} (h : buysAt s film i e) (same : e'.film = film)
    (entries : t.folio.entries = s.folio.entries.set i (some e')) : folioBody t film =
      .folio film (some e'.state) e'.price e'.windowEnd t.folio.total t.folio.reserved t.folio.cap := by
  have place : placeOf t.folio.entries film = some i := by
    rw [entries]
    exact h.placeOf_set same
  have entry : entryAt t.folio i = some e' := by
    rw [entryAt, entries, getD_set h.lt, if_pos rfl]
  rw [folioBody, filmEntry_of_place place, entry]
  rfl

end

/-! ### PURCHASE accepted (R80, R82) -/

/-- The checks before the price pass. -/
theorem servePurchase_of_allowed {f : Frame} {s : State} {t : Tariff}
    (valid : validFilm (bodyFilm f) = true) (room : s.stay.room = .occupied) (clock : s.clock.set = true)
    (tariff : tariffOf s.folio (bodyFilm f) = some t)
    (preview : ∀ e, filmEntry s (bodyFilm f) = some e → e.state = .preview)
    (rating : t.rating ≤ effectiveCeiling s.gate) (hard : t.rating ≤ s.gate.hardCeiling) {i : Nat}
    {u : State} (placed : placeForFilm (bodyFilm f) s = some (i, u)) :
    servePurchase f s =
      if t.price = 0 then purchaseFree f t s
      else if s.folio.cap < s.folio.total + s.folio.reserved + t.price then answerFolio f .capReached s
      else if 10 ≤ s.folio.queue.length + boughtCount s.folio.entries then answerFolio f .queueFull s
      else answerFolio f .ok (acceptPurchase t i u) := by
  have allowed : ratingAnswer s.gate t.rating = .allowed := by
    rw [ratingAnswer, if_neg (Nat.not_lt.mpr hard), if_neg (Nat.not_lt.mpr rating)]
  have state : (filmEntry s (bodyFilm f)).map (·.state) = none ∨
      (filmEntry s (bodyFilm f)).map (·.state) = some .preview := by
    cases entry : filmEntry s (bodyFilm f) with
    | none => exact .inl rfl
    | some e => exact .inr (congrArg some (preview e entry))
  unfold servePurchase
  rcases state with state | state <;>
    simp [valid, room, clock, tariff, state, allowed, placed]

section
variable {f : Frame} {s t : State} {i : Nat} {e e' : Entry} {rs : List Report}

/-- A reply to a PURCHASE that has set the film's place, after its reports. -/
theorem answerFolio_told (h : buysAt s (bodyFilm f) i e) (same : e'.film = bodyFilm f)
    (entries : t.folio.entries = s.folio.entries.set i (some e'))
    (link : t.link = tell rs (takeFrame f s).link) (code : ResultCode) :
    answerFolio f code t = { t with link := replied f code (.folio (bodyFilm f) (some e'.state) e'.price
      e'.windowEnd t.folio.total t.folio.reserved t.folio.cap) (tell rs s.link) } := by
  rw [← folioBody_of_set h same entries]
  exact answer_told link

/-- The state in which a free film is charged, but for its report. -/
def boughtFree (i : Nat) (t : Tariff) (e : Entry) (s : State) : State :=
  { s with folio := { s.folio with
    entries := s.folio.entries.set i (some (buyEntry .charged t (houseMinute s.clock) e))
    snapshotSeconds := 0 } }

/-- The state in which a film is bought and its price reserved, but for its report. -/
def boughtReserved (i : Nat) (t : Tariff) (e : Entry) (s : State) : State :=
  { s with folio := { s.folio with
    entries := s.folio.entries.set i (some (buyEntry .bought t (houseMinute s.clock) e))
    reserved := s.folio.reserved + t.price, snapshotSeconds := 0 } }

/-- The state in which a film is bought and charged at once, but for its reports. -/
def boughtCharged (i : Nat) (t : Tariff) (e : Entry) (s : State) : State :=
  { s with folio :=
    committedFolio i (buyEntry .bought t (houseMinute s.clock) e) (boughtReserved i t e s) }

theorem purchaseFree_eq {tariff : Tariff} (h : buysAt s (bodyFilm f) i e) :
    purchaseFree f tariff (takeFrame f s) = { boughtFree i tariff e s with
      link := replied f .ok (.folio (bodyFilm f) (some .charged) (some tariff.price)
        (some (minuteAfter (houseMinute s.clock) tariff.window)) s.folio.total s.folio.reserved s.folio.cap)
        (tell [snapshotTold (boughtFree i tariff e s)] s.link) } := by
  obtain ⟨u, placed, buys⟩ := buysAt.placeForFilm (s := takeFrame f s) h
  rw [purchaseFree, placed]
  dsimp only
  rw [buys]
  exact answerFolio_told (rs := [snapshotTold (boughtFree i tariff e s)])
    (e' := buyEntry .charged tariff (houseMinute s.clock) e)
    (t := emitSnapshot (setEntry i (some (buyEntry .charged tariff (houseMinute s.clock) e)) (takeFrame f s)))
    h h.film_eq rfl rfl _

theorem acceptPurchase_of_grace {u : State} {tariff : Tariff} (grace : s.stay.grace ≠ 0)
    (buys : buyPlace .bought tariff i u =
      setEntry i (some (buyEntry .bought tariff (houseMinute s.clock) e)) s) :
    acceptPurchase tariff i u = { boughtReserved i tariff e s with
      link := tell [snapshotTold (boughtReserved i tariff e s)] s.link } := by
  rw [acceptPurchase, buys]
  exact if_neg grace

theorem acceptPurchase_of_no_grace {u : State} {tariff : Tariff} (grace : s.stay.grace = 0)
    (hi : i < s.folio.entries.length)
    (buys : buyPlace .bought tariff i u =
      setEntry i (some (buyEntry .bought tariff (houseMinute s.clock) e)) s) :
    acceptPurchase tariff i u = { boughtCharged i tariff e s with
      link := tell [snapshotTold (boughtReserved i tariff e s),
        committedTold (buyEntry .bought tariff (houseMinute s.clock) e),
        snapshotTold (boughtCharged i tariff e s)] s.link } := by
  have entry : entryAt (boughtReserved i tariff e s).folio i =
      some (buyEntry .bought tariff (houseMinute s.clock) e) := by
    rw [entryAt, boughtReserved, getD_set hi, if_pos rfl]
  rw [acceptPurchase, buys]
  refine (if_pos grace).trans ?_
  exact commitPlace_of_entry (s := { boughtReserved i tariff e s with
    link := tell [snapshotTold (boughtReserved i tariff e s)] s.link }) entry

/-- A film bought at a grace above 0 (R82). -/
theorem answer_acceptPurchase_of_grace {u : State} {tariff : Tariff} (h : buysAt s (bodyFilm f) i e)
    (grace : s.stay.grace ≠ 0) (buys : buyPlace .bought tariff i u =
      setEntry i (some (buyEntry .bought tariff (houseMinute s.clock) e)) (takeFrame f s)) :
    answerFolio f .ok (acceptPurchase tariff i u) = { boughtReserved i tariff e s with
      link := replied f .ok (.folio (bodyFilm f) (some .bought) (some tariff.price)
        (some (minuteAfter (houseMinute s.clock) tariff.window)) s.folio.total
        (s.folio.reserved + tariff.price) s.folio.cap)
        (tell [snapshotTold (boughtReserved i tariff e s)] s.link) } := by
  have accepted := acceptPurchase_of_grace (s := takeFrame f s) grace buys
  generalize acceptPurchase tariff i u = t at accepted
  have link : t.link = tell [snapshotTold (boughtReserved i tariff e s)] (takeFrame f s).link := by
    rw [accepted]
    rfl
  rw [answerFolio_told (e' := buyEntry .bought tariff (houseMinute s.clock) e) h h.film_eq
    (by rw [accepted]; rfl) link, accepted]
  rfl

/-- The state in which a film is charged at once: R is as it was. -/
theorem boughtCharged_eq {tariff : Tariff} (i : Nat) (e : Entry) (s : State) :
    boughtCharged i tariff e s = { s with folio := { s.folio with
      entries := s.folio.entries.set i (some (chargedEntry s.folio.nextSerial
        (buyEntry .bought tariff (houseMinute s.clock) e)))
      total := s.folio.total + tariff.price, nextSerial := serialAfter s.folio.nextSerial
      queue := s.folio.queue ++
        [⟨s.folio.nextSerial, .charge, e.film, tariff.price, houseMinute s.clock⟩]
      snapshotSeconds := 0 } } := by
  have reserved : s.folio.reserved + tariff.price - tariff.price = s.folio.reserved :=
    Nat.add_sub_cancel ..
  simp only [boughtCharged, committedFolio, boughtReserved, List.set_set]
  rw [show (buyEntry .bought tariff (houseMinute s.clock) e).price.getD 0 = tariff.price from rfl, reserved]
  rfl

/-- A film bought at the grace 0 (R77, R82). -/
theorem answer_acceptPurchase_of_no_grace {u : State} {tariff : Tariff} (h : buysAt s (bodyFilm f) i e)
    (grace : s.stay.grace = 0) (buys : buyPlace .bought tariff i u =
      setEntry i (some (buyEntry .bought tariff (houseMinute s.clock) e)) (takeFrame f s)) :
    answerFolio f .ok (acceptPurchase tariff i u) = { boughtCharged i tariff e s with
      link := replied f .ok (.folio (bodyFilm f) (some .charged) (some tariff.price)
        (some (minuteAfter (houseMinute s.clock) tariff.window)) (s.folio.total + tariff.price)
        s.folio.reserved s.folio.cap)
        (tell [snapshotTold (boughtReserved i tariff e s),
          committedTold (buyEntry .bought tariff (houseMinute s.clock) e),
          snapshotTold (boughtCharged i tariff e s)] s.link) } := by
  have accepted := acceptPurchase_of_no_grace (s := takeFrame f s) grace h.lt buys
  rw [boughtCharged_eq] at accepted ⊢
  generalize acceptPurchase tariff i u = t at accepted
  have link : t.link = tell [snapshotTold (boughtReserved i tariff e s),
      committedTold (buyEntry .bought tariff (houseMinute s.clock) e),
      snapshotTold (boughtCharged i tariff e s)] (takeFrame f s).link := by
    rw [accepted, boughtCharged_eq]
    rfl
  rw [answerFolio_told (e' := chargedEntry s.folio.nextSerial
    (buyEntry .bought tariff (houseMinute s.clock) e)) h h.film_eq (by rw [accepted]; rfl) link, accepted,
    boughtCharged_eq]
  rfl

end

/-- Settles O37: the film has its place (`buysAt`), and there it is bought, and charged at once where it is
free or the grace is 0. -/
theorem aPurchaseBuysTheFilm : Obligations.aPurchaseBuysTheFilm := by
  intro s f tariff i e h film low high room clock hasTariff rating hard place
  have served : exec .purchase s = .next (servePurchase f (takeFrame f s)) :=
    congrArg Host.Outcome.next (serveRequest_of_requested _ h)
  have buys : buysAt s (bodyFilm f) i e := by
    rcases place with ⟨here, he, _⟩ | new
    · exact .inl ⟨here, he⟩
    · exact .inr new
  have preview : ∀ e', filmEntry s film = some e' → e'.state = .preview := by
    intro e' he'
    rcases place with ⟨here, he, preview⟩ | ⟨absent, _, _⟩
    · rw [filmEntry_of_place here, he] at he'
      cases he'
      exact preview
    · simp [filmEntry_of_absent absent] at he'
  have minute : houseMinute s.clock = s.clock.minute := by simp [houseMinute, clock]
  obtain ⟨u, placed, buysIt⟩ := buysAt.placeForFilm (s := takeFrame f s) buys
  have allowed := servePurchase_of_allowed (s := takeFrame f s) ((validFilm_iff film).mpr ⟨low, high⟩) room
    clock hasTariff preview rating hard placed
  rw [takeFrame_folio] at allowed
  rw [served, allowed]
  intro window e' put reply snap free bought charged
  refine ⟨fun noPrice => ?_, fun price cap queue => ?_⟩
  · rw [if_pos noPrice, purchaseFree_eq buys, boughtFree, minute]
    rfl
  · rw [if_neg (Nat.ne_of_gt price), if_neg (Nat.not_lt.mpr cap), if_neg (Nat.not_le.mpr queue)]
    refine ⟨fun grace => ?_, fun grace => ?_⟩
    · rw [answer_acceptPurchase_of_grace buys (Nat.ne_of_gt grace) (buysIt .bought tariff), boughtReserved,
        minute]
      rfl
    · rw [answer_acceptPurchase_of_no_grace buys grace (buysIt .bought tariff), boughtCharged_eq,
        boughtReserved, minute, buys.film_eq]
      rw [committedTold, show (buyEntry .bought tariff s.clock.minute e).film = film from buys.film_eq]
      rfl

end Sys2Proof.Machine
end

section
/-! PROOFS. CANCEL (R84, R100), and the queries STATUS and FILM_QUERY (R85, R171). -/

namespace Sys2Proof.Machine

/-! ### Settlement while a request is served -/

/-- The state with the port at work on a request. -/
def serving (a : Assembler) (x : ReplySlot) (s : State) : State :=
  { s with link := { s.link with assembler := a, slot := x } }

theorem report_serving (r : Report) (a : Assembler) (x : ReplySlot) (s : State) :
    report r (serving a x s) = serving a x (report r s) :=
  congrArg (fun l : SetLink => { s with link := l }) (queueReport_withRequest r s.link a x)

theorem endEntry_serving (i : Nat) (e : Entry) (credit : Nat) (a : Assembler) (x : ReplySlot) (s : State) :
    endEntry i e credit (serving a x s) = serving a x (endEntry i e credit s) := by
  have ended := report_serving (.filmEvent e.film .ended none e.price e.windowEnd e.clear e.impaired
    e.previewUsed (some credit)) a x (setEntry i none s)
  unfold endEntry filmReport
  rw [show setEntry i none (serving a x s) = serving a x (setEntry i none s) from rfl, ended]
  exact report_serving _ a x (zeroSnapshotSeconds _)

/-- Settlement of a place does not look at the request the port is at work on. -/
theorem settlePlace_serving (i : Nat) (a : Assembler) (x : ReplySlot) (s : State) :
    settlePlace i (serving a x s) = serving a x (settlePlace i s) := by
  cases he : entryAt s.folio i with
  | none => rw [settlePlace_of_none he, settlePlace_of_none (s := serving a x s) he]
  | some e =>
    by_cases hs : e.state = .settling
    · cases hc : e.credit.getD 0 with
      | zero =>
        rw [settlePlace_of_no_credit he hs hc, settlePlace_of_no_credit (s := serving a x s) he hs hc]
        exact endEntry_serving i e 0 a x s
      | succ c =>
        have credit : e.credit = some (c + 1) := by
          cases h : e.credit with
          | none => simp [h] at hc
          | some n => simpa [h] using hc
        cases place : unreservedPlace s.folio with
        | false =>
          rw [settlePlace_of_full he hs credit place,
            settlePlace_of_full (s := serving a x s) he hs credit place]
        | true =>
          rw [settlePlace_of_credit he hs credit place,
            settlePlace_of_credit (s := serving a x s) he hs credit place]
          exact endEntry_serving i e (c + 1) a x
            (creditTotal (c + 1) (appendRecord .credit e.film (c + 1) s))
    · rw [settlePlace_of_other he hs, settlePlace_of_other (s := serving a x s) he hs]

theorem settleWaiting_serving (a : Assembler) (x : ReplySlot) (s : State) :
    settleWaiting (serving a x s) = serving a x (settleWaiting s) := by
  unfold settleWaiting overPlaces
  induction List.range 8 generalizing s with
  | nil => rfl
  | cons i is ih =>
    rw [List.foldl_cons, List.foldl_cons, settlePlace_serving]
    exact ih _

/-! ### CANCEL -/

section
variable {s : State} {film i : Nat} {e : Entry}

/-- A film keeps its place when entries waiting settle. -/
theorem placeOf_settleWaiting (here : placeOf s.folio.entries film = some i)
    (he : entryAt s.folio i = some e) (other : e.state ≠ .settling) :
    placeOf (settleWaiting s).folio.entries film = some i ∧
      entryAt (settleWaiting s).folio i = some e := by
  obtain ⟨log, records, reports, h⟩ := settleWaiting_settled s
  generalize settleWaiting s = t at h
  have mem : i ∉ log := fun mem => by
    obtain ⟨_, e', he', settling⟩ := h.below i mem
    rw [he] at he'
    cases he'
    exact other settling
  have after := (h.others i mem).trans he
  obtain ⟨e', he', same⟩ := entryAt_placeOf here
  rw [he] at he'
  cases he'
  refine ⟨?_, after⟩
  rw [placeOf_eq_placeWhere, placeWhere_eq_some_iff] at here ⊢
  refine ⟨⟨e, entryAt_eq_some_iff.mp after, by simp [same]⟩, fun k x hk there => ?_⟩
  rw [← entryAt_eq_some_iff (f := t.folio)] at there
  have logged : k ∉ log := fun gone => by simp [(h.gone k gone).2] at there
  rw [h.others k logged, entryAt_eq_some_iff] at there
  exact here.2 k x hk there

/-- The state in which a film has been returned (R84), but for its report. -/
def cancelled (i : Nat) (e : Entry) (s : State) : State :=
  { s with folio := { s.folio with
    entries := s.folio.entries.set i (some (cancelEntry e))
    reserved := s.folio.reserved - e.price.getD 0, snapshotSeconds := 0 } }

/-- A returned film waits for nothing. -/
theorem anySettling_cancelled (he : entryAt s.folio i = some e)
    (idle : anySettling s.folio.entries = false) :
    anySettling (cancelled i e s).folio.entries = false := by
  by_contra waits
  obtain ⟨k, x, hx, settling⟩ := anySettling_iff.mp (by simpa using waits)
  rw [cancelled, getD_set (lt_of_entryAt he)] at hx
  split_ifs at hx
  · cases hx
    cases settling
  · have some_waits : anySettling s.folio.entries = true := anySettling_iff.mpr ⟨k, x, hx, settling⟩
    simp [some_waits] at idle

theorem serveCancel_of_bought {f : Frame} (valid : validFilm (bodyFilm f) = true)
    (here : placeOf s.folio.entries (bodyFilm f) = some i) (he : entryAt s.folio i = some e)
    (bought : e.state = .bought) : serveCancel f s = answerFolio f .ok (settleWaiting
      { cancelled i e s with link := queueReport (snapshotTold (cancelled i e s)) s.link }) := by
  simp only [serveCancel, valid, here, he, bought]
  exact congrArg (fun t => answerFolio f .ok (settleWaiting t)) rfl

/-- The state in which a film has been returned and the entries waiting have settled. -/
def cancelledSettled (i : Nat) (e : Entry) (s : State) : State := settleWaiting
  { cancelled i e s with link := queueReport (snapshotTold (cancelled i e s)) s.link }

theorem answerFolio_serving (f : Frame) (code : ResultCode) (u : State) :
    answerFolio f code (serving .hunting (.serving f) u) =
      { u with link := replied f code (folioBody u (bodyFilm f)) u.link } := rfl

theorem serveCancel_takeFrame {f : Frame} (valid : validFilm (bodyFilm f) = true)
    (here : placeOf s.folio.entries (bodyFilm f) = some i) (he : entryAt s.folio i = some e)
    (bought : e.state = .bought) : serveCancel f (takeFrame f s) = { cancelledSettled i e s with
      link := replied f .ok (folioBody (cancelledSettled i e s) (bodyFilm f))
        (cancelledSettled i e s).link } := by
  have served := serveCancel_of_bought (s := takeFrame f s) valid here he bought
  have taken : ({ cancelled i e (takeFrame f s) with
      link := queueReport (snapshotTold (cancelled i e (takeFrame f s))) (takeFrame f s).link } : State) =
      serving .hunting (.serving f) { cancelled i e s with
        link := queueReport (snapshotTold (cancelled i e s)) s.link } :=
    congrArg (fun l : SetLink => { cancelled i e s with link := l }) (queueReport_withRequest ..)
  rw [served, taken, settleWaiting_serving, ← cancelledSettled]
  exact answerFolio_serving f .ok _

theorem folioBody_cancelledSettled (here : placeOf s.folio.entries film = some i)
    (he : entryAt s.folio i = some e) : folioBody (cancelledSettled i e s) film =
      .folio film (some .preview) none none (cancelledSettled i e s).folio.total
        (cancelledSettled i e s).folio.reserved (cancelledSettled i e s).folio.cap := by
  obtain ⟨e', he', same⟩ := entryAt_placeOf here
  rw [he] at he'
  cases he'
  obtain ⟨place, entry⟩ := placeOf_settleWaiting
    (s := { cancelled i e s with link := queueReport (snapshotTold (cancelled i e s)) s.link })
    (film := film) (i := i) (e := cancelEntry e) (placeOf_set (lt_of_entryAt he) same (.inl here))
    (by rw [entryAt, cancelled, getD_set (lt_of_entryAt he), if_pos rfl]) (by simp [cancelEntry])
  rw [← cancelledSettled] at place entry
  rw [folioBody, filmEntry_of_place place, entry]
  rfl

theorem serveCancel_refused {f : Frame} (valid : validFilm (bodyFilm f) = true) {code : ResultCode}
    (refuses : (filmEntry s (bodyFilm f) = none ∧ code = .notFound) ∨
      (∃ e, filmEntry s (bodyFilm f) = some e ∧ e.state = .preview ∧ code = .notFound) ∨
      (∃ e, filmEntry s (bodyFilm f) = some e ∧ (e.state = .charged ∨ e.state = .settling) ∧
        code = .alreadyCharged)) : serveCancel f s = answerFolio f code s := by
  cases here : placeOf s.folio.entries (bodyFilm f) with
  | none =>
    rw [filmEntry_of_absent here] at refuses
    obtain ⟨_, rfl⟩ | ⟨e, no, _⟩ | ⟨e, no, _⟩ := refuses
    · simp only [serveCancel, valid, here]
      rfl
    · cases no
    · cases no
  | some i =>
    obtain ⟨e, he, _⟩ := entryAt_placeOf here
    rw [filmEntry_of_place here, he] at refuses
    obtain ⟨no, _⟩ | ⟨_, ⟨⟩, state, rfl⟩ | ⟨_, ⟨⟩, state | state, rfl⟩ := refuses
    · cases no
    all_goals
      simp only [serveCancel, valid, here, he, state]
      rfl

end

/-- Settles O38: a film that is returned keeps its place through the settlement after it. -/
theorem cancelReturnsAnUnchargedFilm : Obligations.cancelReturnsAnUnchargedFilm := by
  intro s f h film entry refused
  have served : exec .cancel s = .next (serveCancel f (takeFrame f s)) :=
    congrArg Host.Outcome.next (serveRequest_of_requested _ h)
  have refuses {code : ResultCode} (e : serveCancel f (takeFrame f s) = answerFolio f code (takeFrame f s)) :
      refused code := served.trans (congrArg Host.Outcome.next (e.trans (answerFolio_takeFrame ..)))
  refine ⟨fun invalid => refuses ?_, fun low high => ⟨fun previews => refuses ?_, fun paid => refuses ?_, ?_⟩⟩
  · have refusing : validFilm (bodyFilm f) = false := (not_validFilm_iff film).mpr invalid
    simp only [serveCancel, refusing]
    rfl
  · refine serveCancel_refused ((validFilm_iff film).mpr ⟨low, high⟩) ?_
    change (filmEntry s film).all _ = true at previews
    change (filmEntry s film = none ∧ _) ∨ (∃ e, filmEntry s film = some e ∧ _) ∨ _
    cases here : filmEntry s film with
    | none => exact .inl ⟨rfl, rfl⟩
    | some e => exact .inr (.inl ⟨e, rfl, by simpa [here] using previews, rfl⟩)
  · refine serveCancel_refused ((validFilm_iff film).mpr ⟨low, high⟩) (.inr (.inr ?_))
    change (filmEntry s film).any _ = true at paid
    change ∃ e, filmEntry s film = some e ∧ _
    cases here : filmEntry s film with
    | none => simp [here] at paid
    | some e => exact ⟨e, rfl, by simpa [here] using paid, rfl⟩
  · intro i e price here he bought hprice cancelled' link
    have same : cancelled' = cancelled i e s := by
      simp only [cancelled', cancelled, hprice, Option.getD_some]
      rfl
    have settled : settleWaiting { cancelled' with link := link } = cancelledSettled i e s := by
      rw [cancelledSettled, ← same]
      rfl
    refine ⟨_, rfl, ?_, fun idle => settleWaiting_of_none ?_⟩
    · rw [settled, served, serveCancel_takeFrame ((validFilm_iff film).mpr ⟨low, high⟩) here he bought,
        show folioBody _ (bodyFilm f) = _ from folioBody_cancelledSettled here he]
      generalize cancelledSettled i e s = u
      rfl
    · rw [same]
      exact anySettling_cancelled he idle

/-! ### STATUS and FILM_QUERY -/

theorem length_occupants {α : Type} (ts : List (Option α)) :
    (ts.filterMap id).length = ts.countP (·.isSome) := by
  induction ts with
  | nil => rfl
  | cons o ts ih => cases o <;> simpa using ih

theorem pendingStay_eq (c : StayController) : pendingStay c = (c.pendingCheckIn.map (·.stay)).getD 0 := by
  unfold pendingStay
  cases c.pendingCheckIn <;> rfl

theorem serveFilmQuery_of_valid {f : Frame} {s : State} (valid : validFilm (bodyFilm f) = true) :
    serveFilmQuery f s =
      match tariffOf s.folio (bodyFilm f), (placeOf s.folio.entries (bodyFilm f)).bind fun i =>
          (entryAt s.folio i).map (entryView s.stay.previewAllowance i) with
      | none, none => answer f .notFound .codeOnly s
      | t, v => answer f .ok (.film t v) s := by
  simp only [serveFilmQuery, valid]
  rfl

/-- Settles O39: by what the two services read. -/
theorem queriesChangeOnlyTheReply : Obligations.queriesChangeOnlyTheReply := by
  intro s f
  refine ⟨fun h => ?_, fun h => ?_⟩
  · intro shown filled
    have served : exec .status s = .next (serveStatus f (takeFrame f s)) :=
      congrArg Host.Outcome.next (serveRequest_of_requested _ h)
    have answered : serveStatus f (takeFrame f s) =
        { s with link := replied f .ok (.status (statusValues s)) s.link } := rfl
    have holds (b : InboxBuffer) : (if (filledMessage b).isSome then 1 else 0) = filled b := by
      cases b <;> rfl
    rw [served, answered, statusValues, pendingStay_eq, loopStatus, filledCount, holds, holds, tariffCount,
      length_occupants, liveEntries, length_occupants]
    rfl
  · intro film answers
    have served : exec .filmQuery s = .next (serveFilmQuery f (takeFrame f s)) :=
      congrArg Host.Outcome.next (serveRequest_of_requested _ h)
    have answered {code : ResultCode} {body : ReplyBody}
        (e : serveFilmQuery f (takeFrame f s) = answer f code body (takeFrame f s)) : answers code body :=
      served.trans (congrArg Host.Outcome.next (e.trans (answer_takeFrame ..)))
    refine ⟨fun invalid => answered ?_, fun low high => ?_⟩
    · have refusing : validFilm (bodyFilm f) = false := (not_validFilm_iff film).mpr invalid
      simp only [serveFilmQuery, refusing]
      rfl
    · have valid := serveFilmQuery_of_valid (s := takeFrame f s) ((validFilm_iff film).mpr ⟨low, high⟩)
      rw [takeFrame_folio, takeFrame_stay] at valid
      refine ⟨fun noTariff absent => answered ?_, fun x tariff absent => answered ?_,
        fun i e here he => answered ?_⟩
      · rw [valid, show tariffOf s.folio (bodyFilm f) = none from noTariff,
          show placeOf s.folio.entries (bodyFilm f) = none from absent]
        rfl
      · rw [valid, show tariffOf s.folio (bodyFilm f) = some x from tariff,
          show placeOf s.folio.entries (bodyFilm f) = none from absent]
        rfl
      · rw [valid, show placeOf s.folio.entries (bodyFilm f) = some i from here, Option.bind_some, he]
        change _ = answer f .ok (.film (tariffOf s.folio (bodyFilm f)) _) (takeFrame f s)
        cases tariffOf s.folio (bodyFilm f) <;> rfl

end Sys2Proof.Machine
end

section
/-! PROOFS. The close of a feed second (R76): the count that each entry's flags call for, and the previews
that end (R77). -/

namespace Sys2Proof.Machine

/-! ### One entry (R76, R77) -/

/-- The close counts a flag of the entry. -/
def secondSeen (counts : Bool) (e : Entry) : Bool := counts && (e.seenClear || e.seenFail)

/-- The entry is BOUGHT or CHARGED. -/
def entryPaid (e : Entry) : Bool := e.state == .bought || e.state == .charged

def clearCounted (counts : Bool) (e : Entry) : Nat :=
  if entryPaid e && secondSeen counts e && !e.seenFail then satInc e.clear else e.clear

def impairedCounted (counts : Bool) (e : Entry) : Nat :=
  if entryPaid e && secondSeen counts e && e.seenFail then satInc e.impaired else e.impaired

def usedCounted (counts : Bool) (allowance : Nat) (e : Entry) : Nat :=
  if e.state == .preview && secondSeen counts e && allowance != 0 then min (e.previewUsed + 1) 600
  else e.previewUsed

/-- The entry once the second is counted and its flags are clear. -/
def countedEntry (counts : Bool) (second allowance : Nat) (e : Entry) : Entry :=
  { e with
    previewUsed := usedCounted counts allowance e, clear := clearCounted counts e
    impaired := impairedCounted counts e
    seenClear := e.seenClear && !counts, seenFail := e.seenFail && !counts
    lastPresented := if secondSeen counts e then second else e.lastPresented }

/-- The report of a preview that reaches the allowance (R77). -/
def previewTold (counts : Bool) (allowance : Nat) (e : Entry) : Option Report :=
  if e.state = .preview ∧ e.previewUsed < allowance ∧ usedCounted counts allowance e = allowance then
    some (.filmEvent e.film .previewEnded (some .preview) e.price e.windowEnd e.clear e.impaired
      (usedCounted counts allowance e) none)
  else none

theorem countedEntry_of_unseen {counts : Bool} {e : Entry} (second allowance : Nat)
    (unseen : secondSeen counts e = false) : countedEntry counts second allowance e = e := by
  have flags : (e.seenClear && !counts) = e.seenClear ∧ (e.seenFail && !counts) = e.seenFail := by
    cases counts
    · simp
    · obtain ⟨clear, fail⟩ : e.seenClear = false ∧ e.seenFail = false := by
        simpa [secondSeen] using unseen
      rw [clear, fail]
      exact ⟨rfl, rfl⟩
  simp [countedEntry, usedCounted, clearCounted, impairedCounted, unseen, flags]

theorem previewTold_of_unseen {counts : Bool} {e : Entry} (allowance : Nat)
    (unseen : secondSeen counts e = false) : previewTold counts allowance e = none := by
  refine if_neg ?_
  rintro ⟨-, below, reached⟩
  simp [usedCounted, unseen] at reached
  omega

theorem closeEntry_eq_counted {e : Entry} (second allowance : Nat)
    (seen : secondSeen true e = true) :
    closeEntry second allowance e = countedEntry true second allowance e := by
  unfold closeEntry countedEntry usedCounted clearCounted impairedCounted entryPaid
  rw [seen]
  cases state : e.state <;> cases fail : e.seenFail <;> by_cases none_allowed : allowance = 0 <;>
    simp [none_allowed, state]

/-- The close of a place (R76, R77). -/
theorem closePlace_of_entry {i : Nat} {e : Entry} {s : State} (he : entryAt s.folio i = some e) :
    closePlace i s = { s with
      folio := { s.folio with
        entries := s.folio.entries.set i
          (some (countedEntry true s.folio.feedSecond s.stay.previewAllowance e)) }
      link := tell (previewTold true s.stay.previewAllowance e).toList s.link } := by
  unfold closePlace
  rw [he]
  dsimp only
  cases seen : secondSeen true e with
  | false =>
    have unseen : ¬ (e.seenClear = true ∨ e.seenFail = true) := by simpa [secondSeen] using seen
    have same : s.folio.entries.set i (some e) = s.folio.entries := by
      have place := entryAt_eq_some_iff.mp he
      obtain ⟨hi, here⟩ := List.getElem?_eq_some_iff.mp place
      rw [← here, List.set_getElem_self]
    rw [if_neg unseen, countedEntry_of_unseen _ _ seen, previewTold_of_unseen _ seen, same]
    rfl
  | true =>
    have some_seen : e.seenClear = true ∨ e.seenFail = true := by simpa [secondSeen] using seen
    rw [if_pos some_seen, closeEntry_eq_counted _ _ seen]
    have used : (countedEntry true s.folio.feedSecond s.stay.previewAllowance e).previewUsed =
        usedCounted true s.stay.previewAllowance e := rfl
    rw [used]
    unfold previewTold
    by_cases ends : e.state = .preview ∧ e.previewUsed < s.stay.previewAllowance ∧
        usedCounted true s.stay.previewAllowance e = s.stay.previewAllowance
    · have unpaid : entryPaid e = false := by simp [entryPaid, ends.1]
      have clear : clearCounted true e = e.clear := by simp [clearCounted, unpaid]
      have impaired : impairedCounted true e = e.impaired := by simp [impairedCounted, unpaid]
      rw [if_pos ends, if_pos ends]
      simp only [filmReport, countedEntry, clear, impaired]
      rfl
    · rw [if_neg ends, if_neg ends]
      rfl

/-! ### The table (R76) -/

/-- What a place of the table selects, in place order. -/
def overTable {α : Type} (f : Folio) (select : Entry → Option α) (k : Nat) : List α :=
  (List.range k).filterMap fun i => (entryAt f i).bind select

theorem overTable_succ {α : Type} (f : Folio) (select : Entry → Option α) (k : Nat) :
    overTable f select (k + 1) = overTable f select k ++ ((entryAt f k).bind select).toList := by
  rw [overTable, overTable, List.range_succ, List.filterMap_append, List.filterMap_cons]
  cases (entryAt f k).bind select <;> rfl

/-- The first places have been counted. -/
structure CountedTo (s : State) (k : Nat) (t : State) : Prop where
  frame : t = { s with
    folio := { s.folio with entries := t.folio.entries }
    link := tell (overTable s.folio (previewTold true s.stay.previewAllowance) k) s.link }
  length : t.folio.entries.length = s.folio.entries.length
  done : ∀ i, i < k → entryAt t.folio i =
    (entryAt s.folio i).map (countedEntry true s.folio.feedSecond s.stay.previewAllowance)
  ahead : ∀ i, k ≤ i → entryAt t.folio i = entryAt s.folio i

theorem CountedTo.step {s t : State} {k : Nat} (h : CountedTo s k t) :
    CountedTo s (k + 1) (closePlace k t) := by
  have here := h.ahead k (Nat.le_refl k)
  have stay : t.stay = s.stay := by rw [h.frame]
  have second : t.folio.feedSecond = s.folio.feedSecond := by rw [h.frame]
  cases he : entryAt t.folio k with
  | none =>
    have same : closePlace k t = t := by simp only [closePlace, he]
    rw [same]
    refine ⟨?_, h.length, fun i hi => ?_, fun i hi => h.ahead i (Nat.le_of_succ_le hi)⟩
    · rw [overTable_succ, ← here, he]
      simpa using h.frame
    · rcases Nat.lt_succ_iff_lt_or_eq.mp hi with hi | rfl
      · exact h.done i hi
      · rw [he, ← here, he]
        rfl
  | some e =>
    have before : entryAt s.folio k = some e := here.symm.trans he
    have after := closePlace_of_entry he
    rw [stay, second] at after
    have entries : (closePlace k t).folio.entries = t.folio.entries.set k
        (some (countedEntry true s.folio.feedSecond s.stay.previewAllowance e)) := by rw [after]
    have at_place (i : Nat) : entryAt (closePlace k t).folio i = if i = k then
        some (countedEntry true s.folio.feedSecond s.stay.previewAllowance e) else entryAt t.folio i := by
      rw [entryAt, entries, getD_set (lt_of_entryAt he)]
      rfl
    refine ⟨?_, ?_, fun i hi => ?_, fun i hi => ?_⟩
    · rw [entries, after, overTable_succ, before, tell_append]
      have frame := h.frame
      generalize overTable s.folio (previewTold true s.stay.previewAllowance) k = told at frame
      rw [frame]
      rfl
    · rw [entries, List.length_set, h.length]
    · rw [at_place]
      split_ifs with same
      · rw [same, before]
        rfl
      · exact h.done i (by omega)
    · rw [at_place, if_neg (by omega)]
      exact h.ahead i (by omega)

/-- The flags of the second are counted, or stay for the second after a reset (R69, R76). -/
theorem countFlags_counted (s : State) (counts : Bool) : ∃ t, countFlags (!counts) s = t ∧
    t = { s with
      folio := { s.folio with entries := t.folio.entries }
      link := tell (overTable s.folio (previewTold counts s.stay.previewAllowance) 8) s.link } ∧
    t.folio.entries.length = s.folio.entries.length ∧
    ∀ i, i < 8 → entryAt t.folio i =
      (entryAt s.folio i).map (countedEntry counts s.folio.feedSecond s.stay.previewAllowance) := by
  cases counts with
  | false =>
    have unseen (e : Entry) : secondSeen false e = false := rfl
    have none_told : overTable s.folio (previewTold false s.stay.previewAllowance) 8 = [] := by
      refine List.filterMap_eq_nil_iff.mpr fun i _ => ?_
      cases entryAt s.folio i with
      | none => rfl
      | some e => exact previewTold_of_unseen _ (unseen e)
    refine ⟨s, countFlags_before s, by rw [none_told]; rfl, rfl, fun i _ => ?_⟩
    cases entryAt s.folio i with
    | none => rfl
    | some e => exact congrArg some (countedEntry_of_unseen _ _ (unseen e)).symm
  | true =>
    have start : CountedTo s 0 s :=
      ⟨rfl, rfl, fun _ below => absurd below (Nat.not_lt_zero _), fun _ _ => rfl⟩
    have h := overPlaces_reach (P := CountedTo s) closePlace start fun k t _ => CountedTo.step
    exact ⟨_, countFlags_after s, h.frame, h.length, h.done⟩

end Sys2Proof.Machine
end

section
/-! PROOFS. The commit tests at the close of a feed second, and the periodic snapshot (R77, R78, R173). -/

namespace Sys2Proof.Machine

/-! ### The commits in place order (R77, R78) -/

/-- The entry commits at the close: BOUGHT with its count at the grace (R77). -/
def commitsAt (grace : Nat) (e : Entry) : Bool := e.state == .bought && decide (grace ≤ e.clear)

/-- The entries of the first places that commit. -/
def committingTo (f : Folio) (grace k : Nat) : List Entry :=
  (List.range k).filterMap fun i => (entryAt f i).filter (commitsAt grace)

theorem committingTo_succ (f : Folio) (grace k : Nat) : committingTo f grace (k + 1) =
    committingTo f grace k ++ ((entryAt f k).filter (commitsAt grace)).toList := by
  rw [committingTo, committingTo, List.range_succ, List.filterMap_append, List.filterMap_cons]
  cases (entryAt f k).filter (commitsAt grace) <;> rfl

/-- The sum of the prices of entries. -/
def pricesOf (es : List Entry) : Nat := (es.map (·.price.getD 0)).sum

/-- The first places have had their commit test. -/
structure CommitTo (s : State) (k : Nat) (t : State) (log : List Entry) (records : List Record)
    (reports : List Report) : Prop where
  frame : t = { s with folio := t.folio, link := tell reports s.link }
  folio : t.folio = { s.folio with
    entries := t.folio.entries, nextSerial := t.folio.nextSerial
    total := s.folio.total + pricesOf log, reserved := s.folio.reserved - pricesOf log
    queue := s.folio.queue ++ records
    snapshotSeconds := if log = [] then s.folio.snapshotSeconds else 0 }
  length : t.folio.entries.length = s.folio.entries.length
  logged : log = committingTo s.folio s.stay.grace k
  stays : ∀ i e, i < k → entryAt s.folio i = some e → commitsAt s.stay.grace e = false →
    entryAt t.folio i = some e
  charges : ∀ i e, i < k → entryAt s.folio i = some e → commitsAt s.stay.grace e = true →
    ∃ r, r ∈ records ∧ r.film = e.film ∧ r.amount = e.price.getD 0 ∧
      entryAt t.folio i = some (chargedEntry r.serial e)
  empties : ∀ i, entryAt s.folio i = none → entryAt t.folio i = none
  ahead : ∀ i, k ≤ i → entryAt t.folio i = entryAt s.folio i
  made : records.map (fun r => (r.kind, r.film, r.amount)) =
    log.map fun e => (.charge, e.film, e.price.getD 0)
  serials : recordsFollow (houseMinute s.clock) s.folio.nextSerial records t.folio.nextSerial
  told : reports.filter (fun r => reportKindByte r != 0x47) = log.map committedTold
  none_told : log = [] → reports = []
  last : log ≠ [] → reports.getLast? = some (snapshotTold t)
  sum : boughtSum t.folio.entries + pricesOf log = boughtSum s.folio.entries
  count : boughtCount t.folio.entries + records.length = boughtCount s.folio.entries

theorem commitTo_zero (s : State) : CommitTo s 0 s [] [] [] where
  frame := rfl
  folio := by simp [pricesOf]
  length := rfl
  logged := rfl
  stays _ _ below := absurd below (Nat.not_lt_zero _)
  charges _ _ below := absurd below (Nat.not_lt_zero _)
  empties _ := id
  ahead _ _ := rfl
  made := rfl
  serials := rfl
  told := rfl
  none_told _ := rfl
  last some_log := absurd rfl some_log
  sum := rfl
  count := rfl

section
variable {s t : State} {k : Nat} {log : List Entry} {records : List Record} {reports : List Report}

/-- The commit test passes a place. -/
theorem CommitTo.pass (h : CommitTo s k t log records reports)
    (idle : ∀ e, entryAt s.folio k = some e → commitsAt s.stay.grace e = false) :
    CommitTo s (k + 1) t log records reports where
  frame := h.frame
  folio := h.folio
  length := h.length
  logged := by
    rw [committingTo_succ, ← h.logged]
    cases he : entryAt s.folio k with
    | none => exact (List.append_nil _).symm
    | some e => simp [Option.filter, idle e he]
  stays i e hi he notNow := by
    rcases Nat.lt_succ_iff_lt_or_eq.mp hi with hi | rfl
    · exact h.stays i e hi he notNow
    · exact (h.ahead i (Nat.le_refl i)).trans he
  charges i e hi he now := by
    rcases Nat.lt_succ_iff_lt_or_eq.mp hi with hi | rfl
    · exact h.charges i e hi he now
    · simp [idle e he] at now
  empties := h.empties
  ahead i hi := h.ahead i (Nat.le_of_succ_le hi)
  made := h.made
  serials := h.serials
  told := h.told
  none_told := h.none_told
  last := h.last
  sum := h.sum
  count := h.count

/-- The entry of a place commits. -/
theorem CommitTo.commit (h : CommitTo s k t log records reports) {e : Entry}
    (he : entryAt s.folio k = some e) (now : commitsAt s.stay.grace e = true) :
    ∃ r u, commitPlace k t = u ∧ CommitTo s (k + 1) u (log ++ [e]) (records ++ [r])
      (reports ++ [committedTold e, snapshotTold u]) := by
  have bought : e.state = .bought := by
    simp only [commitsAt, Bool.and_eq_true, beq_iff_eq] at now
    exact now.1
  have here : entryAt t.folio k = some e := (h.ahead k (Nat.le_refl k)).trans he
  have hk := lt_of_entryAt here
  have clock : t.clock = s.clock := by rw [h.frame]
  have after := commitPlace_of_entry here
  generalize hu : ({ t with
    folio := committedFolio k e t
    link := tell [committedTold e, snapshotTold { t with folio := committedFolio k e t }] t.link } : State) =
      u at after
  have folio : u.folio = committedFolio k e t := by rw [← hu]
  have snap : snapshotTold u = snapshotTold { t with folio := committedFolio k e t } := by
    rw [← hu]
    rfl
  have entries : u.folio.entries = t.folio.entries.set k (some (chargedEntry t.folio.nextSerial e)) := by
    rw [folio, committedFolio]
  have at_place (i : Nat) : entryAt u.folio i =
      if i = k then some (chargedEntry t.folio.nextSerial e) else entryAt t.folio i := by
    rw [entryAt, entries, getD_set hk]
    rfl
  have prices : pricesOf (log ++ [e]) = pricesOf log + e.price.getD 0 := by simp [pricesOf]
  have place : t.folio.entries.getD k none = some e := here
  have swapped (value : Entry → Nat) (zero : value (chargedEntry t.folio.nextSerial e) = 0) :
      tableSum value u.folio.entries + value e = tableSum value t.folio.entries := by
    have sums := tableSum_set value hk (some (chargedEntry t.folio.nextSerial e))
    rw [place, Option.map_some, Option.map_some, zero] at sums
    rw [entries]
    exact sums
  refine ⟨⟨t.folio.nextSerial, .charge, e.film, e.price.getD 0, houseMinute s.clock⟩, u, after, ?_⟩
  refine ⟨?_, ?_, ?_, ?_, ?_, ?_, ?_, ?_, ?_, ?_, ?_, ?_, ?_, ?_, ?_⟩
  · rw [tell_append, snap]
    have frame := h.frame
    generalize committedFolio k e t = f at hu folio ⊢
    rw [folio, ← hu, frame]
  · rw [folio, committedFolio, clock, prices]
    have before := h.folio
    generalize t.folio = f at before
    rw [before]
    simp [Nat.add_assoc, Nat.sub_sub]
  · rw [entries, List.length_set, h.length]
  · rw [committingTo_succ, ← h.logged, he]
    simp [Option.filter, now]
  · intro i e' hi he' notNow
    rw [at_place]
    split_ifs with same
    · rw [same, he] at he'
      cases he'
      simp [now] at notNow
    · exact h.stays i e' (by omega) he' notNow
  · intro i e' hi he' now'
    rw [at_place]
    split_ifs with same
    · rw [same, he] at he'
      cases he'
      exact ⟨_, List.mem_append_right _ (List.mem_singleton_self _), rfl, rfl, rfl⟩
    · obtain ⟨r, mem, film, amount, entry⟩ := h.charges i e' (by omega) he' now'
      exact ⟨r, List.mem_append_left _ mem, film, amount, entry⟩
  · intro i empty
    rw [at_place]
    split_ifs with same
    · rw [same, he] at empty
      cases empty
    · exact h.empties i empty
  · intro i hi
    rw [at_place, if_neg (by omega)]
    exact h.ahead i (by omega)
  · simp [h.made]
  · refine recordsFollow_append h.serials ?_
    rw [folio]
    exact ⟨rfl, rfl, rfl⟩
  · rw [List.filter_append, h.told, List.map_append]
    rfl
  · simp
  · exact fun _ => by simp
  · have sums := swapped boughtPrice (by simp [boughtPrice, chargedEntry])
    have price : boughtPrice e = e.price.getD 0 := by simp [boughtPrice, bought]
    have before := h.sum
    rw [price, ← boughtSum_eq, ← boughtSum_eq] at sums
    omega
  · have sums := swapped boughtOne (by simp [boughtOne, chargedEntry])
    have one : boughtOne e = 1 := by simp [boughtOne, bought]
    have before := h.count
    rw [one, ← boughtCount_eq, ← boughtCount_eq] at sums
    rw [List.length_append, List.length_singleton]
    omega

/-- The commit tests of all the places. -/
theorem commitTests_committed (s : State) : ∃ log records reports,
    CommitTo s 8 (overPlaces commitTest s) log records reports := by
  refine overPlaces_reach (P := fun k t => ∃ log records reports, CommitTo s k t log records reports)
    commitTest ⟨_, _, _, commitTo_zero s⟩ ?_
  rintro k t - ⟨log, records, reports, h⟩
  have here := h.ahead k (Nat.le_refl k)
  have stay : t.stay = s.stay := by rw [h.frame]
  cases he : entryAt s.folio k with
  | none =>
    have same : commitTest k t = t := by simp only [commitTest, here, he]
    rw [same]
    exact ⟨_, _, _, h.pass fun e he' => by simp [he] at he'⟩
  | some e =>
    cases now : commitsAt s.stay.grace e with
    | false =>
      have notNow : ¬ (e.state = .bought ∧ s.stay.grace ≤ e.clear) := by
        simpa [commitsAt] using now
      have same : commitTest k t = t := by simp only [commitTest, here, he, stay, if_neg notNow]
      rw [same]
      refine ⟨_, _, _, h.pass fun e' he' => ?_⟩
      rw [he] at he'
      cases he'
      exact now
    | true =>
      have commits : e.state = .bought ∧ s.stay.grace ≤ e.clear := by simpa [commitsAt] using now
      have acts : commitTest k t = commitPlace k t := by
        simp only [commitTest, here, he, stay, if_pos commits]
      obtain ⟨r, u, after, done⟩ := h.commit he now
      rw [acts, after]
      exact ⟨_, _, _, done⟩

end

/-! ### The periodic snapshot (R173) -/

/-- A snapshot is due at the close. -/
def snapshotDue (f : Folio) : Bool := anyPaid f.entries && decide (60 ≤ f.snapshotSeconds + 1)

theorem periodicSnapshot_eq (s : State) : periodicSnapshot s =
    let t : State := { s with folio := { s.folio with
      snapshotSeconds := if anyPaid s.folio.entries && !snapshotDue s.folio
        then s.folio.snapshotSeconds + 1 else 0 } }
    { t with link := tell (if snapshotDue s.folio then [snapshotTold t] else []) s.link } := by
  unfold periodicSnapshot snapshotDue
  cases paid : anyPaid s.folio.entries with
  | false => rfl
  | true =>
    by_cases full : 60 ≤ s.folio.snapshotSeconds + 1
    · simp only [if_pos, ge_iff_le, full, decide_true, Bool.true_and, Bool.not_true, Bool.false_eq_true,
        if_false]
      rfl
    · simp only [if_true, ge_iff_le, full, decide_false, Bool.true_and, Bool.not_false,
        Bool.false_eq_true, if_false]
      rfl

/-! ### The close (R69, R76 to R78, R173) -/

/-- What the close of a feed second leaves. -/
theorem closeSecond_closed (s : State) (counts : Bool) :
    ∃ t u log records reports, closeSecond (!counts) s = periodicSnapshot (advanceSecond u) ∧
      t = { s with
        folio := { s.folio with entries := t.folio.entries }
        link := tell (overTable s.folio (previewTold counts s.stay.previewAllowance) 8) s.link } ∧
      t.folio.entries.length = s.folio.entries.length ∧
      (∀ i, i < 8 → entryAt t.folio i =
        (entryAt s.folio i).map (countedEntry counts s.folio.feedSecond s.stay.previewAllowance)) ∧
      CommitTo t 8 u log records reports := by
  obtain ⟨t, counted, frame, length, entries⟩ := countFlags_counted s counts
  obtain ⟨log, records, reports, h⟩ := commitTests_committed t
  exact ⟨t, _, log, records, reports, by rw [closeSecond, counted], frame, length, entries, h⟩

/-- A commit at the close, of the entry as it was before it. -/
def commitsCounted (counts : Bool) (grace : Nat) (e : Entry) : Bool :=
  e.state == .bought && decide (grace ≤ clearCounted counts e)

theorem filter_map_counted (o : Option Entry) (counts : Bool) (second allowance grace : Nat) :
    (o.map (countedEntry counts second allowance)).filter (commitsAt grace) =
      (o.filter (commitsCounted counts grace)).map (countedEntry counts second allowance) := by
  cases o with
  | none => rfl
  | some e =>
    cases commits : commitsCounted counts grace e with
    | false =>
      have same : commitsAt grace (countedEntry counts second allowance e) = false := commits
      simp [Option.filter, commits, same]
    | true =>
      have same : commitsAt grace (countedEntry counts second allowance e) = true := commits
      simp [Option.filter, commits, same]

/-- The entries that commit are those of the table before the close, counted. -/
theorem committingTo_counted {f g : Folio} {counts : Bool} {second allowance : Nat} (grace : Nat)
    (counted : ∀ i, i < 8 → entryAt g i = (entryAt f i).map (countedEntry counts second allowance)) :
    committingTo g grace 8 = ((List.range 8).filterMap fun i =>
      (entryAt f i).filter (commitsCounted counts grace)).map (countedEntry counts second allowance) := by
  rw [committingTo, List.map_filterMap]
  refine List.filterMap_congr fun i mem => ?_
  rw [counted i (List.mem_range.mp mem), filter_map_counted]

theorem commitsCounted_bought {counts : Bool} {grace : Nat} {e : Entry}
    (h : commitsCounted counts grace e = true) : e.state = .bought := by
  simp only [commitsCounted, Bool.and_eq_true, beq_iff_eq] at h
  exact h.1

/-- The report of a commit, by the entry as it was before the close. -/
theorem committedTold_counted {counts : Bool} (second : Nat) {allowance : Nat} {e : Entry}
    (bought : e.state = .bought) : committedTold (countedEntry counts second allowance e) =
      .filmEvent e.film .committed (some .charged) e.price e.windowEnd (clearCounted counts e)
        (impairedCounted counts e) e.previewUsed none := by
  have used : usedCounted counts allowance e = e.previewUsed := by simp [usedCounted, bought]
  simp only [committedTold, countedEntry, used]

/-- Counting a table leaves the sum over its entries of what counting an entry leaves. -/
theorem tableSum_counted {f g : Folio} {counts : Bool} {second allowance : Nat} (value : Entry → Nat)
    (same : ∀ e, value (countedEntry counts second allowance e) = value e)
    (length : g.entries.length = f.entries.length) (eight : f.entries.length = 8)
    (counted : ∀ i, i < 8 → entryAt g i = (entryAt f i).map (countedEntry counts second allowance)) :
    tableSum value g.entries = tableSum value f.entries := by
  have each (i : Nat) : ((g.entries.getD i none).map value).getD 0 + 0 =
      ((f.entries.getD i none).map value).getD 0 := by
    by_cases hi : i < 8
    · rw [show g.entries.getD i none = _ from counted i hi]
      change (((entryAt f i).map _).map value).getD 0 + 0 = ((entryAt f i).map value).getD 0
      cases entryAt f i with
      | none => rfl
      | some e => exact same e
    · have beyond (h : Folio) (size : h.entries.length = 8) : h.entries.getD i none = none := by
        rw [List.getD_eq_default]
        omega
      rw [beyond g (length.trans eight), beyond f eight]
      rfl
  have sum := tableSum_add (u := value) (v := value) (w := fun _ => 0) length fun i => by
    have zero : (((f.entries.getD i none).map fun _ : Entry => 0).getD 0) = 0 := by
      cases f.entries.getD i none <;> rfl
    rw [zero]
    exact each i
  have zero : tableSum (fun _ => 0) f.entries = 0 := tableSum_eq_zero fun _ _ _ => rfl
  rw [zero] at sum
  exact sum

end Sys2Proof.Machine
end

section
/-! PROOFS. FEED_SECOND_CLOSE (R69, R76 to R78, R173). -/

namespace Sys2Proof.Machine

theorem previewTold_kind {counts : Bool} {allowance : Nat} {e : Entry} {r : Report}
    (h : previewTold counts allowance e = some r) : reportKindByte r = 0x44 := by
  unfold previewTold at h
  split_ifs at h
  cases h
  rfl

theorem overTable_kind {f : Folio} {counts : Bool} {allowance k : Nat} {r : Report}
    (mem : r ∈ overTable f (previewTold counts allowance) k) : reportKindByte r = 0x44 := by
  obtain ⟨i, -, he⟩ := List.mem_filterMap.mp mem
  obtain ⟨e, -, told⟩ := Option.bind_eq_some_iff.mp he
  exact previewTold_kind told

/-- The reports of the commits, by the entries as they were before the close. -/
theorem committedTold_map {f : Folio} {counts : Bool} {second allowance grace : Nat} :
    (((List.range 8).filterMap fun i => (entryAt f i).filter (commitsCounted counts grace)).map
        (countedEntry counts second allowance)).map committedTold =
      overTable f (fun e => if commitsCounted counts grace e then
        some (.filmEvent e.film .committed (some .charged) e.price e.windowEnd (clearCounted counts e)
          (impairedCounted counts e) e.previewUsed none) else none) 8 := by
  rw [List.map_map, List.map_filterMap, overTable]
  refine List.filterMap_congr fun i _ => ?_
  cases entryAt f i with
  | none => rfl
  | some e =>
    cases commits : commitsCounted counts grace e with
    | false => simp [Option.filter, commits]
    | true =>
      have told := committedTold_counted (counts := counts) second (allowance := allowance)
        (commitsCounted_bought commits)
      simp [Option.filter, commits, told]

/-- The state at the end of the close, by the parts of it that the close has reached. -/
theorem closed_state {s u : State} {rs : List Report}
    (frame : u = { closeTaken s with folio := u.folio, link := tell rs s.link }) (more : List Report)
    (seconds : Nat) :
    ({ advanceSecond u with
      folio := { (advanceSecond u).folio with snapshotSeconds := seconds }
      link := tell more (advanceSecond u).link } : State) = { closeTaken s with
      folio := { u.folio with
        feedSecond := min (u.folio.feedSecond + 1) 4294967295, snapshotSeconds := seconds }
      link := tell (rs ++ more) s.link } := by
  simp only [advanceSecond, State.setFolio]
  generalize hf : u.folio = f at frame
  rw [frame, tell_append]

/-- Settles O35: the flags are counted (`countFlags_counted`), the commits follow in place order
(`commitTests_committed`), and then the periodic snapshot (`periodicSnapshot_eq`). -/
theorem theFeedSecondIsCounted : Obligations.theFeedSecondIsCounted := by
  intro s boundary noFilmHanded noFilmJudging counts seen paid clear impaired used commits told previews
    commitments committing priced
  have ready : closeReady s.descrambler = true := (closeReady_iff _).mpr
    ⟨fun h mem ahead => noFilmHanded h mem ahead.1 ahead.2, fun j hj ahead => noFilmJudging j hj ahead.1 ahead.2⟩
  have served : exec .feedSecondClose s = .next (closeSecond (!counts) (closeTaken s)) :=
    congrArg Host.Outcome.next (if_pos ⟨boundary, ready⟩)
  obtain ⟨t, u, log, records, reports, closed, frame, length, entries, h⟩ := closeSecond_closed (closeTaken s) counts
  rw [closed, periodicSnapshot_eq] at served
  have counted (i : Nat) (hi : i < 8) : entryAt t.folio i =
      (entryAt s.folio i).map (countedEntry counts s.folio.feedSecond s.stay.previewAllowance) := entries i hi
  have stay : t.stay = s.stay := by rw [frame]; rfl
  have committed : log = committing.map (countedEntry counts s.folio.feedSecond s.stay.previewAllowance) := by
    rw [h.logged, stay]
    exact committingTo_counted s.stay.grace counted
  have prices : pricesOf log = priced := by
    rw [committed, pricesOf, List.map_map]
    rfl
  have told_log : log.map committedTold = commitments := by
    rw [committed]
    exact committedTold_map
  have none_iff : commitments = [] ↔ log = [] := by rw [← told_log, List.map_eq_nil_iff]
  have folio : u.folio = { s.folio with
      closesDue := s.folio.closesDue - 1, closesBeforeReset := s.folio.closesBeforeReset - 1
      entries := u.folio.entries, nextSerial := u.folio.nextSerial, total := s.folio.total + priced
      reserved := s.folio.reserved - priced, queue := s.folio.queue ++ records
      snapshotSeconds := if commitments = [] then s.folio.snapshotSeconds else 0 } := by
    have before := h.folio
    rw [prices] at before
    rw [before, frame]
    simp only [none_iff]
    rfl
  have begun : u.folio.snapshotSeconds = if commitments = [] then s.folio.snapshotSeconds else 0 := by
    rw [folio]
  let due := anyPaid u.folio.entries && decide (60 ≤ u.folio.snapshotSeconds + 1)
  let seconds := if anyPaid u.folio.entries && !due then u.folio.snapshotSeconds + 1 else 0
  let last : State := { advanceSecond u with
    folio := { (advanceSecond u).folio with snapshotSeconds := seconds } }
  refine ⟨u.folio.entries, fun i => (entryAt u.folio i).bind (·.chargeSerial), u.folio.total,
    u.folio.reserved, u.folio.nextSerial, records, seconds,
    previews ++ (reports ++ if due then [snapshotTold last] else []), _, served, ?_, ?_, ?_, ?_, ?_, ?_, ?_,
    ?_, ?_, ?_, ?_⟩
  · have frame_u : u = { closeTaken s with
        folio := u.folio, link := tell (previews ++ reports) s.link } := by
      have before := h.frame
      rw [frame] at before
      rw [tell_append]
      exact before
    refine (closed_state frame_u (if due then [snapshotTold last] else []) seconds).trans ?_
    rw [folio, List.append_assoc]
    rfl
  · rw [h.length, length]
    rfl
  · intro i hi empty
    refine h.empties i ?_
    rw [counted i hi, empty]
    rfl
  · intro i e hi he
    have here : entryAt t.folio i =
        some (countedEntry counts s.folio.feedSecond s.stay.previewAllowance e) := by
      rw [counted i hi, he]
      rfl
    cases now : commits e with
    | false =>
      have stays := h.stays i _ hi here (by rw [stay]; exact now)
      refine ⟨?_, nofun⟩
      exact stays
    | true =>
      obtain ⟨r, mem, film, amount, entry⟩ := h.charges i _ hi here (by rw [stay]; exact now)
      have serial : (entryAt u.folio i).bind (·.chargeSerial) = some r.serial := by
        rw [entry]
        rfl
      refine ⟨?_, fun _ => ⟨r, mem, serial, film, amount⟩⟩
      dsimp only
      rw [serial]
      exact entry
  · rw [folio]
  · rw [folio]
  · rw [h.made, committed, List.map_map]
    rfl
  · have serials := h.serials
    rw [frame] at serials
    exact serials
  · intro ok
    have laws := (folioOk_iff s.folio).mp ok
    have sums := h.sum
    have counts' := h.count
    rw [prices] at sums
    have start : boughtSum (closeTaken s).folio.entries = boughtSum s.folio.entries ∧
        boughtCount (closeTaken s).folio.entries = boughtCount s.folio.entries := ⟨rfl, rfl⟩
    rw [boughtSum_eq t.folio.entries, tableSum_counted boughtPrice (fun _ => rfl) length laws.table.eight counted,
      ← boughtSum_eq] at sums
    rw [boughtCount_eq t.folio.entries, tableSum_counted boughtOne (fun _ => rfl) length laws.table.eight counted,
      ← boughtCount_eq] at counts'
    have reserved := laws.reserved
    refine ⟨?_, by omega⟩
    rw [folio]
    dsimp only
    omega
  · have previews_all : previews.filter (fun r => reportKindByte r != 0x47) = previews :=
      List.filter_eq_self.mpr fun r mem => by simp [overTable_kind (show r ∈ overTable _ _ _ from mem)]
    have none_due : (if due then [snapshotTold last] else []).filter (fun r => reportKindByte r != 0x47) = [] := by
      cases due <;> rfl
    rw [List.filter_append, List.filter_append, previews_all, none_due, h.told, told_log, List.append_nil]
  · dsimp only
    rw [← begun]
    refine ⟨rfl, fun none_committed => ?_, fun some_committed => ?_⟩
    · rw [h.none_told (none_iff.mp none_committed)]
      rfl
    · have shown := h.last fun empty => some_committed (none_iff.mpr empty)
      cases isDue : due with
      | true =>
        rw [← List.append_assoc]
        exact List.getLast?_concat
      | false =>
        rw [if_neg (by simp), List.append_nil, List.getLast?_append, shown]
        rfl

end Sys2Proof.Machine
end

section
/-! PROOFS. The books of the Folio Unit: the laws that hold also between the parts of one step, while an
entry that has entered SETTLING has not yet been settled, and what keeps them. -/

namespace Sys2Proof.Machine

/-! ### Entries (section 5.1) -/

/-- The fields an entry has by its state; an entry in SETTLING may still be due no credit. -/
def fieldsByState (e : Entry) : Prop :=
  match e.state with
  | .preview => e.price = none ∧ e.windowEnd = none ∧ e.clear = 0 ∧ e.impaired = 0 ∧ e.credit = none
  | .settling => e.price.isSome = true ∧ e.windowEnd.isSome = true ∧ e.credit.getD 0 ≤ e.price.getD 0
  | _ => e.price.isSome = true ∧ e.windowEnd.isSome = true ∧ e.credit = none

/-- An entry with its fields in their ranges. -/
structure EntryFine (e : Entry) : Prop where
  film : 1 ≤ e.film ∧ e.film ≤ 4095
  used : e.previewUsed ≤ 600
  clear : e.clear ≤ 65535
  impaired : e.impaired ≤ 65535
  price : e.price.getD 0 ≤ 60000
  window : e.windowEnd.getD 0 ≤ 16777215
  fields : fieldsByState e

theorem le_lastMinute (n : Nat) : n ≤ lastMinute ↔ n ≤ 16777215 := Iff.rfl

theorem entryOk_iff (e : Entry) : entryOk e = true ↔
    EntryFine e ∧ (e.state = .settling → 1 ≤ e.credit.getD 0) := by
  have ranges : entryOk e = true ↔ ((1 ≤ e.film ∧ e.film ≤ 4095) ∧ e.previewUsed ≤ 600 ∧ e.clear ≤ 65535 ∧
      e.impaired ≤ 65535 ∧ e.price.getD 0 ≤ 60000 ∧ e.windowEnd.getD 0 ≤ 16777215) ∧
      fieldsByState e ∧ (e.state = .settling → 1 ≤ e.credit.getD 0) := by
    simp only [entryOk, isCount, Bool.and_eq_true, decide_eq_true_eq, validFilm_iff, le_lastMinute,
      fieldsByState, and_assoc]
    cases state : e.state <;> simp [and_assoc, and_comm, and_left_comm]
  rw [ranges]
  constructor
  · rintro ⟨⟨film, used, clear, impaired, price, window⟩, fields, owed⟩
    exact ⟨⟨film, used, clear, impaired, price, window, fields⟩, owed⟩
  · rintro ⟨h, owed⟩
    exact ⟨⟨h.film, h.used, h.clear, h.impaired, h.price, h.window⟩, h.fields, owed⟩

theorem EntryFine.enterSettling {e : Entry} (h : EntryFine e) (charged : e.state = .charged)
    (quality : Nat) : EntryFine (enterSettling quality e) := by
  have fields := h.fields
  simp only [fieldsByState, charged] at fields
  obtain ⟨price, window, _⟩ := fields
  exact ⟨h.film, h.used, h.clear, h.impaired, h.price, h.window,
    ⟨price, window, creditAmount_le ..⟩⟩

theorem EntryFine.creditDue_le {e : Entry} (h : EntryFine e) (quality : Nat) :
    creditDue quality e ≤ 60000 := by
  have price := h.price
  unfold creditDue
  cases state : e.state with
  | preview => simp
  | bought => simp
  | charged => exact Nat.le_trans (creditAmount_le ..) price
  | settling =>
    have fields := h.fields
    simp only [fieldsByState, state] at fields
    exact Nat.le_trans fields.2.2 price

/-! ### Serials (R103) -/

theorem serialsFollow_nil (next : Nat) : serialsFollow [] next = true := rfl

theorem serialsFollow_cons (a : Nat) (l : List Nat) (next : Nat) :
    serialsFollow (a :: l) next = true ↔
      (l ++ [next]).head? = some (serialAfter a) ∧ serialsFollow l next = true := by
  cases l with
  | nil => simp [serialsFollow]
  | cons b l => simp [serialsFollow]

theorem serialsFollow_append {l : List Nat} {next : Nat} (h : serialsFollow l next = true) :
    serialsFollow (l ++ [next]) (serialAfter next) = true := by
  induction l with
  | nil => simp [serialsFollow]
  | cons a l ih =>
    rw [serialsFollow_cons] at h
    rw [List.cons_append, serialsFollow_cons]
    refine ⟨?_, ih h.2⟩
    rw [← h.1]
    cases l <;> rfl

theorem serialAfter_range (n : Nat) : 1 ≤ serialAfter n ∧ serialAfter n ≤ 65535 := by
  unfold serialAfter
  split_ifs <;> omega

theorem serialsOk_iff (f : Folio) : serialsOk f = true ↔
    (1 ≤ f.nextSerial ∧ f.nextSerial ≤ 65535) ∧
      serialsFollow (f.queue.map (·.serial)) f.nextSerial = true := by
  simp [serialsOk, and_assoc]

/-! ### Records (R102) -/

theorem recordOk_iff (r : Record) : recordOk r = true ↔
    (1 ≤ r.serial ∧ r.serial ≤ 65535) ∧ r.amount ≤ 16777215 ∧ r.minute ≤ 16777215 ∧
      (if r.kind = .stayClosed then r.film = 0 else 1 ≤ r.film ∧ r.film ≤ 4095) := by
  simp only [recordOk, Bool.and_eq_true, decide_eq_true_eq, le_lastMinute, and_assoc, isClosure, beq_iff_eq]
  by_cases closure : r.kind = .stayClosed
  · rw [if_pos closure, if_pos closure, beq_iff_eq]
  · rw [if_neg closure, if_neg closure, validFilm_iff]

/-! ### The books -/

/-- The laws of the Folio Unit, without those that only settlement restores. -/
structure FolioCore (f : Folio) : Prop where
  eight : f.entries.length = 8
  films : ((liveEntries f.entries).map (·.film)).Nodup
  fine : ∀ i e, entryAt f i = some e → EntryFine e
  tariffs : tariffsOk f.tariffs = true
  reserved : f.reserved = boughtSum f.entries
  places : f.queue.length + boughtCount f.entries ≤ 10
  serials : serialsOk f = true
  records : ∀ r, r ∈ f.queue → recordOk r = true
  total : f.total ≤ 9999999
  cap : f.cap ≤ 9999999
  quality : 1 ≤ f.quality ∧ f.quality ≤ 100
  seconds : f.snapshotSeconds ≤ 59
  full : isCount f.tariffFull = true

theorem folioLaws_iff (f : Folio) : FolioLaws f ↔ FolioCore f ∧ creditsOwed f ∧
    (anySettling f.entries = true → unreservedPlace f = false) := by
  constructor
  · intro h
    refine ⟨⟨h.table.eight, h.table.films, fun i e he => ?_, h.tariffs, h.reserved, h.places, h.serials,
      h.records, h.total, h.cap, h.quality, h.seconds, h.full⟩, creditsOwed_of_laws h.table, h.waits⟩
    exact ((entryOk_iff e).mp (h.table.entries e (mem_liveEntries_entryAt.mpr ⟨i, he⟩))).1
  · rintro ⟨h, owed, waits⟩
    refine ⟨⟨h.eight, h.films, fun e live => ?_⟩, h.tariffs, h.reserved, h.places, waits, h.serials,
      h.records, h.total, h.cap, h.quality, h.seconds, h.full⟩
    obtain ⟨i, he⟩ := mem_liveEntries_entryAt.mp live
    refine (entryOk_iff e).mpr ⟨h.fine i e he, fun settling => ?_⟩
    obtain ⟨c, credit⟩ := owed i e (h.eight ▸ lt_of_entryAt he) he settling
    simp [credit]

theorem FolioLaws.core {f : Folio} (h : FolioLaws f) : FolioCore f := ((folioLaws_iff f).mp h).1

/-- No film twice, said of the places. -/
theorem films_nodup_iff (f : Folio) : ((liveEntries f.entries).map (·.film)).Nodup ↔
    ∀ i k e e', i < k → entryAt f i = some e → entryAt f k = some e' → e.film ≠ e'.film := by
  simp only [liveEntries, nodup_occupants_iff, entryAt_eq_some_iff]

section
variable {f : Folio} {i : Nat} {e : Entry}

theorem entryAt_set {g : Folio} {o : Option Entry} (hi : i < f.entries.length)
    (set : g.entries = f.entries.set i o) (k : Nat) :
    entryAt g k = if k = i then o else entryAt f k := by
  rw [entryAt, set, getD_set hi]
  rfl

/-- The sum over the table when the entry of a place is replaced. -/
theorem tableSum_replace (value : Entry → Nat) (he : entryAt f i = some e) (o : Option Entry) :
    tableSum value (f.entries.set i o) + value e = tableSum value f.entries + (o.map value).getD 0 := by
  have sum := tableSum_set value (lt_of_entryAt he) o
  rw [show f.entries.getD i none = some e from he] at sum
  exact sum

/-- The books when the entry of a place goes, or is replaced by one of its film: R and the places follow
the BOUGHT entries. -/
theorem FolioCore.setEntry (h : FolioCore f) (he : entryAt f i = some e) {o : Option Entry}
    (fine : ∀ e', o = some e' → EntryFine e' ∧ e'.film = e.film) (reserved : Nat)
    (sum : reserved + boughtPrice e = f.reserved + (o.map boughtPrice).getD 0)
    (count : (o.map boughtOne).getD 0 ≤ boughtOne e) (seconds : Nat) (below : seconds ≤ 59) :
    FolioCore { f with
      entries := f.entries.set i o, reserved := reserved, snapshotSeconds := seconds } := by
  have hi := lt_of_entryAt he
  have after := entryAt_set (g := { f with
    entries := f.entries.set i o, reserved := reserved, snapshotSeconds := seconds }) hi rfl
  have film {k : Nat} {e' : Entry} (he' : entryAt { f with
      entries := f.entries.set i o, reserved := reserved, snapshotSeconds := seconds } k = some e') :
      ∃ e'', entryAt f k = some e'' ∧ e''.film = e'.film := by
    rw [after] at he'
    split_ifs at he' with same
    · exact ⟨e, by rw [same, he], (fine e' he').2.symm⟩
    · exact ⟨e', he', rfl⟩
  have sums := tableSum_replace boughtPrice he o
  have counts := tableSum_replace boughtOne he o
  rw [← boughtSum_eq, ← boughtSum_eq] at sums
  rw [← boughtCount_eq, ← boughtCount_eq] at counts
  have places := h.places
  have before := h.reserved
  refine ⟨by rw [List.length_set]; exact h.eight, ?_, ?_, h.tariffs, ?_, ?_, h.serials, h.records, h.total,
    h.cap, h.quality, below, h.full⟩
  · rw [films_nodup_iff]
    intro a b x y hab hx hy
    obtain ⟨x', hx', ex⟩ := film hx
    obtain ⟨y', hy', ey⟩ := film hy
    rw [← ex, ← ey]
    exact (films_nodup_iff f).mp h.films a b x' y' hab hx' hy'
  · intro k e' he'
    rw [after] at he'
    split_ifs at he' with same
    · exact (fine e' he').1
    · exact h.fine k e' he'
  · show reserved = boughtSum (f.entries.set i o)
    omega
  · show f.queue.length + boughtCount (f.entries.set i o) ≤ 10
    omega

/-- The books when a record joins the queue, in a place for it. -/
theorem FolioCore.record (h : FolioCore f) {r : Record} (ok : recordOk r = true)
    (serial : r.serial = f.nextSerial) (place : f.queue.length + boughtCount f.entries < 10) {total : Nat}
    (below : total ≤ 9999999) :
    FolioCore { f with
      queue := f.queue ++ [r], nextSerial := serialAfter f.nextSerial, total := total } := by
  obtain ⟨_, follow⟩ := (serialsOk_iff f).mp h.serials
  refine ⟨h.eight, h.films, h.fine, h.tariffs, h.reserved, ?_, ?_, ?_, below, h.cap, h.quality, h.seconds,
    h.full⟩
  · show (f.queue ++ [r]).length + boughtCount f.entries ≤ 10
    rw [List.length_append, List.length_singleton]
    omega
  · refine (serialsOk_iff _).mpr ⟨serialAfter_range _, ?_⟩
    rw [List.map_append, List.map_singleton, serial]
    exact serialsFollow_append follow
  · intro r' mem
    rcases List.mem_append.mp mem with mem | mem
    · exact h.records r' mem
    · rw [List.mem_singleton.mp mem]
      exact ok

/-- A record of a film's money, made now. -/
theorem recordOk_made (h : FolioCore f) {kind : RecordKind} (notClosure : kind ≠ .stayClosed) {film : Nat}
    (valid : 1 ≤ film ∧ film ≤ 4095) {amount : Nat} (price : amount ≤ 60000) {minute : Nat}
    (last : minute ≤ 16777215) : recordOk ⟨f.nextSerial, kind, film, amount, minute⟩ = true := by
  refine (recordOk_iff _).mpr ⟨((serialsOk_iff f).mp h.serials).1,
    Nat.le_trans price (by decide), last, ?_⟩
  simp [notClosure, valid]

end
end Sys2Proof.Machine
end

section
/-! PROOFS. What settlement, the end of a stay and the windows keep of the books (R86, R88, R95 to R103). -/

namespace Sys2Proof.Machine

/-! ### The books settled (R98 to R100) -/

/-- Every entry that waits has a credit to come, and no place for its record. -/
def BooksSettled (f : Folio) : Prop := ∀ i e, i < 8 → entryAt f i = some e → e.state = .settling →
  (∃ c, e.credit = some (c + 1)) ∧ unreservedPlace f = false

theorem folioLaws_iff_settled (f : Folio) : FolioLaws f ↔ FolioCore f ∧ BooksSettled f := by
  rw [folioLaws_iff]
  constructor
  · rintro ⟨core, owed, waits⟩
    exact ⟨core, fun i e hi he settling =>
      ⟨owed i e hi he settling, waits (anySettling_iff.mpr ⟨i, e, he, settling⟩)⟩⟩
  · rintro ⟨core, settled⟩
    refine ⟨core, fun i e hi he settling => (settled i e hi he settling).1, fun waits => ?_⟩
    obtain ⟨i, e, he, settling⟩ := anySettling_iff.mp waits
    exact (settled i e (core.eight ▸ lt_of_entryAt he) he settling).2

theorem settleWaiting_booksSettled (s : State) : BooksSettled (settleWaiting s).folio := by
  obtain ⟨log, records, reports, h⟩ := settleWaiting_settled s
  intro i e hi he settling
  obtain ⟨c, credit, full⟩ := h.waits i e hi he settling
  exact ⟨⟨c, credit⟩, full⟩

/-- Settlement looks at no more of the books than these. -/
theorem BooksSettled.congr {f g : Folio} (h : BooksSettled f) (entries : g.entries = f.entries)
    (queue : g.queue = f.queue) : BooksSettled g := by
  intro i e hi he settling
  rw [entryAt, entries] at he
  have settled := h i e hi he settling
  rw [unreservedPlace, entries, queue]
  exact settled

/-! ### Steps that keep the books in order -/

/-- An entry that carries the mark of the cell in judging (R27). -/
def answeredOne (e : Entry) : Nat := if e.answered then 1 else 0

/-- The second state's books follow from the first's by parts of a step that take money and entries away
and make no charge. -/
structure Tidy (s t : State) : Prop where
  clock : t.clock = s.clock
  core : houseMinute s.clock ≤ 16777215 → FolioCore s.folio → FolioCore t.folio
  marks : tableSum answeredOne t.folio.entries ≤ tableSum answeredOne s.folio.entries
  money : t.folio.total + t.folio.reserved ≤ s.folio.total + s.folio.reserved
  cap : t.folio.cap = s.folio.cap
  closes : t.folio.closesDue = s.folio.closesDue ∧
    t.folio.closesBeforeReset = s.folio.closesBeforeReset
  plain : (∀ r, r ∈ s.folio.queue → isClosure r = false) → ∀ r, r ∈ t.folio.queue → isClosure r = false
  shut : (∀ i e, entryAt s.folio i = some e → e.state = .settling) →
    ∀ i e, entryAt t.folio i = some e → e.state = .settling

namespace Tidy
variable {s t u : State}

theorem refl (s : State) : Tidy s s := ⟨rfl, fun _ h => h, Nat.le_refl _, Nat.le_refl _, rfl, ⟨rfl, rfl⟩, id, id⟩

theorem trans (h : Tidy s t) (h' : Tidy t u) : Tidy s u where
  clock := h'.clock.trans h.clock
  core minute core := h'.core (by rw [h.clock]; exact minute) (h.core minute core)
  marks := Nat.le_trans h'.marks h.marks
  money := Nat.le_trans h'.money h.money
  cap := h'.cap.trans h.cap
  closes := ⟨h'.closes.1.trans h.closes.1, h'.closes.2.trans h.closes.2⟩
  plain := h'.plain ∘ h.plain
  shut := h'.shut ∘ h.shut

/-- Tidiness is about the Folio Unit and the clock alone. -/
theorem of_folio (h : Tidy s t) {s' t' : State} (folio : s'.folio = s.folio) (folio' : t'.folio = t.folio)
    (clock : s'.clock = s.clock) (clock' : t'.clock = t.clock) : Tidy s' t' where
  clock := by rw [clock', clock, h.clock]
  core minute core := by
    rw [folio']
    exact h.core (by rw [← clock]; exact minute) (by rw [← folio]; exact core)
  marks := by rw [folio, folio']; exact h.marks
  money := by rw [folio, folio']; exact h.money
  cap := by rw [folio, folio']; exact h.cap
  closes := by rw [folio, folio']; exact h.closes
  plain := by rw [folio, folio']; exact h.plain
  shut := by rw [folio, folio']; exact h.shut

theorem overPlaces {step : Nat → State → State} (s : State) (h : ∀ i s, Tidy s (step i s)) :
    Tidy s (overPlaces step s) :=
  overPlaces_induct (P := Tidy s) step s (refl s) fun i _ _ ht => ht.trans (h i _)

/-- The entry of a place goes, or is replaced by one of its film. -/
theorem set {i : Nat} {e : Entry} (he : entryAt s.folio i = some e) {o : Option Entry}
    (fine : EntryFine e → ∀ e', o = some e' → EntryFine e' ∧ e'.film = e.film) (reserved : Nat)
    (less : reserved ≤ s.folio.reserved)
    (sum : boughtPrice e ≤ s.folio.reserved →
      reserved + boughtPrice e = s.folio.reserved + (o.map boughtPrice).getD 0)
    (count : (o.map boughtOne).getD 0 ≤ boughtOne e)
    (mark : (o.map answeredOne).getD 0 ≤ answeredOne e)
    (settles : ∀ e', o = some e' → e.state = .settling → e'.state = .settling) {seconds : Nat}
    (below : s.folio.snapshotSeconds ≤ 59 → seconds ≤ 59)
    (folio : t.folio = { s.folio with
      entries := s.folio.entries.set i o, reserved := reserved, snapshotSeconds := seconds })
    (clock : t.clock = s.clock) : Tidy s t where
  clock := clock
  core _ core := by
    have price : boughtPrice e ≤ s.folio.reserved := by
      have sums := tableSum_replace boughtPrice he none
      rw [← boughtSum_eq, ← boughtSum_eq] at sums
      have reserved := core.reserved
      simp only [Option.map_none, Option.getD_none] at sums
      omega
    rw [folio]
    exact core.setEntry he (fine (core.fine i e he)) reserved (sum price) count seconds
      (below core.seconds)
  marks := by
    have sums := tableSum_replace answeredOne he o
    rw [folio]
    show tableSum answeredOne (s.folio.entries.set i o) ≤ _
    omega
  money := by
    rw [folio]
    exact Nat.add_le_add_left less _
  cap := by rw [folio]
  closes := by rw [folio]; exact ⟨rfl, rfl⟩
  plain := by rw [folio]; exact id
  shut all k e' he' := by
    have after := entryAt_set (g := t.folio) (lt_of_entryAt he) (by rw [folio])
    rw [after] at he'
    split_ifs at he' with same
    · exact settles e' he' (all i e he)
    · exact all k e' he'

end Tidy

/-! ### Settlement -/

section
variable {s : State} {i : Nat} {e : Entry}

/-- A CREDIT record in an unreserved place. -/
theorem Tidy.credit {amount : Nat} (he : entryAt s.folio i = some e) (hs : e.state = .settling)
    (owed : e.credit = some amount) (place : unreservedPlace s.folio = true) :
    Tidy s (creditTotal amount (appendRecord .credit e.film amount s)) where
  clock := rfl
  core minute core := by
    have fine := core.fine i e he
    have due := fine.creditDue_le s.folio.quality
    rw [creditDue_of_settling hs, owed, Option.getD_some] at due
    rw [credited_folio]
    exact core.record (recordOk_made core (by simp) fine.film due minute) rfl (by simpa [unreservedPlace] using place)
      (Nat.le_trans (Nat.sub_le ..) core.total)
  marks := Nat.le_refl _
  money := by
    rw [credited_folio]
    show s.folio.total - amount + s.folio.reserved ≤ _
    omega
  cap := rfl
  closes := ⟨rfl, rfl⟩
  plain plain r mem := by
    rw [credited_folio] at mem
    rcases List.mem_append.mp mem with mem | mem
    · exact plain r mem
    · rw [List.mem_singleton.mp mem]
      rfl
  shut := id

/-- An entry that waited goes. -/
theorem Tidy.endEntry (credit : Nat) (he : entryAt s.folio i = some e) (hs : e.state = .settling) :
    Tidy s (endEntry i e credit s) :=
  Tidy.set he (o := none) (fun _ _ h => by cases h) s.folio.reserved (Nat.le_refl _)
    (fun _ => by simp [boughtPrice, hs]) (Nat.zero_le _) (Nat.zero_le _) (fun _ h => by cases h)
    (fun _ => Nat.zero_le _) (endEntry_folio i e credit s) rfl

theorem settlePlace_tidy (i : Nat) (s : State) : Tidy s (settlePlace i s) := by
  obtain h | ⟨e, he, hs, _, h⟩ | ⟨e, c, he, hs, credit, place, h⟩ := settlePlace_cases i s <;> rw [h]
  · exact Tidy.refl s
  · exact Tidy.endEntry 0 he hs
  · exact (Tidy.credit he hs credit place).trans (Tidy.endEntry (c + 1) he hs)

theorem settleWaiting_tidy (s : State) : Tidy s (settleWaiting s) :=
  Tidy.overPlaces s settlePlace_tidy

theorem Tidy.enter (he : entryAt s.folio i = some e) (charged : e.state = .charged) :
    Tidy s (setEntry i (some (enterSettling s.folio.quality e)) s) :=
  Tidy.set he (o := some (enterSettling s.folio.quality e))
    (fun fine e' h => by
      cases h
      exact ⟨fine.enterSettling charged _, rfl⟩)
    s.folio.reserved (Nat.le_refl _) (fun _ => by simp [boughtPrice, charged, enterSettling])
    (by simp [boughtOne, enterSettling]) (Nat.le_refl _)
    (fun e' h _ => by
      cases h
      rfl)
    (fun below => below) (by simp only [setEntry_folio]) rfl

theorem settleCharged_tidy (he : entryAt s.folio i = some e) (charged : e.state = .charged) :
    Tidy s (settleCharged i e s) := (Tidy.enter he charged).trans (settleWaiting_tidy _)

/-! ### The end of a stay, and the windows -/

/-- An entry that is not charged goes. -/
theorem Tidy.remove {t : State} (he : entryAt s.folio i = some e) {seconds : Nat}
    (below : s.folio.snapshotSeconds ≤ 59 → seconds ≤ 59)
    (folio : t.folio = { s.folio with
      entries := s.folio.entries.set i none
      reserved := s.folio.reserved - boughtPrice e, snapshotSeconds := seconds })
    (clock : t.clock = s.clock) : Tidy s t :=
  Tidy.set he (o := none) (fun _ _ h => by cases h) _ (Nat.sub_le ..)
    (fun price => by simp only [Option.map_none, Option.getD_none]; omega) (Nat.zero_le _) (Nat.zero_le _)
    (fun _ h => by cases h) below folio clock

theorem leavePlace_tidy (i : Nat) (s : State) : Tidy s (leavePlace i s) := by
  cases he : entryAt s.folio i with
  | none =>
    have same : leavePlace i s = s := by simp only [leavePlace, he]
    rw [same]
    exact Tidy.refl s
  | some e =>
    cases state : e.state with
    | preview =>
      have same : leavePlace i s = setEntry i none s := by simp only [leavePlace, he, state]
      have price : boughtPrice e = 0 := by simp [boughtPrice, state]
      exact Tidy.remove he id (by rw [same, price]; rfl) (by rw [same, setEntry_clock])
    | bought =>
      have same : leavePlace i s = { s with folio := { s.folio with
          entries := s.folio.entries.set i none, reserved := s.folio.reserved - e.price.getD 0 } } := by
        simp only [leavePlace, he, state]
        rfl
      have price : boughtPrice e = e.price.getD 0 := by simp [boughtPrice, state]
      exact Tidy.remove he id (by rw [same, price]) (by rw [same])
    | charged =>
      have same : leavePlace i s = settleCharged i e s := by simp only [leavePlace, he, state]
      rw [same]
      exact settleCharged_tidy he state
    | settling =>
      have same : leavePlace i s = s := by simp only [leavePlace, he, state]
      rw [same]
      exact Tidy.refl s

theorem leaveTable_tidy (s : State) : Tidy s (leaveTable s) :=
  (Tidy.overPlaces s leavePlace_tidy).trans (settleWaiting_tidy _)

theorem Tidy.emit (s : State) : Tidy s (emitSnapshot s) where
  clock := rfl
  core _ core := ⟨core.eight, core.films, core.fine, core.tariffs, core.reserved, core.places, core.serials,
    core.records, core.total, core.cap, core.quality, Nat.zero_le _, core.full⟩
  marks := Nat.le_refl _
  money := Nat.le_refl _
  cap := rfl
  closes := ⟨rfl, rfl⟩
  plain := id
  shut := id

theorem BooksSettled.emitted {s : State} (h : BooksSettled s.folio) : BooksSettled (emitSnapshot s).folio := by
  rw [emitSnapshot_folio]
  exact h.congr rfl rfl

theorem windowPlace_cases (minute i : Nat) (s : State) : windowPlace minute i s = s ∨
    (∃ e, entryAt s.folio i = some e ∧ e.state = .bought ∧
      windowPlace minute i s = settleWaiting (lapsePlace i e s)) ∨
    (∃ e, entryAt s.folio i = some e ∧ e.state = .charged ∧
      windowPlace minute i s = emitSnapshot (settleCharged i e s)) := by
  unfold windowPlace
  cases he : entryAt s.folio i with
  | none => exact .inl rfl
  | some e =>
    dsimp only
    split
    · split
      · rename_i bought
        exact .inr (.inl ⟨e, rfl, bought, rfl⟩)
      · rename_i charged
        exact .inr (.inr ⟨e, rfl, charged, rfl⟩)
      · exact .inl rfl
    · exact .inl rfl

theorem windowPlace_tidy (minute i : Nat) (s : State) : Tidy s (windowPlace minute i s) := by
  obtain h | ⟨e, he, bought, h⟩ | ⟨e, he, charged, h⟩ := windowPlace_cases minute i s <;> rw [h]
  · exact Tidy.refl s
  · have price : boughtPrice e = e.price.getD 0 := by simp [boughtPrice, bought]
    have lapse : Tidy s (lapsePlace i e s) := Tidy.remove he (fun _ => Nat.zero_le _)
      (by rw [lapsePlace_folio, price]) rfl
    exact lapse.trans (settleWaiting_tidy _)
  · exact (settleCharged_tidy he charged).trans (Tidy.emit _)

theorem folioMinute_tidy (minute : Nat) (s : State) : Tidy s (folioMinute minute s) :=
  Tidy.overPlaces s (windowPlace_tidy minute)

theorem folioMinute_booksSettled (minute : Nat) {s : State} (h : BooksSettled s.folio) :
    BooksSettled (folioMinute minute s).folio := by
  refine overPlaces_induct (P := fun t => BooksSettled t.folio) (windowPlace minute) s h ?_
  intro i t _ ht
  obtain same | ⟨e, _, _, same⟩ | ⟨e, _, _, same⟩ := windowPlace_cases minute i t <;> rw [same]
  · exact ht
  · exact settleWaiting_booksSettled _
  · rw [settleCharged]
    exact (settleWaiting_booksSettled _).emitted

end
end Sys2Proof.Machine
end

section
/-! PROOFS. The billing laws and the laws of the cells on their way together: which blocks they are about,
and the Rating Gate's share of the steps that keep them (chapter 4). -/

namespace Sys2Proof.Machine

/-! ### The laws and the blocks they are about -/

/-- The billing laws, and those of the cells on their way to a verdict. -/
structure Bills (s : State) : Prop where
  laws : BillingLaws s
  cells : descramblerOk s.descrambler = true

namespace Bills
variable {s t : State}

theorem congr (h : Bills s) (gate : t.gate = s.gate) (folio : t.folio = s.folio) (stay : t.stay = s.stay)
    (clock : t.clock = s.clock) (descrambler : t.descrambler = s.descrambler) : Bills t := by
  obtain ⟨laws, cells⟩ := h
  refine ⟨⟨?_, ?_, ?_, ?_, ?_, ?_, ?_, ?_⟩, ?_⟩
  · rw [gate]; exact laws.gate
  · rw [gate, stay]; exact laws.vacant
  · rw [folio]; exact laws.folio
  · rw [folio]; exact laws.closes
  · rw [referenceOk, folio, descrambler]; exact laws.reference
  · rw [stay]; exact laws.stay
  · rw [roomOk, stay, folio]; exact laws.room
  · rw [clock]; exact laws.clock
  · rw [descrambler]; exact cells

theorem agreed (h : Bills s) {bs : List Block} (changes : changesOnly bs s t)
    (apart : .gate ∉ bs ∧ .folio ∉ bs ∧ .stay ∉ bs ∧ .clock ∉ bs ∧ .descrambler ∉ bs) : Bills t := by
  obtain ⟨gate, folio, stay, clock, descrambler⟩ := apart
  exact h.congr (changes .gate gate) (changes .folio folio) (changes .stay stay) (changes .clock clock)
    (changes .descrambler descrambler)

theorem reported (h : Bills s) (r : Report) : Bills (report r s) := h.congr rfl rfl rfl rfl rfl

theorem answered (h : Bills s) (f : Frame) (code : ResultCode) (body : ReplyBody) :
    Bills (answer f code body s) := h.congr rfl rfl rfl rfl rfl

theorem frameTaken (h : Bills s) (f : Frame) : Bills (takeFrame f s) := h.congr rfl rfl rfl rfl rfl

theorem bufferFreed (h : Bills s) (ix : BufferIx) : Bills (freeBuffer ix s) := h.congr rfl rfl rfl rfl rfl

theorem requested (h : Bills s) (kind : Nat) {owner : Frame → State → State}
    (ho : ∀ f s, Bills s → Bills (owner f s)) : Bills (serveRequest kind owner s) :=
  serveRequest_induct (P := Bills) kind owner s h (fun f _ _ => ho f _ (h.frameTaken f))
    fun f _ => (h.frameTaken f).answered f _ _

theorem messaged (h : Bills s) {select : DeskMessage → Option (State → State)}
    (ho : ∀ ix m d act, nextMessage s = some (ix, m, some d) → select d = some act → Bills (act s)) :
    Bills (serveMessage select s) :=
  serveMessage_induct (P := Bills) select s h fun ix m d act next chosen =>
    (ho ix m d act next chosen).bufferFreed ix

end Bills

/-! ### The Rating Gate -/

theorem gateOk_iff (g : RatingGate) : gateOk g = true ↔ g.roomCeiling ≤ g.hardCeiling ∧ g.hardCeiling ≤ 7 ∧
    pinOk g.pin = true ∧ g.failures ≤ 2 ∧ (1 ≤ g.unlockDuration ∧ g.unlockDuration ≤ 240) ∧
      1 ≤ g.lockoutLength ∧ g.lockoutLength ≤ 255 := by
  simp only [gateOk, Bool.and_eq_true, decide_eq_true_eq, and_assoc]

theorem gateIsVacant_iff (g : RatingGate) : gateIsVacant g = true ↔ g.roomCeiling = 7 ∧ g.hardCeiling = 7 ∧
    g.pin = none ∧ g.unlockExpiry = none ∧ g.lockoutExpiry = none ∧ g.failures = 0 := by
  simp only [gateIsVacant, Bool.and_eq_true, beq_iff_eq, Option.isNone_iff_eq_none, and_assoc]

section
variable {s t : State}

theorem Bills.withGate (h : Bills s) (ok : gateOk t.gate = true)
    (vacant : s.stay.room ≠ .occupied → gateIsVacant t.gate = true) (folio : t.folio = s.folio)
    (stay : t.stay = s.stay) (clock : t.clock = s.clock) (descrambler : t.descrambler = s.descrambler) :
    Bills t := by
  obtain ⟨laws, cells⟩ := h
  refine ⟨⟨ok, ?_, ?_, ?_, ?_, ?_, ?_, ?_⟩, ?_⟩
  · rw [stay]; exact vacant
  · rw [folio]; exact laws.folio
  · rw [folio]; exact laws.closes
  · rw [referenceOk, folio, descrambler]; exact laws.reference
  · rw [stay]; exact laws.stay
  · rw [roomOk, stay, folio]; exact laws.room
  · rw [clock]; exact laws.clock
  · rw [descrambler]; exact cells

/-- The gate of an occupied room takes values in their ranges. -/
theorem Bills.inRoom (h : Bills s) (room : s.stay.room = .occupied) (ok : gateOk t.gate = true)
    (folio : t.folio = s.folio) (stay : t.stay = s.stay) (clock : t.clock = s.clock)
    (descrambler : t.descrambler = s.descrambler) : Bills t :=
  h.withGate ok (absurd room) folio stay clock descrambler

theorem gateVacated_ok {g : RatingGate} (h : gateOk g = true) :
    gateOk (gateVacated g) = true ∧ gateIsVacant (gateVacated g) = true := by
  obtain ⟨_, _, _, _, unlock, lockout⟩ := (gateOk_iff g).mp h
  exact ⟨(gateOk_iff _).mpr ⟨Nat.le_refl _, Nat.le_refl _, rfl, Nat.zero_le _, unlock, lockout⟩, rfl⟩

theorem wrongEntry_gateOk (h : gateOk s.gate = true) : gateOk (wrongEntry s).gate = true := by
  obtain ⟨room, hard, pin, _, lengths⟩ := (gateOk_iff _).mp h
  unfold wrongEntry
  split
  · exact (gateOk_iff _).mpr ⟨room, hard, pin, Nat.zero_le _, lengths⟩
  · exact (gateOk_iff _).mpr ⟨room, hard, pin, by show s.gate.failures + 1 ≤ 2; omega, lengths⟩

theorem Bills.wrongEntry (h : Bills s) (room : s.stay.room = .occupied) : Bills (wrongEntry s) :=
  have changes := wrongEntry_changes s
  h.inRoom room (wrongEntry_gateOk h.laws.gate) (changes .folio (by simp)) (changes .stay (by simp))
    (changes .clock (by simp)) (changes .descrambler (by simp))

theorem Bills.lockAnswered (h : Bills s) (f : Frame) (code : ResultCode) : Bills (answerLock f code s) :=
  h.answered f code _

theorem serveUnlock_bills (f : Frame) (s : State) (h : Bills s) : Bills (serveUnlock f s) := by
  unfold serveUnlock
  dsimp only
  split_ifs with form room clock noPin lockout wrong
  · exact h.lockAnswered f _
  · exact h.lockAnswered f _
  · exact h.lockAnswered f _
  · exact h.lockAnswered f _
  · exact h.lockAnswered f _
  · exact (h.wrongEntry (not_not.mp room)).lockAnswered f _
  · obtain ⟨low, hard, pin, _, lengths⟩ := (gateOk_iff _).mp h.laws.gate
    have granted : Bills (grantUnlock s) := h.inRoom (not_not.mp room)
      ((gateOk_iff _).mpr ⟨low, hard, pin, Nat.zero_le _, lengths⟩) rfl rfl rfl rfl
    exact granted.lockAnswered f _

theorem serveRelock_bills (f : Frame) (s : State) (h : Bills s) : Bills (serveRelock f s) := by
  unfold serveRelock
  split
  · rename_i running
    have occupied : s.stay.room = .occupied := by
      by_contra room
      obtain ⟨_, _, _, unlock, _⟩ := (gateIsVacant_iff _).mp (h.laws.vacant room)
      rw [unlock] at running
      cases running
    have relocked : Bills (s.setGate { s.gate with unlockExpiry := none }) :=
      h.inRoom occupied h.laws.gate rfl rfl rfl rfl
    exact (relocked.reported _).lockAnswered f _
  · exact h.lockAnswered f _

theorem serveSetPin_bills (f : Frame) (s : State) (h : Bills s) : Bills (serveSetPin f s) := by
  unfold serveSetPin
  dsimp only
  split_ifs with form room clock lockout missing wrong
  · exact h.lockAnswered f _
  · exact h.lockAnswered f _
  · exact h.lockAnswered f _
  · exact h.lockAnswered f _
  · exact h.lockAnswered f _
  · exact (h.wrongEntry (not_not.mp room)).lockAnswered f _
  · obtain ⟨low, hard, _, _, lengths⟩ := (gateOk_iff _).mp h.laws.gate
    simp only [Bool.not_eq_true', Bool.not_eq_false, Bool.and_eq_true] at form
    have set : Bills (s.setGate { s.gate with
        pin := some (bodyPin f.body (2 + byteAt f.body 1)), failures := 0 }) :=
      h.inRoom (not_not.mp room) ((gateOk_iff _).mpr ⟨low, hard, form.2, Nat.zero_le _, lengths⟩)
        rfl rfl rfl rfl
    exact set.lockAnswered f _

theorem serveSetCeiling_bills (f : Frame) (s : State) (h : Bills s) : Bills (serveSetCeiling f s) := by
  obtain ⟨low, hard, pin, failures, lengths⟩ := (gateOk_iff _).mp h.laws.gate
  unfold serveSetCeiling
  dsimp only
  split_ifs with form room lower clock noPin lockout missing wrong
  · exact h.lockAnswered f _
  · exact h.lockAnswered f _
  · have lowered : Bills (s.setGate { s.gate with roomCeiling := byteAt f.body 1 }) :=
      h.inRoom (not_not.mp room)
        ((gateOk_iff _).mpr ⟨Nat.le_trans lower low, hard, pin, failures, lengths⟩) rfl rfl rfl rfl
    exact lowered.lockAnswered f _
  · exact h.lockAnswered f _
  · exact h.lockAnswered f _
  · exact h.lockAnswered f _
  · exact h.lockAnswered f _
  · exact (h.wrongEntry (not_not.mp room)).lockAnswered f _
  · have raised : Bills (s.setGate { s.gate with
        roomCeiling := min (byteAt f.body 1) s.gate.hardCeiling, failures := 0 }) :=
      h.inRoom (not_not.mp room)
        ((gateOk_iff _).mpr ⟨Nat.min_le_right _ _, hard, pin, Nat.zero_le _, lengths⟩) rfl rfl rfl rfl
    exact raised.lockAnswered f _

end
end Sys2Proof.Machine
end

section
/-! PROOFS. The billing laws and the films: what a change of the Folio Unit must keep, the entries that the
answers make and mark (sections 5.1 to 5.3), and the cells on their way (sections 1.2 and 2.3). -/

namespace Sys2Proof.Machine

/-! ### A change of the Folio Unit -/

theorem referenceOk_iff (s : State) : referenceOk s = true ↔
    tableSum answeredOne s.folio.entries ≤ if awaitsVerdict s.descrambler then 1 else 0 := by
  have marks : (liveEntries s.folio.entries).countP (·.answered) = tableSum answeredOne s.folio.entries := by
    rw [tableSum_eq]
    induction liveEntries s.folio.entries with
    | nil => rfl
    | cons e live ih => by_cases marked : e.answered = true <;> simp [ih, answeredOne, marked, Nat.add_comm]
  rw [referenceOk, decide_eq_true_eq, marks]

theorem closesOk_iff (f : Folio) : closesOk f = true ↔ f.closesBeforeReset ≤ f.closesDue := by
  rw [closesOk, decide_eq_true_eq]

/-- The second entry can stand for the first in the books: its film, state and money are the same. -/
structure SameBooks (e e' : Entry) : Prop where
  film : e'.film = e.film
  state : e'.state = e.state
  price : e'.price = e.price
  credit : e'.credit = e.credit
  fine : EntryFine e → EntryFine e'

/-- An entry with its flags and its mark changed, and nothing else. -/
def reflagged (a b c : Bool) (e : Entry) : Entry := { e with seenClear := a, seenFail := b, answered := c }

theorem reflagged_same (a b c : Bool) (e : Entry) : SameBooks e (reflagged a b c e) :=
  ⟨rfl, rfl, rfl, rfl, fun fine =>
    ⟨fine.film, fine.used, fine.clear, fine.impaired, fine.price, fine.window, fine.fields⟩⟩

theorem SameBooks.boughtPrice {e e' : Entry} (same : SameBooks e e') : boughtPrice e' = boughtPrice e := by
  rw [Machine.boughtPrice, Machine.boughtPrice, same.state, same.price]

theorem SameBooks.boughtOne {e e' : Entry} (same : SameBooks e e') : boughtOne e' = boughtOne e := by
  rw [Machine.boughtOne, Machine.boughtOne, same.state]

theorem newEntry_fine {film : Nat} (valid : 1 ≤ film ∧ film ≤ 4095) (second : Nat) :
    EntryFine (newEntry film second) where
  film := valid
  used := Nat.zero_le _
  clear := Nat.zero_le _
  impaired := Nat.zero_le _
  price := Nat.zero_le _
  window := Nat.zero_le _
  fields := ⟨rfl, rfl, rfl, rfl, rfl⟩

/-- A new entry displaces no value that a PREVIEW entry does not have. -/
theorem newPlace_value {value : Entry → Nat} (preview : ∀ e, e.state = .preview → value e = 0)
    {es : List (Option Entry)} {i : Nat} (place : newPlace es = some i) :
    ((es.getD i none).map value).getD 0 = 0 := by
  unfold newPlace freePlace at place
  rcases Option.or_eq_some_iff.mp place with free | ⟨_, evicted⟩
  · rw [List.getD_eq_getElem?_getD, (findIdx?_isNone_eq_some_iff.mp free).1]
    rfl
  · obtain ⟨_, ⟨e, he, ev, _⟩, _⟩ := evictPlace_eq_some_iff.mp evicted
    rw [List.getD_eq_getElem?_getD, he]
    exact preview e ((evictable_iff e).mp ev).1

theorem boughtCount_newEntry {es : List (Option Entry)} {i : Nat} (place : newPlace es = some i)
    (film second : Nat) : boughtCount (es.set i (some (newEntry film second))) = boughtCount es := by
  have count := tableSum_set boughtOne (lt_of_newPlace place) (some (newEntry film second))
  rw [← boughtCount_eq, ← boughtCount_eq,
    newPlace_value (fun e preview => by simp [boughtOne, preview]) place] at count
  have unbought : boughtOne (newEntry film second) = 0 := rfl
  simp only [Option.map_some, Option.getD_some] at count
  omega

section
variable {f g : Folio}

/-- The books stay settled when no entry comes to wait and no place becomes unreserved. -/
theorem BooksSettled.mono (h : BooksSettled f) (eight : f.entries.length = 8)
    (waits : ∀ i e', entryAt g i = some e' → e'.state = .settling →
      ∃ e, entryAt f i = some e ∧ e.state = .settling ∧ e.credit = e'.credit)
    (places : f.queue.length + boughtCount f.entries ≤ g.queue.length + boughtCount g.entries) :
    BooksSettled g := by
  intro i e' _ he' settling'
  obtain ⟨e, he, settling, credit⟩ := waits i e' he' settling'
  obtain ⟨owed, full⟩ := h i e (eight ▸ lt_of_entryAt he) he settling
  rw [unreservedPlace_eq_false] at full ⊢
  exact ⟨credit ▸ owed, Nat.le_trans full places⟩

/-- The books with an entry at a place: no other place has its film. -/
theorem FolioCore.put {i : Nat} (h : FolioCore f) (hi : i < f.entries.length) {e' : Entry} (fine : EntryFine e')
    (unique : ∀ k e, k ≠ i → entryAt f k = some e → e.film ≠ e'.film) (reserved : Nat)
    (sum : reserved + ((f.entries.getD i none).map boughtPrice).getD 0 = f.reserved + boughtPrice e')
    (places : f.queue.length + boughtCount (f.entries.set i (some e')) ≤ 10) (seconds : Nat)
    (below : seconds ≤ 59) :
    FolioCore { f with
      entries := f.entries.set i (some e'), reserved := reserved, snapshotSeconds := seconds } := by
  have after := entryAt_set (g := { f with
    entries := f.entries.set i (some e'), reserved := reserved, snapshotSeconds := seconds }) hi rfl
  have sums := tableSum_set boughtPrice hi (some e')
  have before := h.reserved
  rw [← boughtSum_eq, ← boughtSum_eq] at sums
  refine ⟨by rw [List.length_set]; exact h.eight, ?_, ?_, h.tariffs, ?_, places, h.serials, h.records, h.total,
    h.cap, h.quality, below, h.full⟩
  · rw [films_nodup_iff]
    intro a b x y hab hx hy
    rw [after] at hx hy
    split_ifs at hx hy with ha hb hb
    · exact absurd (ha.trans hb.symm) (Nat.ne_of_lt hab)
    · cases hx
      exact (unique b y hb hy).symm
    · cases hy
      exact unique a x ha hx
    · exact (films_nodup_iff f).mp h.films a b x y hab hx hy
  · intro k x hx
    rw [after] at hx
    split_ifs at hx
    · cases hx
      exact fine
    · exact h.fine k x hx
  · show reserved = boughtSum (f.entries.set i (some e'))
    simp only [Option.map_some, Option.getD_some] at sums
    omega

end

section
variable {s t : State}

theorem Tidy.reference (tidy : Tidy s t) (h : referenceOk s = true)
    (awaits : awaitsVerdict t.descrambler = awaitsVerdict s.descrambler) : referenceOk t = true := by
  rw [referenceOk_iff] at h ⊢
  rw [awaits]
  exact Nat.le_trans tidy.marks h

theorem Tidy.closesOk (tidy : Tidy s t) (h : closesOk s.folio = true) : closesOk t.folio = true := by
  rw [closesOk_iff] at h ⊢
  rw [tidy.closes.1, tidy.closes.2]
  exact h

/-- The billing laws but for the settlement of what waits. -/
structure Loose (s : State) : Prop where
  gate : gateOk s.gate = true
  vacant : s.stay.room ≠ .occupied → gateIsVacant s.gate = true
  core : FolioCore s.folio
  closes : closesOk s.folio = true
  reference : referenceOk s = true
  stay : stayOk s.stay = true
  room : roomOk s = true
  clock : clockOk s.clock = true
  cells : descramblerOk s.descrambler = true

theorem Bills.loose (h : Bills s) : Loose s :=
  have laws := h.laws
  ⟨laws.gate, laws.vacant, laws.folio.core, laws.closes, laws.reference, laws.stay, laws.room, laws.clock,
    h.cells⟩

theorem Loose.settled (h : Loose s) (settled : BooksSettled s.folio) : Bills s :=
  ⟨⟨h.gate, h.vacant, (folioLaws_iff_settled _).mpr ⟨h.core, settled⟩, h.closes, h.reference, h.stay, h.room,
    h.clock⟩, h.cells⟩

theorem houseMinute_le {c : HouseClock} (ok : clockOk c = true) : houseMinute c ≤ 16777215 := by
  simp only [clockOk, Bool.and_eq_true, decide_eq_true_eq, le_lastMinute] at ok
  obtain ⟨⟨minute, _⟩, _⟩ := ok
  unfold houseMinute
  split
  · exact minute
  · exact Nat.zero_le _

/-- A step that takes money and entries away, and settles, in a room with a stay whose closure is not
queued, brings the laws. -/
theorem Loose.tidied (h : Loose s) (tidy : Tidy s t) (settled : BooksSettled t.folio)
    (shape : s.stay.room = .occupied ∨ (s.stay.room = .closing ∧ s.stay.closureQueued = false))
    (reference : referenceOk t = true) (gate : t.gate = s.gate) (stay : t.stay = s.stay)
    (cells : descramblerOk t.descrambler = true) : Bills t := by
  have core := tidy.core (houseMinute_le h.clock) h.core
  refine Loose.settled ⟨gate ▸ h.gate, by rw [gate, stay]; exact h.vacant, core, tidy.closesOk h.closes,
    reference, stay ▸ h.stay, ?_, tidy.clock ▸ h.clock, cells⟩ settled
  rcases shape with room | ⟨room, open_⟩
  · obtain ⟨named, noClosure, noPending, plain, money⟩ := (roomOk_occupied_iff room).mp h.room
    rw [roomOk_occupied_iff (by rw [stay]; exact room), stay]
    exact ⟨named, noClosure, noPending, tidy.plain plain, tidy.cap ▸ Nat.le_trans tidy.money money⟩
  · obtain ⟨named, all, _, queued, _, cap⟩ := (roomOk_closing_iff room).mp h.room
    rw [open_] at queued
    have plain := tidy.plain fun r mem => by simpa using List.any_eq_false.mp queued.symm r mem
    have shut := tidy.shut fun i e he => all e (mem_liveEntries_entryAt.mpr ⟨i, he⟩)
    have noneBought : s.folio.reserved = 0 := by
      rw [h.core.reserved, boughtSum_eq]
      exact tableSum_eq_zero fun i e he => by
        simp [boughtPrice, all e (mem_liveEntries_entryAt.mpr ⟨i, he⟩)]
    rw [roomOk_closing_iff (by rw [stay]; exact room), stay]
    refine ⟨named, fun e live => ?_, fun r mem => plain r (List.dropLast_subset _ mem), ?_, ?_, ?_⟩
    · obtain ⟨i, he⟩ := mem_liveEntries_entryAt.mp live
      exact shut i e he
    · rw [open_, Eq.comm, List.any_eq_false]
      exact fun r mem => by simp [plain r mem]
    · simp [open_]
    · have money := tidy.money
      rw [tidy.cap]
      omega

namespace Bills

theorem minute_le (h : Bills s) : houseMinute s.clock ≤ 16777215 := houseMinute_le h.laws.clock

theorem books (h : Bills s) : FolioCore s.folio ∧ BooksSettled s.folio :=
  (folioLaws_iff_settled _).mp h.laws.folio

theorem withFolio (h : Bills s) (core : FolioCore t.folio) (settled : BooksSettled t.folio)
    (closes : closesOk t.folio = true) (reference : referenceOk t = true) (room : roomOk t = true)
    (gate : t.gate = s.gate) (stay : t.stay = s.stay) (clock : t.clock = s.clock)
    (cells : descramblerOk t.descrambler = true) : Bills t := by
  obtain ⟨laws, _⟩ := h
  refine ⟨⟨?_, ?_, (folioLaws_iff_settled _).mpr ⟨core, settled⟩, closes, reference, ?_, room, ?_⟩, cells⟩
  · rw [gate]; exact laws.gate
  · rw [gate, stay]; exact laws.vacant
  · rw [stay]; exact laws.stay
  · rw [clock]; exact laws.clock

/-- A room whose table has an entry is OCCUPIED, or CLOSING with its closure still to come, the entry
waiting for its credit. -/
theorem room_of_entry (h : Bills s) {i : Nat} {e : Entry} (he : entryAt s.folio i = some e) :
    s.stay.room = .occupied ∨
      (s.stay.room = .closing ∧ s.stay.closureQueued = false ∧ e.state = .settling) := by
  have live := mem_liveEntries_entryAt.mpr ⟨i, he⟩
  have empty (room : s.stay.room = .starting ∨ s.stay.room = .vacant) : False := by
    obtain ⟨_, _, _, empty⟩ := (roomOk_empty_iff room).mp h.laws.room
    simp only [folioEmpty, Bool.and_eq_true, List.all_eq_true] at empty
    have gone := empty.1 (some e) (List.mem_of_getElem? (entryAt_eq_some_iff.mp he))
    cases gone
  cases room : s.stay.room with
  | starting => exact (empty (.inl room)).elim
  | vacant => exact (empty (.inr room)).elim
  | occupied => exact .inl rfl
  | closing =>
    obtain ⟨_, all, _, _, queued, _⟩ := (roomOk_closing_iff room).mp h.laws.room
    refine .inr ⟨rfl, ?_, all e live⟩
    by_contra closure
    have none_waits := queued (by simpa using closure)
    rw [anySettling, List.any_eq_false] at none_waits
    exact none_waits e live (by simp [all e live])

theorem occupied_of_entry (h : Bills s) {i : Nat} {e : Entry} (he : entryAt s.folio i = some e)
    (state : e.state ≠ .settling) : s.stay.room = .occupied :=
  (h.room_of_entry he).resolve_right fun ⟨_, _, settling⟩ => state settling

theorem occupied (h : Bills s) (room : s.stay.room = .occupied) :
    (∀ r, r ∈ s.folio.queue → isClosure r = false) ∧ s.folio.total + s.folio.reserved ≤ s.folio.cap := by
  obtain ⟨_, _, _, plain, money⟩ := (roomOk_occupied_iff room).mp h.laws.room
  exact ⟨plain, money⟩

/-- The Folio Unit of an occupied room. -/
theorem inOccupied (h : Bills s) (room : s.stay.room = .occupied) (core : FolioCore t.folio)
    (settled : BooksSettled t.folio)
    (closes : t.folio.closesDue = s.folio.closesDue ∧ t.folio.closesBeforeReset = s.folio.closesBeforeReset)
    (reference : referenceOk t = true) (plain : ∀ r, r ∈ t.folio.queue → isClosure r = false)
    (money : t.folio.total + t.folio.reserved ≤ t.folio.cap)
    (gate : t.gate = s.gate) (stay : t.stay = s.stay) (clock : t.clock = s.clock)
    (cells : descramblerOk t.descrambler = true) : Bills t := by
  obtain ⟨named, noClosure, noPending, _⟩ := (roomOk_occupied_iff room).mp h.laws.room
  refine h.withFolio core settled ?_ reference ?_ gate stay clock cells
  · rw [closesOk_iff, closes.1, closes.2, ← closesOk_iff]
    exact h.laws.closes
  · rw [roomOk_occupied_iff (by rw [stay]; exact room), stay]
    exact ⟨named, noClosure, noPending, plain, money⟩

/-- A step that takes money and entries away, and settles, in a room with a stay whose closure is not
queued. -/
theorem tidied (h : Bills s) (tidy : Tidy s t) (settled : BooksSettled t.folio)
    (shape : s.stay.room = .occupied ∨ (s.stay.room = .closing ∧ s.stay.closureQueued = false))
    (reference : referenceOk t = true) (gate : t.gate = s.gate) (stay : t.stay = s.stay)
    (cells : descramblerOk t.descrambler = true) : Bills t :=
  h.loose.tidied tidy settled shape reference gate stay cells

/-! ### Flags and marks (R27, R32, R75) -/

section
variable {i : Nat} {e e' : Entry}

theorem rewritten_books (h : Bills s) (he : entryAt s.folio i = some e) (same : SameBooks e e')
    (folio : t.folio = { s.folio with entries := s.folio.entries.set i (some e') }) :
    FolioCore t.folio ∧ BooksSettled t.folio := by
  obtain ⟨core, settled⟩ := h.books
  have count := tableSum_replace boughtOne he (some e')
  have after := entryAt_set (g := t.folio) (lt_of_entryAt he) (by rw [folio])
  refine ⟨?_, settled.mono core.eight (fun k x hx settling => ?_) ?_⟩
  · rw [folio]
    refine core.setEntry he (o := some e') (fun x hx => ?_) s.folio.reserved ?_ ?_ s.folio.snapshotSeconds
      core.seconds
    · cases hx
      exact ⟨same.fine (core.fine i e he), same.film⟩
    · rw [Option.map_some, Option.getD_some, same.boughtPrice]
    · rw [Option.map_some, Option.getD_some, same.boughtOne]
  · rw [after] at hx
    split_ifs at hx with here
    · cases hx
      exact ⟨e, by rw [here, he], same.state ▸ settling, same.credit.symm⟩
    · exact ⟨x, hx, settling, rfl⟩
  · rw [folio]
    rw [← boughtCount_eq, ← boughtCount_eq, Option.map_some, Option.getD_some, same.boughtOne] at count
    show _ ≤ s.folio.queue.length + boughtCount (s.folio.entries.set i (some e'))
    omega

/-- An entry changes in what the books do not hold, and no mark comes. -/
theorem rewritten (h : Bills s) (he : entryAt s.folio i = some e) (same : SameBooks e e')
    (mark : answeredOne e' ≤ answeredOne e)
    (folio : t.folio = { s.folio with entries := s.folio.entries.set i (some e') })
    (reference : referenceOk t = true) (gate : t.gate = s.gate) (stay : t.stay = s.stay)
    (clock : t.clock = s.clock) (cells : descramblerOk t.descrambler = true) : Bills t := by
  have tidy : Tidy s t := Tidy.set he (o := some e')
    (fun fine x hx => by cases hx; exact ⟨same.fine fine, same.film⟩)
    s.folio.reserved (Nat.le_refl _)
    (fun _ => by rw [Option.map_some, Option.getD_some, same.boughtPrice])
    (by rw [Option.map_some, Option.getD_some, same.boughtOne]) mark
    (fun x hx settling => by cases hx; exact same.state.trans settling) (fun below => below) folio clock
  exact h.tidied tidy (h.rewritten_books he same folio).2
    ((h.room_of_entry he).imp_right fun ⟨room, open_, _⟩ => ⟨room, open_⟩) reference gate stay cells

/-- An entry of an occupied room changes in what the books do not hold. -/
theorem marked (h : Bills s) (room : s.stay.room = .occupied) (he : entryAt s.folio i = some e)
    (same : SameBooks e e')
    (folio : t.folio = { s.folio with entries := s.folio.entries.set i (some e') })
    (reference : referenceOk t = true) (gate : t.gate = s.gate) (stay : t.stay = s.stay)
    (clock : t.clock = s.clock) (cells : descramblerOk t.descrambler = true) : Bills t := by
  obtain ⟨core, settled⟩ := h.rewritten_books he same folio
  obtain ⟨plain, money⟩ := h.occupied room
  refine h.inOccupied room core settled ?_ reference ?_ ?_ gate stay clock cells
  · rw [folio]
    exact ⟨rfl, rfl⟩
  · rw [folio]
    exact plain
  · rw [folio]
    exact money

end

/-! ### The entry that answers (R68, R73, R74) -/

/-- A new entry takes a free place, or that of a PREVIEW entry. -/
theorem newEntry_bills (h : Bills s) (room : s.stay.room = .occupied) {film i : Nat}
    (valid : 1 ≤ film ∧ film ≤ 4095) (absent : placeOf s.folio.entries film = none)
    (place : newPlace s.folio.entries = some i) :
    Bills (setEntry i (some (newEntry film s.folio.feedSecond)) s) := by
  obtain ⟨core, settled⟩ := h.books
  obtain ⟨plain, money⟩ := h.occupied room
  have hi := lt_of_newPlace place
  have count := boughtCount_newEntry place film s.folio.feedSecond
  have marks := tableSum_set answeredOne hi (some (newEntry film s.folio.feedSecond))
  have reference := (referenceOk_iff s).mp h.laws.reference
  have unmarked : answeredOne (newEntry film s.folio.feedSecond) = 0 := rfl
  simp only [Option.map_some, Option.getD_some] at marks
  have after := entryAt_set (g := (setEntry i (some (newEntry film s.folio.feedSecond)) s).folio) hi rfl
  refine h.inOccupied room ?_ (settled.mono core.eight (fun k e' he' settling => ?_) ?_) ⟨rfl, rfl⟩ ?_ plain
    money rfl rfl rfl h.cells
  · refine core.put hi (newEntry_fine valid _) (fun k e _ he => ?_) s.folio.reserved ?_ ?_
      s.folio.snapshotSeconds core.seconds
    · rw [placeOf_eq_placeWhere, placeWhere_eq_none_iff] at absent
      exact beq_eq_false_iff_ne.mp (absent k e (entryAt_eq_some_iff.mp he))
    · rw [newPlace_value (fun e preview => by simp [boughtPrice, preview]) place]
      rfl
    · rw [count]
      exact core.places
  · rw [after] at he'
    split_ifs at he' with same
    · cases he'
      cases settling
    · exact ⟨e', he', settling, rfl⟩
  · show _ ≤ s.folio.queue.length +
      boughtCount (s.folio.entries.set i (some (newEntry film s.folio.feedSecond)))
    omega
  · rw [referenceOk_iff]
    show tableSum answeredOne (s.folio.entries.set i (some (newEntry film s.folio.feedSecond))) ≤
      if awaitsVerdict s.descrambler then 1 else 0
    omega

theorem placeForFilm_bills (h : Bills s) (room : s.stay.room = .occupied) {film i : Nat}
    (valid : 1 ≤ film ∧ film ≤ 4095) (placed : placeForFilm film s = some (i, t)) : Bills t := by
  cases here : placeOf s.folio.entries film with
  | some k =>
    rw [placeForFilm_of_entry here] at placed
    cases placed
    exact h
  | none =>
    cases place : newPlace s.folio.entries with
    | none => simp [placeForFilm_of_full here place] at placed
    | some k =>
      rw [placeForFilm_of_new here place] at placed
      cases placed
      exact h.newEntry_bills room valid here place

theorem askFilm_bills (h : Bills s) {film : Nat} (valid : 1 ≤ film ∧ film ≤ 4095) (barred : Bool) :
    Bills (askFilm film barred s).2 := by
  by_cases room : s.stay.room = .occupied
  · cases here : placeOf s.folio.entries film with
    | some k =>
      obtain ⟨e, he, _⟩ := entryAt_placeOf here
      rw [askFilm_of_entry room here he]
      exact h
    | none =>
      cases place : newPlace s.folio.entries with
      | none => rw [askFilm_of_full here place]; exact h
      | some k =>
        rw [askFilm_of_new room here place]
        exact h.newEntry_bills room valid here place
  · rw [askFilm_of_not_occupied room]
    exact h

end Bills
end
end Sys2Proof.Machine
end

section
/-! PROOFS. The billing laws and the cells on their way: a cell handed on, its arrival and its verdict
(sections 1.2, 2.3 and 5.3). -/

namespace Sys2Proof.Machine

theorem descramblerOk_iff (d : Descrambler) : descramblerOk d = true ↔
    (∀ h, h ∈ d.handedOn → h.cell.film ≤ 4095) ∧ ∀ j, d.judging = some j → j.cell.film ≤ 4095 ∧
      (j.answered = true → j.cell.film ≠ 0 ∧ j.closesAhead = 0) := by
  simp only [descramblerOk, cellOk, Bool.and_eq_true, List.all_eq_true, decide_eq_true_eq]
  cases d.judging with
  | none => simp
  | some j => cases answered : j.answered <;> simp [answered]

/-- A film ID is twelve bits (section 1.2). -/
theorem parseCell_film_le (bs : List Byte) : (parseCell bs).film ≤ 4095 := by
  have high := (bs.getD 2 0).isLt
  have low := (bs.getD 3 0).isLt
  show (bs.getD 2 0).toNat * 16 + (bs.getD 3 0).toNat / 16 ≤ 4095
  omega

section
variable {s t : State}

/-- The cells on their way change, and whether an answered one is in judging does not. -/
theorem Bills.withCells (h : Bills s) (cells : descramblerOk t.descrambler = true)
    (awaits : awaitsVerdict t.descrambler = awaitsVerdict s.descrambler) (gate : t.gate = s.gate)
    (folio : t.folio = s.folio) (stay : t.stay = s.stay) (clock : t.clock = s.clock) : Bills t := by
  obtain ⟨core, settled⟩ := h.books
  refine h.withFolio (folio ▸ core) (folio ▸ settled) (folio ▸ h.laws.closes) ?_ ?_ gate stay clock cells
  · rw [referenceOk, folio, awaits]
    exact h.laws.reference
  · rw [roomOk, stay, folio]
    exact h.laws.room

/-! ### A byte of the feed -/

theorem judgeComplete_descrambler (c : Cell) (s : State) : (judgeComplete c s).descrambler = s.descrambler ∨
    (judgeComplete c s).descrambler = { s.descrambler with
      handedOn := s.descrambler.handedOn ++ [⟨c, s.folio.closesDue⟩] } := by
  unfold judgeComplete acceptCell
  dsimp only
  split_ifs
  · exact .inl rfl
  · exact .inl rfl
  · exact .inl rfl
  · exact .inl rfl
  · exact .inl rfl
  · exact .inr rfl

theorem trackByte_descrambler (b : Byte) (s : State) : (trackByte b s).descrambler = s.descrambler ∨
    ∃ bs ahead, (trackByte b s).descrambler = { s.descrambler with
      handedOn := s.descrambler.handedOn ++ [⟨parseCell bs, ahead⟩] } := by
  unfold trackByte
  split
  · dsimp only
    split_ifs
    · exact .inl rfl
    · exact (judgeComplete_descrambler _ _).imp_right fun e => ⟨_, _, e⟩
    · exact .inl rfl
  · exact .inl rfl

theorem trackByte_bills (b : Byte) (h : Bills s) : Bills (trackByte b s) := by
  have changes := trackByte_changes b s
  obtain same | ⟨bs, ahead, handed⟩ := trackByte_descrambler b s
  · exact h.congr (changes .gate (by simp)) (changes .folio (by simp)) (changes .stay (by simp))
      (changes .clock (by simp)) same
  · refine h.withCells ?_ (by rw [handed]; rfl) (changes .gate (by simp)) (changes .folio (by simp))
      (changes .stay (by simp)) (changes .clock (by simp))
    obtain ⟨queued, judging⟩ := (descramblerOk_iff _).mp h.cells
    rw [handed, descramblerOk_iff]
    refine ⟨fun c mem => ?_, judging⟩
    rcases List.mem_append.mp mem with mem | mem
    · exact queued c mem
    · rw [List.mem_singleton.mp mem]
      exact parseCell_film_le bs

/-! ### A frame mark signals a boundary (R12) -/

theorem trackFrameMark_folio (s : State) : (trackFrameMark s).folio = s.folio ∨
    (trackFrameMark s).folio = { s.folio with closesDue := s.folio.closesDue + 1 } := by
  unfold trackFrameMark
  split
  · exact .inl rfl
  · exact .inl rfl
  · unfold advanceFrameCount
    split
    · exact .inr rfl
    · exact .inl rfl

theorem trackFrameMark_bills (h : Bills s) : Bills (trackFrameMark s) := by
  have changes := trackFrameMark_changes s
  obtain same | signalled := trackFrameMark_folio s
  · exact h.congr (changes .gate (by simp)) same (changes .stay (by simp)) (changes .clock (by simp))
      (changes .descrambler (by simp))
  · obtain ⟨core, settled⟩ := h.books
    have closes := (closesOk_iff _).mp h.laws.closes
    have descrambler : (trackFrameMark s).descrambler = s.descrambler := changes .descrambler (by simp)
    have stay : (trackFrameMark s).stay = s.stay := changes .stay (by simp)
    refine h.withFolio ?_ (settled.congr (by rw [signalled]) (by rw [signalled])) ?_ ?_ ?_
      (changes .gate (by simp)) stay (changes .clock (by simp)) (descrambler ▸ h.cells)
    · rw [signalled]
      exact ⟨core.eight, core.films, core.fine, core.tariffs, core.reserved, core.places, core.serials,
        core.records, core.total, core.cap, core.quality, core.seconds, core.full⟩
    · rw [closesOk_iff, signalled]
      exact Nat.le_succ_of_le closes
    · rw [referenceOk, descrambler, signalled]
      exact h.laws.reference
    · rw [roomOk, stay, signalled]
      exact h.laws.room

/-! ### CELL_ARRIVAL (R20, R24) -/

theorem arrive_bills (h : Bills s) {first : HandedCell} {rest : List HandedCell}
    (queued : s.descrambler.handedOn = first :: rest) (idle : s.descrambler.judging = none) :
    Bills (arrive first.cell first.closesAhead (s.setDescrambler { handedOn := rest, judging := none })) := by
  have changes := arrive_changes first.cell first.closesAhead
    (s.setDescrambler { handedOn := rest, judging := none })
  obtain ⟨fits, _⟩ := (descramblerOk_iff _).mp h.cells
  have judging : (arrive first.cell first.closesAhead
      (s.setDescrambler { handedOn := rest, judging := none })).descrambler.handedOn = rest ∧
      ∀ j, (arrive first.cell first.closesAhead
        (s.setDescrambler { handedOn := rest, judging := none })).descrambler.judging = some j →
        j.cell = first.cell ∧ j.answered = false := by
    rw [arrive_eq]
    refine ⟨rfl, fun j hj => ?_⟩
    simp only [State.setDescrambler_descrambler] at hj
    split_ifs at hj
    · cases hj
      exact ⟨rfl, rfl⟩
  generalize arrive first.cell first.closesAhead (s.setDescrambler { handedOn := rest, judging := none }) = t
    at changes judging
  obtain ⟨left, fresh⟩ := judging
  refine h.withCells ?_ ?_ (changes .gate (by simp)) (changes .folio (by simp)) (changes .stay (by simp))
    (changes .clock (by simp))
  · rw [descramblerOk_iff, left]
    refine ⟨fun c mem => fits c (by rw [queued]; exact List.mem_cons_of_mem _ mem), fun j hj => ?_⟩
    obtain ⟨cell, unanswered⟩ := fresh j hj
    rw [cell, unanswered]
    exact ⟨fits first (by rw [queued]; exact List.mem_cons_self), nofun⟩
  · rw [awaitsVerdict, awaitsVerdict, idle]
    cases hj : t.descrambler.judging with
    | none => rfl
    | some j => exact (fresh j hj).2

/-! ### CELL_VERDICT (R27, R32, R75) -/

theorem askBlocks_bills (h : Bills s) {j : Judging} (cell : j.cell.film ≤ 4095) : Bills (askBlocks j s).2 := by
  unfold askBlocks
  split_ifs with above film
  · exact h
  · exact h
  · have asked := h.askFilm_bills (film := j.cell.film) ⟨Nat.one_le_iff_ne_zero.mpr film, cell⟩ j.cell.barred
    split <;> rename_i answer <;> rw [answer] at asked <;> exact asked

theorem askBlocks_of_presentable {j : Judging} {i : Nat} (asked : askBlocks j s = (.presentable i, t)) :
    j.cell.film ≠ 0 ∧ s.stay.room = .occupied := by
  obtain ⟨_, _, e⟩ | ⟨_, _, _, _, film, answer⟩ := askBlocks_cases j s
  · rw [asked] at e
    cases e
  · refine ⟨film, ?_⟩
    by_contra room
    rw [askFilm_of_not_occupied room] at answer
    cases answer

/-- The cell in judging leaves, unanswered. -/
theorem Bills.leaveJudging (h : Bills s) (fresh : awaitsVerdict s.descrambler = false) (x : OutputStage) :
    Bills (leaveJudging x none s) := by
  obtain ⟨queued, _⟩ := (descramblerOk_iff _).mp h.cells
  exact h.withCells ((descramblerOk_iff _).mpr ⟨queued, nofun⟩) fresh.symm rfl rfl rfl rfl

/-- An unanswered verdict sets a flag of the entry that answered. -/
theorem reportPresented_bills (h : Bills s) (i : Nat) (intact : Bool) : Bills (reportPresented i intact s) := by
  unfold reportPresented changeEntry
  cases he : entryAt s.folio i with
  | none => exact h
  | some e =>
    have flags : ∃ a b, flagPresented intact e = reflagged a b e.answered e := by
      unfold flagPresented
      split
      · exact ⟨true, e.seenFail, rfl⟩
      · exact ⟨e.seenClear, true, rfl⟩
    obtain ⟨a, b, flags⟩ := flags
    dsimp only
    rw [flags]
    have marks := tableSum_replace answeredOne he (some (reflagged a b e.answered e))
    refine h.rewritten he (reflagged_same a b e.answered e) (Nat.le_refl _) rfl ?_ rfl rfl rfl h.cells
    have reference := (referenceOk_iff s).mp h.laws.reference
    rw [referenceOk_iff]
    have same : answeredOne (reflagged a b e.answered e) = answeredOne e := rfl
    simp only [Option.map_some, Option.getD_some] at marks
    show tableSum answeredOne (s.folio.entries.set i (some (reflagged a b e.answered e))) ≤
      if awaitsVerdict s.descrambler then 1 else 0
    omega

/-- The entry that answered is marked, with its cell kept in judging. -/
theorem markReference_bills (h : Bills s) {i : Nat} {j : Judging} (room : s.stay.room = .occupied)
    (fresh : awaitsVerdict s.descrambler = false) (cell : j.cell.film ≤ 4095) (film : j.cell.film ≠ 0)
    (now : j.closesAhead = 0) (x : OutputStage) :
    Bills (Machine.leaveJudging x (some { j with answered := true }) (markReference i s)) := by
  obtain ⟨queued, _⟩ := (descramblerOk_iff _).mp h.cells
  have cells : descramblerOk { s.descrambler with judging := some { j with answered := true } } = true := by
    refine (descramblerOk_iff _).mpr ⟨queued, ?_⟩
    rintro _ ⟨⟩
    exact ⟨cell, fun _ => ⟨film, now⟩⟩
  have reference := (referenceOk_iff s).mp h.laws.reference
  rw [fresh, if_neg Bool.false_ne_true] at reference
  unfold markReference changeEntry
  cases he : entryAt s.folio i with
  | none =>
    obtain ⟨core, settled⟩ := h.books
    refine h.withFolio core settled h.laws.closes ?_ h.laws.room rfl rfl rfl cells
    rw [referenceOk_iff]
    exact Nat.le_trans reference (Nat.zero_le _)
  | some e =>
    have marks := tableSum_replace answeredOne he (some (reflagged e.seenClear e.seenFail true e))
    refine h.marked room he (reflagged_same e.seenClear e.seenFail true e) rfl ?_ rfl rfl rfl cells
    rw [referenceOk_iff]
    have one : answeredOne (reflagged e.seenClear e.seenFail true e) = 1 := rfl
    simp only [Option.map_some, Option.getD_some] at marks
    show tableSum answeredOne (s.folio.entries.set i (some (reflagged e.seenClear e.seenFail true e))) ≤ 1
    omega

/-- The verdict of an answered cell uses up the mark. -/
theorem reportAnswered_bills (h : Bills s) (intact : Bool) (x : OutputStage) :
    Bills (Machine.leaveJudging x none (reportAnswered intact s)) := by
  obtain ⟨queued, _⟩ := (descramblerOk_iff _).mp h.cells
  have cells : descramblerOk { s.descrambler with judging := none } = true :=
    (descramblerOk_iff _).mpr ⟨queued, nofun⟩
  have reference : tableSum answeredOne s.folio.entries ≤ 1 := by
    refine Nat.le_trans ((referenceOk_iff s).mp h.laws.reference) ?_
    split <;> simp
  cases place : answeredPlace s.folio.entries with
  | none =>
    have unmarked : tableSum answeredOne s.folio.entries = 0 := by
      rw [tableSum_eq]
      refine List.sum_eq_zero fun n mem => ?_
      obtain ⟨e, live, rfl⟩ := List.mem_map.mp mem
      obtain ⟨k, he⟩ := mem_liveEntries_entryAt.mp live
      have none_marked := (placeWhere_eq_none_iff.mp place) k e (entryAt_eq_some_iff.mp he)
      simp [answeredOne, none_marked]
    obtain ⟨core, settled⟩ := h.books
    simp only [reportAnswered, place]
    refine h.withFolio core settled h.laws.closes ?_ h.laws.room rfl rfl rfl cells
    rw [referenceOk_iff]
    exact Nat.le_of_eq unmarked
  | some i =>
    obtain ⟨⟨e, there, answered⟩, _⟩ := placeWhere_eq_some_iff.mp place
    have he := entryAt_eq_some_iff.mpr there
    have flags : ∃ a b, { flagPresented intact e with answered := false } = reflagged a b false e := by
      unfold flagPresented
      split
      · exact ⟨true, e.seenFail, rfl⟩
      · exact ⟨e.seenClear, true, rfl⟩
    obtain ⟨a, b, flags⟩ := flags
    simp only [reportAnswered, place, changeEntry, he, flags]
    have marks := tableSum_replace answeredOne he (some (reflagged a b false e))
    refine h.rewritten he (reflagged_same a b false e) (Nat.zero_le _) rfl ?_ rfl rfl rfl cells
    rw [referenceOk_iff]
    have one : answeredOne e = 1 := by rw [answeredOne, answered]; rfl
    have zero : answeredOne (reflagged a b false e) = 0 := rfl
    simp only [Option.map_some, Option.getD_some] at marks
    show tableSum answeredOne (s.folio.entries.set i (some (reflagged a b false e))) ≤ 0
    omega

theorem exec_cellVerdict_of_waiting {order : VerdictOrder} {j : Judging} (hj : s.descrambler.judging = some j)
    (waits : j.cell.film ≠ 0 ∧ j.closesAhead ≠ 0) : execCellVerdict order s = .next s := by
  simp only [execCellVerdict, hj]
  rw [if_pos waits]

theorem cellVerdict_bills (order : VerdictOrder) (h : Bills s) (next : execCellVerdict order s = .next t) :
    Bills t := by
  by_cases waiting : ∃ j, s.descrambler.judging = some j ∧ j.cell.film ≠ 0 ∧ j.closesAhead ≠ 0
  · obtain ⟨j, hj, waits⟩ := waiting
    rw [exec_cellVerdict_of_waiting hj waits] at next
    exact Host.Outcome.next.inj next ▸ h
  have freshOf {j : Judging} (hj : s.descrambler.judging = some j) (answered : j.answered = false) {u : State}
      {x : Judgement} (asked : askBlocks j s = (x, u)) : Bills u ∧ awaitsVerdict u.descrambler = false := by
    have bills := askBlocks_bills h (((descramblerOk_iff _).mp h.cells).2 j hj).1
    rw [asked] at bills
    refine ⟨bills, ?_⟩
    rw [askBlocks_descrambler asked, awaitsVerdict, hj]
    exact answered
  obtain e | ⟨j, hj, _, e⟩ | ⟨j, hj, answered, ⟨item, u, asked, e⟩ | ⟨i, u, asked, _, e⟩ |
      ⟨i, u, asked, _, e⟩⟩ := execCellVerdict_cases order s <;>
    rw [← Host.Outcome.next.inj (e.symm.trans next)]
  · exact h
  · exact reportAnswered_bills h _ _
  · obtain ⟨bills, fresh⟩ := freshOf hj answered asked
    exact bills.leaveJudging fresh _
  · obtain ⟨bills, fresh⟩ := freshOf hj answered asked
    obtain ⟨film, room⟩ := askBlocks_of_presentable asked
    have now : j.closesAhead = 0 := by
      by_contra ahead
      exact waiting ⟨j, hj, film, ahead⟩
    have stay : u.stay = s.stay := by
      have kept := askBlocks_changes j s .stay (by simp)
      rwa [asked] at kept
    exact markReference_bills bills (stay ▸ room) fresh (((descramblerOk_iff _).mp h.cells).2 j hj).1 film
      now _
  · obtain ⟨bills, fresh⟩ := freshOf hj answered asked
    refine (reportPresented_bills bills i _).leaveJudging ?_ _
    rw [show (reportPresented i _ u).descrambler = u.descrambler from
      changeEntry_changes _ _ u .descrambler (by simp)]
    exact fresh

end
end Sys2Proof.Machine
end

section
/-! PROOFS. The billing laws and money: charges, the close of a feed second, PURCHASE and CANCEL, and the
tariffs (sections 5.4, 5.5 and 6.1). -/

namespace Sys2Proof.Machine

/-! ### A charge (R77, R78) -/

section
variable {s t : State} {i : Nat} {e : Entry}

theorem FolioCore.unique {f : Folio} (h : FolioCore f) (he : entryAt f i = some e) {k : Nat} {x : Entry}
    (other : k ≠ i) (hx : entryAt f k = some x) : x.film ≠ e.film := fun same =>
  other (place_unique (key := Entry.film) h.films (entryAt_eq_some_iff.mp hx) (entryAt_eq_some_iff.mp he) same)

theorem FolioCore.price_le {f : Folio} (h : FolioCore f) (he : entryAt f i = some e) :
    boughtPrice e ≤ f.reserved := by
  have sums := tableSum_replace boughtPrice he none
  rw [h.reserved, boughtSum_eq]
  simp only [Option.map_none, Option.getD_none] at sums
  omega

theorem chargedEntry_fine (fine : EntryFine e) (bought : e.state = .bought) (serial : Nat) :
    EntryFine (chargedEntry serial e) := by
  have fields := fine.fields
  simp only [fieldsByState, bought] at fields
  exact ⟨fine.film, fine.used, fine.clear, fine.impaired, fine.price, fine.window, fields⟩

theorem commitPlace_bills (h : Bills s) (he : entryAt s.folio i = some e) (bought : e.state = .bought) :
    Bills (commitPlace i s) := by
  rw [commitPlace_of_entry he]
  obtain ⟨core, settled⟩ := h.books
  have room := h.occupied_of_entry he (by rw [bought]; decide)
  obtain ⟨plain, money⟩ := h.occupied room
  have price : boughtPrice e = e.price.getD 0 := by rw [boughtPrice, if_pos bought]
  have one : boughtOne e = 1 := by rw [boughtOne, if_pos bought]
  have reserved := core.price_le he
  rw [price] at reserved
  have places := core.places
  have cap := core.cap
  have count := tableSum_replace boughtOne he (some (chargedEntry s.folio.nextSerial e))
  rw [← boughtCount_eq, ← boughtCount_eq, one] at count
  have none_left : ((some (chargedEntry s.folio.nextSerial e)).map boughtOne).getD 0 = 0 := rfl
  rw [none_left] at count
  have charged := core.setEntry he (o := some (chargedEntry s.folio.nextSerial e))
    (fun x hx => by cases hx; exact ⟨chargedEntry_fine (core.fine i e he) bought _, rfl⟩)
    (s.folio.reserved - e.price.getD 0) (by rw [price]; exact Nat.sub_add_cancel reserved)
    (Nat.zero_le _) 0 (Nat.zero_le _)
  have after := entryAt_set (g := committedFolio i e s) (lt_of_entryAt he) rfl
  have marks := tableSum_replace answeredOne he (some (chargedEntry s.folio.nextSerial e))
  have reference := (referenceOk_iff s).mp h.laws.reference
  have sameMark : ((some (chargedEntry s.folio.nextSerial e)).map answeredOne).getD 0 = answeredOne e := rfl
  rw [sameMark] at marks
  refine h.inOccupied room ?_ (settled.mono core.eight (fun k x hx settling => ?_) ?_) ⟨rfl, rfl⟩ ?_ ?_ ?_
    rfl rfl rfl h.cells
  · exact charged.record (recordOk_made core (by decide) (core.fine i e he).film (core.fine i e he).price
      h.minute_le) rfl (by
        show s.folio.queue.length + boughtCount (s.folio.entries.set i _) < 10
        omega) (total := s.folio.total + e.price.getD 0) (by omega)
  · rw [after] at hx
    split_ifs at hx
    · cases hx
      cases settling
    · exact ⟨x, hx, settling, rfl⟩
  · show _ ≤ (s.folio.queue ++ [_]).length + boughtCount (s.folio.entries.set i _)
    rw [List.length_append, List.length_singleton]
    omega
  · rw [referenceOk_iff]
    show tableSum answeredOne (s.folio.entries.set i _) ≤ if awaitsVerdict s.descrambler then 1 else 0
    omega
  · intro r mem
    rcases List.mem_append.mp mem with mem | mem
    · exact plain r mem
    · rw [List.mem_singleton.mp mem]
      rfl
  · show s.folio.total + e.price.getD 0 + (s.folio.reserved - e.price.getD 0) ≤ s.folio.cap
    omega

theorem commitTest_bills (i : Nat) (h : Bills s) : Bills (commitTest i s) := by
  unfold commitTest
  cases he : entryAt s.folio i with
  | none => exact h
  | some e =>
    dsimp only
    split
    · rename_i due
      exact commitPlace_bills h he due.1
    · exact h

/-! ### The close of a feed second (R76, R77, R173) -/

theorem fieldsByState_of_counts {e e' : Entry} (h : fieldsByState e) (state : e'.state = e.state)
    (price : e'.price = e.price) (window : e'.windowEnd = e.windowEnd) (credit : e'.credit = e.credit)
    (counts : e.state = .preview → e'.clear = e.clear ∧ e'.impaired = e.impaired) : fieldsByState e' := by
  unfold fieldsByState at h ⊢
  rw [state, price, window, credit]
  cases preview : e.state with
  | preview =>
    obtain ⟨clear, impaired⟩ := counts preview
    rw [preview] at h
    rw [clear, impaired]
    exact h
  | bought => rw [preview] at h; exact h
  | charged => rw [preview] at h; exact h
  | settling => rw [preview] at h; exact h

theorem closeEntry_same (second allowance : Nat) (e : Entry) :
    SameBooks e (closeEntry second allowance e) := by
  obtain ⟨film, state, price, credit, window, used, clear, impaired, counts⟩ :
      (closeEntry second allowance e).film = e.film ∧ (closeEntry second allowance e).state = e.state ∧
      (closeEntry second allowance e).price = e.price ∧ (closeEntry second allowance e).credit = e.credit ∧
      (closeEntry second allowance e).windowEnd = e.windowEnd ∧
      (e.previewUsed ≤ 600 → (closeEntry second allowance e).previewUsed ≤ 600) ∧
      (e.clear ≤ 65535 → (closeEntry second allowance e).clear ≤ 65535) ∧
      (e.impaired ≤ 65535 → (closeEntry second allowance e).impaired ≤ 65535) ∧
      (e.state = .preview → (closeEntry second allowance e).clear = e.clear ∧
        (closeEntry second allowance e).impaired = e.impaired) := by
    have counted := satInc_le
    unfold closeEntry
    cases state : e.state
    case preview => split_ifs <;> simp [state]
    case settling => simp [state]
    all_goals split_ifs <;> simp [counted]
  exact ⟨film, state, price, credit, fun fine => ⟨film ▸ fine.film, used fine.used, clear fine.clear,
    impaired fine.impaired, price ▸ fine.price, window ▸ fine.window,
    fieldsByState_of_counts fine.fields state price window credit counts⟩⟩

theorem closePlace_bills (i : Nat) (h : Bills s) : Bills (closePlace i s) := by
  unfold closePlace
  cases he : entryAt s.folio i with
  | none => exact h
  | some e =>
    dsimp only
    have mark : answeredOne (closeEntry s.folio.feedSecond s.stay.previewAllowance e) = answeredOne e := by
      unfold answeredOne closeEntry
      cases e.state
      case preview => split_ifs <;> rfl
      case settling => rfl
      all_goals split_ifs <;> rfl
    have marks := tableSum_replace answeredOne he
      (some (closeEntry s.folio.feedSecond s.stay.previewAllowance e))
    rw [Option.map_some, Option.getD_some, mark] at marks
    have reference := (referenceOk_iff s).mp h.laws.reference
    have closed : Bills (setEntry i
        (some (closeEntry s.folio.feedSecond s.stay.previewAllowance e)) s) := by
      refine h.rewritten he (closeEntry_same ..) (Nat.le_of_eq mark) rfl ?_ rfl rfl rfl h.cells
      rw [referenceOk_iff]
      show tableSum answeredOne (s.folio.entries.set i _) ≤ if awaitsVerdict s.descrambler then 1 else 0
      omega
    split_ifs
    · exact closed.reported _
    · exact closed
    · exact h

/-- The counts of a feed second, and of the snapshot, are outside the laws but for the latter's range. -/
theorem Bills.seconds (h : Bills s) {second seconds : Nat} (below : seconds ≤ 59)
    (folio : t.folio = { s.folio with feedSecond := second, snapshotSeconds := seconds }) (gate : t.gate = s.gate)
    (stay : t.stay = s.stay) (clock : t.clock = s.clock) (descrambler : t.descrambler = s.descrambler) :
    Bills t := by
  obtain ⟨core, settled⟩ := h.books
  refine h.withFolio ?_ (settled.congr (by rw [folio]) (by rw [folio])) ?_ ?_ ?_ gate stay clock
    (descrambler ▸ h.cells)
  · rw [folio]
    exact ⟨core.eight, core.films, core.fine, core.tariffs, core.reserved, core.places, core.serials,
      core.records, core.total, core.cap, core.quality, below, core.full⟩
  · rw [closesOk, folio]
    exact h.laws.closes
  · rw [referenceOk, folio, descrambler]
    exact h.laws.reference
  · rw [roomOk, stay, folio]
    exact h.laws.room

theorem Bills.emitted (h : Bills s) : Bills (emitSnapshot s) :=
  h.seconds (Nat.zero_le _) (emitSnapshot_folio s) rfl rfl rfl rfl

theorem periodicSnapshot_bills (h : Bills s) : Bills (periodicSnapshot s) := by
  unfold periodicSnapshot
  split_ifs with _ due
  · exact h.emitted
  · exact h.seconds (by omega) rfl rfl rfl rfl rfl
  · exact h.seconds (Nat.zero_le _) rfl rfl rfl rfl rfl

theorem advanceSecond_bills (h : Bills s) : Bills (advanceSecond s) :=
  h.seconds h.books.1.seconds rfl rfl rfl rfl rfl

theorem closeSecond_bills (beforeReset : Bool) (h : Bills s) : Bills (closeSecond beforeReset s) := by
  unfold closeSecond
  have counted : Bills (countFlags beforeReset s) := by
    unfold countFlags
    split
    · exact h
    · exact overPlaces_induct (P := Bills) closePlace s h fun i _ _ => closePlace_bills i
  have committed := overPlaces_induct (P := Bills) commitTest _ counted fun i _ _ => commitTest_bills i
  exact periodicSnapshot_bills (advanceSecond_bills committed)

/-- One boundary fewer is due. -/
theorem closeTaken_bills (h : Bills s) : Bills (closeTaken s) := by
  obtain ⟨core, settled⟩ := h.books
  obtain ⟨queued, judging⟩ := (descramblerOk_iff _).mp h.cells
  have closes := (closesOk_iff _).mp h.laws.closes
  refine h.withFolio ⟨core.eight, core.films, core.fine, core.tariffs, core.reserved, core.places,
    core.serials, core.records, core.total, core.cap, core.quality, core.seconds, core.full⟩
    (settled.congr rfl rfl) ((closesOk_iff _).mpr (Nat.sub_le_sub_right closes 1)) ?_ h.laws.room rfl rfl rfl
    ((descramblerOk_iff _).mpr ⟨fun c mem => ?_, fun j hj => ?_⟩)
  · have awaits : awaitsVerdict (closeTaken s).descrambler = awaitsVerdict s.descrambler := by
      show (s.descrambler.judging.map _).any _ = s.descrambler.judging.any _
      cases s.descrambler.judging <;> rfl
    rw [referenceOk, awaits]
    exact h.laws.reference
  · obtain ⟨before, there, rfl⟩ := List.mem_map.mp mem
    exact queued before there
  · obtain ⟨before, there, rfl⟩ := Option.map_eq_some_iff.mp hj
    obtain ⟨cell, answered⟩ := judging before there
    refine ⟨cell, fun marked => ?_⟩
    obtain ⟨film, now⟩ := answered marked
    exact ⟨film, by rw [now]⟩

theorem feedSecondClose_bills (h : Bills s) (next : execFeedSecondClose s = .next t) : Bills t := by
  obtain e | ⟨_, _, e⟩ := execFeedSecondClose_cases s <;> rw [← Host.Outcome.next.inj (e.symm.trans next)]
  · exact h
  · exact closeSecond_bills _ (closeTaken_bills h)

/-! ### PURCHASE and CANCEL (R79 to R84) -/

theorem Bills.folioAnswered (h : Bills s) (f : Frame) (code : ResultCode) : Bills (answerFolio f code s) :=
  h.answered f code _

/-- A PREVIEW entry is bought, or charged, at a price that R takes. -/
theorem buyEntry_bills (h : Bills s) (he : entryAt s.folio i = some e) (preview : e.state = .preview)
    {state : EntryState} (paid : state = .bought ∨ state = .charged) {tariff : Tariff}
    (price : tariff.price ≤ 60000) {reserved seconds : Nat} (below : seconds ≤ 59)
    (sum : reserved = s.folio.reserved + boughtPrice (buyEntry state tariff (houseMinute s.clock) e))
    (place : state = .bought → s.folio.queue.length + boughtCount s.folio.entries < 10)
    (money : s.folio.total + reserved ≤ s.folio.cap)
    (folio : t.folio = { s.folio with
      entries := s.folio.entries.set i (some (buyEntry state tariff (houseMinute s.clock) e))
      reserved := reserved, snapshotSeconds := seconds })
    (gate : t.gate = s.gate) (stay : t.stay = s.stay) (clock : t.clock = s.clock)
    (descrambler : t.descrambler = s.descrambler) : Bills t := by
  obtain ⟨core, settled⟩ := h.books
  have room := h.occupied_of_entry he (by rw [preview]; decide)
  obtain ⟨plain, _⟩ := h.occupied room
  have fine := core.fine i e he
  have fields := fine.fields
  simp only [fieldsByState, preview] at fields
  obtain ⟨_, _, _, _, credit⟩ := fields
  have boughtFine : EntryFine (buyEntry state tariff (houseMinute s.clock) e) := by
    refine ⟨fine.film, fine.used, Nat.zero_le _, Nat.zero_le _, price, Nat.min_le_right _ _, ?_⟩
    rcases paid with rfl | rfl <;> exact ⟨rfl, rfl, credit⟩
  have count := tableSum_replace boughtOne he (some (buyEntry state tariff (houseMinute s.clock) e))
  have one : boughtOne (buyEntry state tariff (houseMinute s.clock) e) ≤
      if state = .bought then 1 else 0 := Nat.le_refl _
  have none_before : boughtOne e = 0 := by rw [boughtOne, preview]; rfl
  have price_before : boughtPrice e = 0 := by rw [boughtPrice, preview]; rfl
  have marks := tableSum_replace answeredOne he (some (buyEntry state tariff (houseMinute s.clock) e))
  have mark : answeredOne (buyEntry state tariff (houseMinute s.clock) e) = answeredOne e := rfl
  have reference := (referenceOk_iff s).mp h.laws.reference
  rw [← boughtCount_eq, ← boughtCount_eq, Option.map_some, Option.getD_some, none_before] at count
  rw [Option.map_some, Option.getD_some, mark] at marks
  have after := entryAt_set (g := t.folio) (lt_of_entryAt he) (by rw [folio])
  have places := core.places
  refine h.inOccupied room ?_ (settled.mono core.eight (fun k x hx settling => ?_) ?_) ?_ ?_ ?_ ?_ gate stay
    clock (descrambler ▸ h.cells)
  · rw [folio]
    refine core.put (lt_of_entryAt he) boughtFine (fun k x other hx => core.unique he other hx) reserved ?_ ?_
      seconds below
    · rw [show s.folio.entries.getD i none = some e from he, Option.map_some, Option.getD_some, price_before,
        sum]
      rfl
    · split_ifs at one with bought
      · have room_left := place bought
        omega
      · omega
  · rw [after] at hx
    split_ifs at hx
    · cases hx
      rcases paid with rfl | rfl <;> cases settling
    · exact ⟨x, hx, settling, rfl⟩
  · rw [folio]
    show _ ≤ s.folio.queue.length + boughtCount (s.folio.entries.set i _)
    omega
  · rw [folio]
    exact ⟨rfl, rfl⟩
  · rw [referenceOk_iff, folio, descrambler]
    show tableSum answeredOne (s.folio.entries.set i _) ≤ _
    omega
  · rw [folio]
    exact plain
  · rw [folio]
    exact money

theorem tariff_price_le (h : Bills s) {film : Nat} {tariff : Tariff}
    (found : tariffOf s.folio film = some tariff) : tariff.price ≤ 60000 := by
  have tariffs := h.books.1.tariffs
  simp only [tariffsOk, tariffOk, Bool.and_eq_true, List.all_eq_true, decide_eq_true_eq] at tariffs
  exact (tariffs.2 tariff (List.mem_of_find?_eq_some found)).1.1.1.2

/-- The film has its place, with a PREVIEW entry and no change of the money. -/
theorem placeForFilm_preview {film : Nat}
    (preview : ∀ e, filmEntry s film = some e → e.state = .preview)
    (placed : placeForFilm film s = some (i, t)) : (∃ e, entryAt t.folio i = some e ∧ e.state = .preview) ∧
      t.folio.queue = s.folio.queue ∧ boughtCount t.folio.entries = boughtCount s.folio.entries ∧
      t.folio.total = s.folio.total ∧ t.folio.reserved = s.folio.reserved ∧ t.folio.cap = s.folio.cap := by
  cases here : placeOf s.folio.entries film with
  | some k =>
    rw [placeForFilm_of_entry here] at placed
    cases placed
    obtain ⟨e, he, _⟩ := entryAt_placeOf here
    exact ⟨⟨e, he, preview e (by rw [filmEntry_of_place here, he])⟩, rfl, rfl, rfl, rfl, rfl⟩
  | none =>
    cases place : newPlace s.folio.entries with
    | none => simp [placeForFilm_of_full here place] at placed
    | some k =>
      rw [placeForFilm_of_new here place] at placed
      cases placed
      exact ⟨⟨_, entryAt_setEntry_self (lt_of_newPlace place) _, rfl⟩, rfl, boughtCount_newEntry place _ _, rfl,
        rfl, rfl⟩

/-- A film bought in its place; with G at 0 it is charged at once. -/
theorem acceptPurchase_bills (h : Bills s) (he : entryAt s.folio i = some e) (preview : e.state = .preview)
    {tariff : Tariff} (price : tariff.price ≤ 60000)
    (place : s.folio.queue.length + boughtCount s.folio.entries < 10)
    (money : s.folio.total + s.folio.reserved + tariff.price ≤ s.folio.cap) :
    Bills (acceptPurchase tariff i s) := by
  have buys := buyPlace_of_entry (state := .bought) (t := tariff) he
  have bought : Bills (boughtReserved i tariff e s) :=
    buyEntry_bills h he preview (.inl rfl) price (reserved := s.folio.reserved + tariff.price)
      (Nat.zero_le _) rfl (fun _ => place) (by omega) rfl rfl rfl rfl rfl
  by_cases grace : s.stay.grace = 0
  · have entry : entryAt (boughtReserved i tariff e s).folio i =
        some (buyEntry .bought tariff (houseMinute s.clock) e) := by
      rw [entryAt, boughtReserved, getD_set (lt_of_entryAt he), if_pos rfl]
    have committed := commitPlace_bills bought entry rfl
    rw [commitPlace_of_entry entry] at committed
    rw [acceptPurchase_of_no_grace grace (lt_of_entryAt he) buys]
    exact committed.congr rfl rfl rfl rfl rfl
  · rw [acceptPurchase_of_grace grace buys]
    exact bought.congr rfl rfl rfl rfl rfl

end
end Sys2Proof.Machine
end

section
/-! PROOFS. The billing laws and the Folio Unit's commands: PURCHASE, CANCEL, TARIFF_SET, TARIFF_REMOVE,
SOFT_RESET (sections 5.5, 6.1 and 11.5). -/

namespace Sys2Proof.Machine

section
variable {s : State} {f : Frame}

/-! ### PURCHASE (R79 to R83) -/

theorem purchaseFree_bills (h : Bills s) {tariff : Tariff} (valid : validFilm (bodyFilm f) = true)
    (room : s.stay.room = .occupied) (free : tariff.price = 0)
    (preview : ∀ e, filmEntry s (bodyFilm f) = some e → e.state = .preview) :
    Bills (purchaseFree f tariff s) := by
  unfold purchaseFree
  cases placed : placeForFilm (bodyFilm f) s with
  | none => exact h.folioAnswered f _
  | some p =>
    obtain ⟨i, u⟩ := p
    have there := h.placeForFilm_bills room ((validFilm_iff _).mp valid) placed
    obtain ⟨⟨e, he, state⟩, _⟩ := placeForFilm_preview preview placed
    obtain ⟨_, money⟩ := there.occupied (there.occupied_of_entry he (by rw [state]; decide))
    dsimp only
    rw [buyPlace_of_entry he]
    have bought : Bills (setEntry i (some (buyEntry .charged tariff (houseMinute u.clock) e)) u) :=
      buyEntry_bills there he state (.inr rfl) (by rw [free]; exact Nat.zero_le _)
        there.books.1.seconds rfl nofun money rfl rfl rfl rfl rfl
    exact bought.emitted.folioAnswered f _

theorem servePurchase_bills (f : Frame) (s : State) (h : Bills s) : Bills (servePurchase f s) := by
  have refused (code : ResultCode) : Bills (answerFolio f code s) := h.folioAnswered f code
  unfold servePurchase
  by_cases valid : validFilm (bodyFilm f) = true
  swap
  · simpa [valid] using refused .badRequest
  by_cases room : s.stay.room = .occupied
  swap
  · simpa [valid, room] using refused .roomState
  by_cases clock : s.clock.set = true
  swap
  · simpa [valid, room, clock] using refused .clockUnset
  simp only [valid, Bool.not_true, Bool.false_eq_true, if_false, room, ne_eq, not_true_eq_false, clock,
    Bool.true_eq_false]
  cases found : tariffOf s.folio (bodyFilm f) with
  | none => exact refused _
  | some tariff =>
    dsimp only
    split
    · exact refused _
    rename_i paid
    split
    · exact refused _
    rename_i settling
    have preview : ∀ e, filmEntry s (bodyFilm f) = some e → e.state = .preview := by
      intro e entry
      rw [entry] at paid settling
      cases state : e.state <;> simp_all
    cases ratingAnswer s.gate tariff.rating with
    | barred => exact refused _
    | locked => exact refused _
    | allowed =>
      dsimp only
      split
      · rename_i free
        exact purchaseFree_bills h valid room free preview
      split
      · exact refused _
      rename_i cap
      split
      · exact refused _
      rename_i queue
      cases placed : placeForFilm (bodyFilm f) s with
      | none => exact refused _
      | some p =>
        obtain ⟨i, u⟩ := p
        have there := h.placeForFilm_bills room ((validFilm_iff _).mp valid) placed
        obtain ⟨⟨e, he, state⟩, sameQueue, sameCount, total, reserved, sameCap⟩ :=
          placeForFilm_preview preview placed
        refine (acceptPurchase_bills there he state (tariff_price_le h found) ?_ ?_).folioAnswered f _
        · rw [sameQueue, sameCount]
          exact Nat.not_le.mp queue
        · rw [total, reserved, sameCap]
          exact Nat.not_lt.mp cap

/-! ### CANCEL (R84) -/

theorem cancelEntry_fine {e : Entry} (fine : EntryFine e) (bought : e.state = .bought) :
    EntryFine (cancelEntry e) := by
  have fields := fine.fields
  simp only [fieldsByState, bought] at fields
  obtain ⟨_, _, credit⟩ := fields
  exact ⟨fine.film, fine.used, Nat.zero_le _, Nat.zero_le _, Nat.zero_le _, Nat.zero_le _,
    ⟨rfl, rfl, rfl, rfl, credit⟩⟩

theorem cancelled_bills (h : Bills s) {i : Nat} {e : Entry} (he : entryAt s.folio i = some e)
    (bought : e.state = .bought) {t : State} (folio : t.folio = { s.folio with
      entries := s.folio.entries.set i (some (cancelEntry e))
      reserved := s.folio.reserved - e.price.getD 0 }) (gate : t.gate = s.gate) (stay : t.stay = s.stay)
    (clock : t.clock = s.clock) (descrambler : t.descrambler = s.descrambler) :
    Bills (settleWaiting (emitSnapshot t)) := by
  have price : boughtPrice e = e.price.getD 0 := by rw [boughtPrice, if_pos bought]
  have cancelled : Tidy s t := Tidy.set he (o := some (cancelEntry e))
    (fun fine x hx => by cases hx; exact ⟨cancelEntry_fine fine bought, rfl⟩)
    (s.folio.reserved - e.price.getD 0) (Nat.sub_le ..)
    (fun enough => by rw [price] at *; exact Nat.sub_add_cancel enough) (Nat.zero_le _) (Nat.le_refl _)
    (fun x _ settling => by rw [bought] at settling; cases settling) (fun below => below) folio clock
  have tidy := (cancelled.trans (Tidy.emit t)).trans (settleWaiting_tidy _)
  have sameCells : (settleWaiting (emitSnapshot t)).descrambler = s.descrambler := by
    rw [settleWaiting_descrambler, emitSnapshot_descrambler, descrambler]
  refine h.tidied tidy (settleWaiting_booksSettled _)
    (.inl (h.occupied_of_entry he (by rw [bought]; decide))) ?_ ?_ ?_ (sameCells ▸ h.cells)
  · exact tidy.reference h.laws.reference (by rw [sameCells])
  · rw [settleWaiting_gate, emitSnapshot_gate, gate]
  · rw [settleWaiting_stay, emitSnapshot_stay, stay]

theorem serveCancel_bills (f : Frame) (s : State) (h : Bills s) : Bills (serveCancel f s) := by
  unfold serveCancel
  dsimp only
  split
  · exact h.folioAnswered f _
  cases placeOf s.folio.entries (bodyFilm f) with
  | none => exact h.folioAnswered f _
  | some i =>
    dsimp only
    cases he : entryAt s.folio i with
    | none => exact h.folioAnswered f _
    | some e =>
      dsimp only
      cases bought : e.state with
      | preview => exact h.folioAnswered f _
      | bought =>
        have cancelled := cancelled_bills (t := (setEntry i (some (cancelEntry e)) s).setFolio
          { (setEntry i (some (cancelEntry e)) s).folio with
            reserved := s.folio.reserved - e.price.getD 0 }) h he bought rfl rfl rfl rfl rfl
        exact cancelled.folioAnswered f _
      | charged => exact h.folioAnswered f _
      | settling => exact h.folioAnswered f _

/-! ### The tariffs (R91, R92) -/

theorem tariffsOk_iff (ts : List (Option Tariff)) : tariffsOk ts = true ↔
    ts.length = 64 ∧ ((ts.filterMap id).map (·.film)).Nodup ∧
      ∀ (i : Nat) t, ts[i]? = some (some t) → tariffOk t = true := by
  simp only [tariffsOk, Bool.and_eq_true, beq_iff_eq, decide_eq_true_eq, List.all_eq_true, and_assoc,
    mem_occupants_iff]
  exact ⟨fun ⟨length, films, all⟩ => ⟨length, films, fun i t place => all t ⟨i, place⟩⟩,
    fun ⟨length, films, all⟩ => ⟨length, films, fun t ⟨i, place⟩ => all i t place⟩⟩

/-- A place of the table is emptied, or takes a tariff of a film that no other place has. -/
theorem tariffsOk_set {ts : List (Option Tariff)} (ok : tariffsOk ts = true) {i : Nat} (hi : i < ts.length)
    {o : Option Tariff} (fine : ∀ t, o = some t → tariffOk t = true)
    (unique : ∀ (k : Nat) t x, o = some t → k ≠ i → ts[k]? = some (some x) → x.film ≠ t.film) :
    tariffsOk (ts.set i o) = true := by
  obtain ⟨length, films, all⟩ := (tariffsOk_iff ts).mp ok
  refine (tariffsOk_iff _).mpr ⟨by rw [List.length_set, length], ?_, fun k t place => ?_⟩
  · rw [nodup_occupants_iff] at films ⊢
    intro a b x y hab hx hy
    rw [set_place_eq hi] at hx hy
    split_ifs at hx hy with ha hb hb
    · omega
    · exact (unique b x y (by simpa using hx) (Ne.symm hb) hy).symm
    · exact unique a y x (by simpa using hy) (Ne.symm ha) hx
    · exact films a b x y hab hx hy
  · rw [set_place_eq hi] at place
    split_ifs at place
    · exact fine t (by simpa using place)
    · exact all k t place

theorem clampTariff_ok {film : Nat} (valid : validFilm film = true) (price window rating : Nat) :
    tariffOk (clampTariff film price window rating) = true := by
  simp [tariffOk, clampTariff, clampTo, valid]

theorem Bills.withTariffs (h : Bills s) {ts : List (Option Tariff)} (ok : tariffsOk ts = true) {full : Nat}
    (count : isCount full = true) :
    Bills (s.setFolio { s.folio with tariffs := ts, tariffFull := full }) := by
  obtain ⟨core, settled⟩ := h.books
  exact h.withFolio ⟨core.eight, core.films, core.fine, ok, core.reserved, core.places, core.serials,
    core.records, core.total, core.cap, core.quality, core.seconds, count⟩ (settled.congr rfl rfl)
    h.laws.closes h.laws.reference h.laws.room rfl rfl rfl h.cells

theorem takeTariff_bills (h : Bills s) (film price window rating : Nat) :
    Bills (takeTariff film price window rating s) := by
  have ok := h.books.1.tariffs
  unfold takeTariff
  dsimp only
  split_ifs with invalid
  · exact h.reported _
  have valid : validFilm film = true := by simpa using invalid
  have put {i : Nat} (hi : i < s.folio.tariffs.length)
      (unique : ∀ (k : Nat) x, k ≠ i → s.folio.tariffs[k]? = some (some x) → x.film ≠ film) :
      Bills (s.setFolio { s.folio with
        tariffs := s.folio.tariffs.set i (some (clampTariff film price window rating)) }) := by
    refine h.withTariffs (tariffsOk_set ok hi ?_ ?_) h.books.1.full
    · rintro _ ⟨⟩
      exact clampTariff_ok valid ..
    · rintro k _ x ⟨⟩
      exact unique k x
  split
  · rename_i i here
    obtain ⟨⟨x, place, same⟩, _⟩ := placeWhere_eq_some_iff.mp here
    refine put (List.getElem?_eq_some_iff.mp place).1 fun k y other there film_eq => other ?_
    exact (place_unique (key := Tariff.film) (films_nodup_of_tariffsOk ok) place there
      ((beq_iff_eq.mp same).trans film_eq.symm)).symm
  · rename_i absent
    split
    · rename_i i free
      refine put (List.getElem?_eq_some_iff.mp (findIdx?_isNone_eq_some_iff.mp free).1).1 fun k y _ there => ?_
      exact beq_eq_false_iff_ne.mp (placeWhere_eq_none_iff.mp absent k y there)
    · have counted : isCount (satInc s.folio.tariffFull) = true := decide_eq_true (satInc_le _)
      exact (h.withTariffs ok counted).reported _

theorem removeTariff_bills (h : Bills s) (film : Nat) : Bills (removeTariff film s) := by
  unfold removeTariff
  split
  · rename_i i here
    obtain ⟨⟨x, place, _⟩, _⟩ := placeWhere_eq_some_iff.mp here
    exact h.withTariffs (tariffsOk_set h.books.1.tariffs (List.getElem?_eq_some_iff.mp place).1
      (fun _ gone => by cases gone) fun _ _ _ gone => by cases gone)
      h.books.1.full
  · exact h

/-! ### SOFT_RESET (R69, R172) -/

theorem liveEntries_map (change : Entry → Entry) (es : List (Option Entry)) :
    liveEntries (es.map (Option.map change)) = (liveEntries es).map change := by
  induction es with
  | nil => rfl
  | cons o es ih => cases o <;> simpa [liveEntries] using ih

theorem tableSum_map {value : Entry → Nat} {change : Entry → Entry} (same : ∀ e, value (change e) = value e)
    (es : List (Option Entry)) : tableSum value (es.map (Option.map change)) = tableSum value es := by
  rw [tableSum_eq, tableSum_eq, liveEntries_map, List.map_map]
  exact congrArg List.sum (List.map_congr_left fun e _ => same e)

theorem entryAt_map {g : Folio} {change : Entry → Entry} {f : Folio}
    (entries : g.entries = f.entries.map (Option.map change)) (i : Nat) :
    entryAt g i = (entryAt f i).map change := by
  rw [entryAt, entryAt, entries, List.getD_eq_getElem?_getD, List.getD_eq_getElem?_getD, List.getElem?_map]
  cases f.entries[i]? <;> rfl

theorem anySettling_map {change : Entry → Entry} (same : ∀ e, (change e).state = e.state)
    (es : List (Option Entry)) : anySettling (es.map (Option.map change)) = anySettling es := by
  rw [anySettling, anySettling, liveEntries_map, List.any_map]
  exact congrArg (List.any (liveEntries es)) (funext fun e => by simp [same])

/-- Every entry changes in what the books do not hold, and the boundaries signalled are all before it. -/
theorem Bills.remapped (h : Bills s) {change : Entry → Entry} (same : ∀ e, SameBooks e (change e))
    (mark : ∀ e, answeredOne (change e) = answeredOne e) {t : State}
    (folio : t.folio = { s.folio with
      entries := s.folio.entries.map (Option.map change), closesBeforeReset := s.folio.closesDue })
    (gate : t.gate = s.gate) (stay : t.stay = s.stay) (clock : t.clock = s.clock)
    (descrambler : t.descrambler = s.descrambler) : Bills t := by
  obtain ⟨core, settled⟩ := h.books
  have there := entryAt_map (g := t.folio) (change := change) (f := s.folio) (by rw [folio])
  have count : boughtCount (s.folio.entries.map (Option.map change)) = boughtCount s.folio.entries := by
    rw [boughtCount_eq, boughtCount_eq]
    exact tableSum_map (fun e => (same e).boughtOne) _
  have sum : boughtSum (s.folio.entries.map (Option.map change)) = boughtSum s.folio.entries := by
    rw [boughtSum_eq, boughtSum_eq]
    exact tableSum_map (fun e => (same e).boughtPrice) _
  have coreAfter : FolioCore t.folio := by
    refine ⟨?_, ?_, fun i x hx => ?_, ?_, ?_, ?_, ?_, ?_, ?_, ?_, ?_, ?_, ?_⟩
    case refine_3 =>
      rw [there] at hx
      obtain ⟨e, he, rfl⟩ := Option.map_eq_some_iff.mp hx
      exact (same e).fine (core.fine i e he)
    all_goals rw [folio]
    · rw [List.length_map]; exact core.eight
    · rw [liveEntries_map, List.map_map]
      exact (List.map_congr_left fun e _ => (same e).film) ▸ core.films
    · exact core.tariffs
    · rw [sum]; exact core.reserved
    · rw [count]; exact core.places
    · exact core.serials
    · exact core.records
    · exact core.total
    · exact core.cap
    · exact core.quality
    · exact core.seconds
    · exact core.full
  refine h.withFolio coreAfter (settled.mono core.eight (fun k x hx settling => ?_) ?_) ?_ ?_ ?_ gate stay clock
    (descrambler ▸ h.cells)
  · rw [there] at hx
    obtain ⟨e, he, rfl⟩ := Option.map_eq_some_iff.mp hx
    exact ⟨e, he, (same e).state ▸ settling, (same e).credit.symm⟩
  · rw [folio]
    exact Nat.le_of_eq (congrArg (s.folio.queue.length + ·) count.symm)
  · rw [closesOk_iff, folio]
  · rw [referenceOk_iff, folio, descrambler]
    rw [tableSum_map mark]
    exact (referenceOk_iff s).mp h.laws.reference
  · have room := h.laws.room
    have waits := anySettling_map (fun e => (same e).state) s.folio.entries
    rw [roomOk, stay, folio]
    unfold roomOk at room
    simp only [waits, liveEntries_map, List.all_map, folioEmpty] at room ⊢
    have shut : ((fun e : Entry => e.state == .settling) ∘ change) = fun e => e.state == .settling :=
      funext fun e => by simp [(same e).state]
    have free : ((fun o : Option Entry => o.isNone) ∘ Option.map change) = fun o => o.isNone :=
      funext fun o => by cases o <;> rfl
    rw [shut, free]
    exact room

theorem serveSoftReset_bills (f : Frame) (s : State) (h : Bills s) : Bills (serveSoftReset f s) := by
  have cleared : Bills (s.setFolio (softResetFolio s.folio)) :=
    h.remapped (change := fun e => reflagged false false e.answered e) (fun e => reflagged_same ..)
      (fun _ => rfl) rfl rfl rfl rfl rfl
  exact cleared.congr rfl rfl rfl rfl rfl

end
end Sys2Proof.Machine
end

section
/-! PROOFS. The billing laws and the stay: it begins, changes, closes and ends (sections 7.3 to 7.6). -/

namespace Sys2Proof.Machine

/-! ### The room without a stay -/

/-- Stay parameters that name a stay, in the form the handler checks (R116, R150). -/
def namesStay (p : StayParams) : Prop := p.stay ≠ 0 ∧ p.stay ≤ 65535 ∧ pinOk p.pin = true

theorem stayOk_iff (c : StayController) : stayOk c = true ↔ c.stay ≤ 65535 ∧ c.previewAllowance ≤ 600 ∧
    c.grace ≤ 900 ∧ c.startTimer.isSome = (c.room == .starting) ∧
      ∀ p, c.pendingCheckIn = some p → namesStay p := by
  simp only [stayOk, Bool.and_eq_true, decide_eq_true_eq, beq_iff_eq, and_assoc, namesStay]
  cases c.pendingCheckIn with
  | none => simp
  | some p => simp [and_assoc]

theorem folioEmpty_iff (f : Folio) : folioEmpty f = true ↔ (∀ i, entryAt f i = none) ∧ f.queue = [] := by
  simp only [folioEmpty, Bool.and_eq_true, List.all_eq_true, List.isEmpty_iff, Option.isNone_iff_eq_none]
  refine and_congr_left fun _ => ⟨fun none_held i => ?_, fun none_at o mem => ?_⟩
  · rw [entryAt, List.getD_eq_getElem?_getD]
    cases there : f.entries[i]? with
    | none => rfl
    | some o => exact none_held o (List.mem_of_getElem? there)
  · obtain ⟨i, hi⟩ := List.getElem?_of_mem mem
    have empty := none_at i
    rw [entryAt, List.getD_eq_getElem?_getD, hi] at empty
    exact empty

section
variable {s t : State}

theorem anySettling_of_empty {f : Folio} (empty : ∀ i, entryAt f i = none) : anySettling f.entries = false := by
  rw [Bool.eq_false_iff]
  intro waits
  obtain ⟨i, e, he, _⟩ := anySettling_iff.mp waits
  rw [show f.entries.getD i none = none from empty i] at he
  cases he

theorem BooksSettled.of_empty {f : Folio} (empty : ∀ i, entryAt f i = none) : BooksSettled f :=
  fun i e _ he => by rw [empty i] at he; cases he

/-- A Folio Unit without films or records, its money and serials anew. -/
theorem FolioCore.emptied {f g : Folio} (h : FolioCore f) (entries : g.entries.length = 8)
    (empty : ∀ i, entryAt g i = none) (queue : g.queue = []) (reserved : g.reserved = 0)
    (tariffs : g.tariffs = f.tariffs ∧ g.tariffFull = f.tariffFull) (serial : 1 ≤ g.nextSerial ∧ g.nextSerial ≤ 65535)
    (total : g.total ≤ 9999999) (cap : g.cap ≤ 9999999) (quality : 1 ≤ g.quality ∧ g.quality ≤ 100)
    (seconds : g.snapshotSeconds ≤ 59) : FolioCore g := by
  have none_at {i : Nat} {e : Entry} (he : entryAt g i = some e) : False := by
    rw [empty i] at he
    cases he
  refine ⟨entries, (films_nodup_iff g).mpr fun i _ _ _ _ he => (none_at he).elim, fun i e he => (none_at he).elim,
    tariffs.1 ▸ h.tariffs, ?_, ?_, (serialsOk_iff g).mpr ⟨serial, by rw [queue]; rfl⟩, by rw [queue]; nofun, total,
    cap, quality, seconds, tariffs.2 ▸ h.full⟩
  · rw [reserved, boughtSum_eq, tableSum_eq_zero fun i e he => (none_at he).elim]
  · rw [queue, boughtCount_eq, tableSum_eq_zero fun i e he => (none_at he).elim]
    exact Nat.zero_le _

theorem referenceOk_of_empty (empty : ∀ i, entryAt s.folio i = none) : referenceOk s = true := by
  rw [referenceOk_iff, tableSum_eq_zero fun i e he => by rw [empty i] at he; cases he]
  exact Nat.zero_le _

/-! ### A stay begins and changes (R54, R55, R70, R94, R96, R110, R111) -/

theorem clampTo_range {lo hi : Nat} (le : lo ≤ hi) (n : Nat) : lo ≤ clampTo lo hi n ∧ clampTo lo hi n ≤ hi :=
  ⟨Nat.le_max_left _ _, Nat.max_le.mpr ⟨le, Nat.min_le_right _ _⟩⟩

theorem gateOfStay_ok {p : StayParams} (pin : pinOk p.pin = true) : gateOk (gateOfStay p) = true :=
  (gateOk_iff _).mpr ⟨Nat.min_le_right _ _, Nat.min_le_right _ _, pin, Nat.zero_le _,
    clampTo_range (by decide) _, clampTo_range (by decide) _⟩

theorem beginStay_bills (h : Bills s) (room : s.stay.room = .starting ∨ s.stay.room = .vacant) {p : StayParams}
    (names : namesStay p) : Bills (beginStay p s) := by
  obtain ⟨_, noClosure, noPending, emptyRoom⟩ := (roomOk_empty_iff room).mp h.laws.room
  obtain ⟨empty, queue⟩ := (folioEmpty_iff _).mp emptyRoom
  obtain ⟨named, number, pin⟩ := names
  obtain ⟨core, _⟩ := h.books
  have begun : Bills (folioBegin p (gateBegin p (openStay p s))) := by
    have gate : (folioBegin p (gateBegin p (openStay p s))).gate = gateOfStay p := rfl
    have folio : (folioBegin p (gateBegin p (openStay p s))).folio = { s.folio with
        cap := min p.cap maxTotal, quality := clampTo 1 100 p.quality
        total := 0, reserved := 0, nextSerial := 1 } := rfl
    have stay : (folioBegin p (gateBegin p (openStay p s))).stay = { s.stay with
        room := .occupied, stay := p.stay, previewAllowance := min p.previewAllowance 600
        grace := min p.grace 900, startTimer := none } := rfl
    have clock : (folioBegin p (gateBegin p (openStay p s))).clock = s.clock := rfl
    have cells : (folioBegin p (gateBegin p (openStay p s))).descrambler = s.descrambler := rfl
    generalize folioBegin p (gateBegin p (openStay p s)) = t at gate folio stay clock cells
    have occupied : t.stay.room = .occupied := by rw [stay]
    have none_left (i : Nat) : entryAt t.folio i = none := by rw [folio]; exact empty i
    refine Loose.settled ⟨gate ▸ gateOfStay_ok pin, absurd occupied, ?_, ?_, referenceOk_of_empty none_left, ?_,
      ?_, clock ▸ h.laws.clock, cells ▸ h.cells⟩ (BooksSettled.of_empty none_left)
    · rw [folio] at none_left ⊢
      exact core.emptied core.eight none_left queue rfl ⟨rfl, rfl⟩ ⟨Nat.le_refl 1, (by decide : 1 ≤ 65535)⟩ (Nat.zero_le _)
        (Nat.min_le_right _ _) (clampTo_range (by decide) _) core.seconds
    · rw [closesOk, folio]
      exact h.laws.closes
    · rw [stay]
      refine (stayOk_iff _).mpr ⟨number, Nat.min_le_right _ _, Nat.min_le_right _ _, rfl, ?_⟩
      rw [noPending]
      nofun
    · rw [roomOk_occupied_iff occupied, stay, folio, queue]
      exact ⟨named, noClosure, noPending, nofun, Nat.zero_le _⟩
  exact (begun.reported _).emitted

theorem folioUpdate_bills (h : Bills s) (room : s.stay.room = .occupied) (p : StayParams) :
    Bills (folioUpdate p s) := by
  obtain ⟨named, noClosure, noPending, plain, money⟩ := (roomOk_occupied_iff room).mp h.laws.room
  obtain ⟨core, settled⟩ := h.books
  have cap := core.cap
  have clamped : Bills (s.setFolio { s.folio with
      cap := max (min p.cap maxTotal) (s.folio.total + s.folio.reserved)
      quality := clampTo 1 100 p.quality }) := by
    refine h.withFolio ⟨core.eight, core.films, core.fine, core.tariffs, core.reserved, core.places, core.serials,
      core.records, core.total, Nat.max_le.mpr ⟨Nat.min_le_right _ _, Nat.le_trans money cap⟩,
      clampTo_range (by decide) _, core.seconds, core.full⟩ (settled.congr rfl rfl) h.laws.closes
      h.laws.reference ?_ rfl rfl rfl h.cells
    refine (roomOk_occupied_iff ?_).mpr ⟨named, noClosure, noPending, plain, Nat.le_max_right _ _⟩
    exact room
  unfold folioUpdate
  dsimp only
  split
  · exact clamped.congr rfl rfl rfl rfl rfl
  · exact clamped

theorem gateUpdate_bills (h : Bills s) (room : s.stay.room = .occupied) {p : StayParams}
    (pin : pinOk p.pin = true) : Bills (gateUpdate p s) := by
  obtain ⟨_, _, pinBefore, failures, _⟩ := (gateOk_iff _).mp h.laws.gate
  refine h.inRoom room ((gateOk_iff _).mpr ⟨Nat.min_le_right _ _, Nat.min_le_right _ _, ?_, failures,
    clampTo_range (by decide) _, clampTo_range (by decide) _⟩) rfl rfl rfl rfl
  show pinOk (p.pin.or s.gate.pin) = true
  cases given : p.pin with
  | none => exact pinBefore
  | some digits =>
    rw [given] at pin
    exact pin

/-- The lengths of a stay are clamped. -/
theorem lengths_bills (h : Bills s) {allowance grace : Nat} (allowed : allowance ≤ 600) (most : grace ≤ 900) :
    Bills (s.setStay { s.stay with previewAllowance := allowance, grace := grace }) := by
  obtain ⟨number, _, _, timer, pending⟩ := (stayOk_iff _).mp h.laws.stay
  exact Loose.settled ⟨h.laws.gate, h.laws.vacant, h.books.1, h.laws.closes, h.laws.reference,
    (stayOk_iff _).mpr ⟨number, allowed, most, timer, pending⟩, h.laws.room, h.laws.clock, h.cells⟩ h.books.2

theorem updateStay_bills (h : Bills s) (room : s.stay.room = .occupied) {p : StayParams}
    (pin : pinOk p.pin = true) : Bills (updateStay p s) :=
  have lengths := lengths_bills h (Nat.min_le_right p.previewAllowance 600) (Nat.min_le_right p.grace 900)
  ((folioUpdate_bills (gateUpdate_bills lengths room pin) room p).reported _).emitted

/-! ### The stay closes (R88, R112 to R114) -/

theorem Bills.noneWaits (h : Bills s) (room : s.stay.room = .closing) (queued : s.stay.closureQueued = true)
    (i : Nat) : entryAt s.folio i = none := by
  cases he : entryAt s.folio i with
  | none => rfl
  | some e =>
    rcases h.room_of_entry he with occupied | ⟨_, open_, _⟩
    · rw [room] at occupied
      cases occupied
    · rw [queued] at open_
      cases open_

/-- The closure joins the queue last, once no entry waits. -/
theorem closureTest_bills (h : Bills s) : Bills (closureTest s) := by
  unfold closureTest
  split
  swap
  · exact h
  rename_i due
  simp only [closureDue, Bool.and_eq_true, beq_iff_eq, Bool.not_eq_true', decide_eq_true_eq] at due
  obtain ⟨⟨⟨room, open_⟩, none_waits⟩, place⟩ := due
  obtain ⟨core, settled⟩ := h.books
  obtain ⟨named, all, plain, queued, _, cap⟩ := (roomOk_closing_iff room).mp h.laws.room
  obtain ⟨number, allowance, grace, timer, pending⟩ := (stayOk_iff _).mp h.laws.stay
  have empty (i : Nat) : entryAt s.folio i = none := by
    cases he : entryAt s.folio i with
    | none => rfl
    | some e =>
      have settling := all e (mem_liveEntries_entryAt.mpr ⟨i, he⟩)
      rw [anySettling_iff.mpr ⟨i, e, he, settling⟩] at none_waits
      cases none_waits
  have bought : boughtCount s.folio.entries = 0 := by
    rw [boughtCount_eq, tableSum_eq_zero fun i e he => by rw [empty i] at he; cases he]
  have noClosure : ∀ r, r ∈ s.folio.queue → isClosure r = false := fun r mem => by
    rw [open_] at queued
    simpa using List.any_eq_false.mp queued.symm r mem
  have closure : recordOk ⟨s.folio.nextSerial, .stayClosed, 0, s.folio.total, houseMinute s.clock⟩ = true := by
    have total := core.total
    exact (recordOk_iff _).mpr ⟨((serialsOk_iff _).mp core.serials).1,
      by show s.folio.total ≤ 16777215; omega, h.minute_le, rfl⟩
  have record := core.record closure rfl (by omega) core.total
  have queuedLast : Bills ((appendRecord .stayClosed 0 s.folio.total s).setStay
      { s.stay with closureQueued := true }) := by
    have folio : (appendRecord .stayClosed 0 s.folio.total s).folio = { s.folio with
        queue := s.folio.queue ++ [⟨s.folio.nextSerial, .stayClosed, 0, s.folio.total, houseMinute s.clock⟩]
        nextSerial := serialAfter s.folio.nextSerial, total := s.folio.total } := rfl
    generalize hr : (⟨s.folio.nextSerial, .stayClosed, 0, s.folio.total, houseMinute s.clock⟩ : Record) = r
      at record folio
    refine Loose.settled ⟨h.laws.gate, h.laws.vacant, folio ▸ record, h.laws.closes, h.laws.reference,
      (stayOk_iff _).mpr ⟨number, allowance, grace, timer, pending⟩, ?_, h.laws.clock, h.cells⟩
      (BooksSettled.of_empty empty)
    rw [roomOk_closing_iff (by exact room), State.setStay_folio, folio]
    refine ⟨named, all, ?_, ?_, fun _ => none_waits, cap⟩
    · rw [List.dropLast_concat]
      exact noClosure
    · rw [List.any_append, ← hr]
      exact (Bool.or_true _).symm
  exact (queuedLast.reported _).emitted

theorem closeStay_bills (h : Bills s) (room : s.stay.room = .occupied) : Bills (closeStay s) := by
  rw [closeStay_leaving]
  refine closureTest_bills ?_
  obtain ⟨core, _⟩ := h.books
  obtain ⟨named, noClosure, noPending, plain, money⟩ := (roomOk_occupied_iff room).mp h.laws.room
  obtain ⟨number, allowance, grace, _, pending⟩ := (stayOk_iff _).mp h.laws.stay
  obtain ⟨log, records, reports, left⟩ := leaveTable_left (s := leaving s) core.eight core.reserved
  have tidy := leaveTable_tidy (leaving s)
  have settled := settleWaiting_booksSettled (overPlaces leavePlace (leaving s))
  rw [← show leaveTable (leaving s) = settleWaiting (overPlaces leavePlace (leaving s)) from rfl] at settled
  have changes := leaveTable_changes (leaving s)
  have gate : (leaveTable (leaving s)).gate = gateVacated s.gate := changes .gate (by simp)
  have stay : (leaveTable (leaving s)).stay = { s.stay with room := .closing } := changes .stay (by simp)
  have cells : (leaveTable (leaving s)).descrambler = s.descrambler := changes .descrambler (by simp)
  generalize leaveTable (leaving s) = t at left tidy settled gate stay cells
  obtain ⟨gateFine, vacant⟩ := gateVacated_ok h.laws.gate
  have after := tidy.plain plain
  have sum : t.folio.total + t.folio.reserved ≤ s.folio.total + s.folio.reserved := tidy.money
  have cap : t.folio.cap = s.folio.cap := tidy.cap
  have closing : t.stay.room = .closing := by rw [stay]
  have minute : houseMinute (leaving s).clock ≤ 16777215 := h.minute_le
  refine Loose.settled ⟨gate ▸ gateFine, fun _ => gate ▸ vacant, tidy.core minute core,
    tidy.closesOk h.laws.closes, tidy.reference h.laws.reference (by rw [cells]; rfl), ?_, ?_,
    tidy.clock ▸ h.laws.clock, cells ▸ h.cells⟩ settled
  · rw [stay]
    refine (stayOk_iff _).mpr ⟨number, allowance, grace, ?_, pending⟩
    have timer := ((stayOk_iff _).mp h.laws.stay).2.2.2.1
    rw [room] at timer
    exact timer
  · rw [roomOk_closing_iff closing, stay]
    refine ⟨named, fun e live => ?_, fun r mem => after r (List.dropLast_subset _ mem), ?_, ?_, by omega⟩
    · obtain ⟨i, he⟩ := mem_liveEntries_entryAt.mp live
      exact (left.waits i e he).1
    · rw [noClosure, Eq.comm, List.any_eq_false]
      exact fun r mem => by simp [after r mem]
    · simp [noClosure]

theorem closeStay_room (s : State) : (closeStay s).stay.room = .closing := by
  have kept (u : State) : (closureTest u).stay.room = u.stay.room := by rw [closureTest_eq]
  rw [closeStay_leaving, kept, leaveTable_stay]
  rfl

theorem checkOutOccupied_bills (h : Bills s) (room : s.stay.room = .occupied) : Bills (checkOutOccupied s) :=
  ((closeStay_bills h room).reported _).emitted

/-- A check-in held while the room closes (R113, R116). -/
theorem heldCheckIn_bills (h : Bills s) (room : s.stay.room = .closing) {p : StayParams} (names : namesStay p) :
    Bills (s.setStay { s.stay with pendingCheckIn := some p }) := by
  obtain ⟨number, allowance, grace, timer, _⟩ := (stayOk_iff _).mp h.laws.stay
  refine Loose.settled ⟨h.laws.gate, h.laws.vacant, h.books.1, h.laws.closes, h.laws.reference, ?_, ?_,
    h.laws.clock, h.cells⟩ h.books.2
  · refine (stayOk_iff _).mpr ⟨number, allowance, grace, timer, ?_⟩
    rintro _ ⟨⟩
    exact names
  · refine (roomOk_closing_iff ?_).mpr ((roomOk_closing_iff room).mp h.laws.room)
    exact room

theorem changeOver_bills (h : Bills s) (room : s.stay.room = .occupied) {p : StayParams} (names : namesStay p) :
    Bills (changeOver p s) :=
  ((heldCheckIn_bills (closeStay_bills h room) (closeStay_room s) names).reported _).emitted

/-! ### The stay ends (R105, R115, R117 to R119) -/

/-- A room left without films or records. -/
theorem vacant_bills {c : StayController} (own : stayOk c = true)
    (lengths : t.stay.previewAllowance = c.previewAllowance ∧ t.stay.grace = c.grace)
    (gate : gateOk t.gate = true) (vacant : gateIsVacant t.gate = true) (core : FolioCore t.folio)
    (empty : folioEmpty t.folio = true) (closes : closesOk t.folio = true) (clock : clockOk t.clock = true)
    (cells : descramblerOk t.descrambler = true) (number : t.stay.stay = 0) (room : t.stay.room = .vacant)
    (noClosure : t.stay.closureQueued = false) (noPending : t.stay.pendingCheckIn = none)
    (timer : t.stay.startTimer = none) : Bills t := by
  obtain ⟨_, allowance, grace, _, _⟩ := (stayOk_iff _).mp own
  obtain ⟨none_left, _⟩ := (folioEmpty_iff _).mp empty
  refine Loose.settled ⟨gate, fun _ => vacant, core, closes, referenceOk_of_empty none_left,
    (stayOk_iff _).mpr ⟨by rw [number]; decide, lengths.1 ▸ allowance, lengths.2 ▸ grace, ?_, ?_⟩,
    (roomOk_empty_iff (.inr room)).mpr ⟨number, noClosure, noPending, empty⟩, clock, cells⟩
    (BooksSettled.of_empty none_left)
  · rw [room, timer]
    rfl
  · rw [noPending]
    nofun

theorem takeVacate_bills (h : Bills s) : Bills (takeVacate s) := by
  obtain ⟨gate, vacant⟩ := gateVacated_ok h.laws.gate
  obtain ⟨core, _⟩ := h.books
  have empty : folioEmpty (vacateFolio s.folio) = true := rfl
  have emptied : FolioCore (vacateFolio s.folio) :=
    core.emptied rfl ((folioEmpty_iff _).mp empty).1 rfl rfl ⟨rfl, rfl⟩
      ⟨Nat.le_refl 1, (by decide : 1 ≤ 65535)⟩ (Nat.zero_le _) core.cap core.quality core.seconds
  have vacated : Bills (gateVacant ((s.setStay { s.stay with
      room := .vacant, stay := 0, pendingCheckIn := none, closureQueued := false, startTimer := none }).setFolio
      (vacateFolio s.folio))) :=
    vacant_bills h.laws.stay ⟨rfl, rfl⟩ gate vacant emptied empty h.laws.closes h.laws.clock h.cells rfl rfl rfl
      rfl rfl
  exact (vacated.reported _).emitted

theorem checkOutStarting_bills (h : Bills s) (room : s.stay.room = .starting) : Bills (checkOutStarting s) := by
  obtain ⟨number, noClosure, noPending, empty⟩ := (roomOk_empty_iff (.inl room)).mp h.laws.room
  obtain ⟨gate, vacant⟩ := gateVacated_ok h.laws.gate
  have left : Bills (gateVacant (s.setStay { s.stay with room := .vacant, startTimer := none })) :=
    vacant_bills h.laws.stay ⟨rfl, rfl⟩ gate vacant h.books.1 empty h.laws.closes h.laws.clock h.cells number rfl
      noClosure noPending rfl
  exact (left.reported _).emitted

theorem startTimeout_bills (h : Bills s) : Bills (startTimeout s) := by
  unfold startTimeout
  split
  · rename_i starting
    obtain ⟨number, noClosure, noPending, empty⟩ := (roomOk_empty_iff (.inl starting.1)).mp h.laws.room
    have left : Bills (s.setStay { s.stay with room := .vacant, startTimer := none }) :=
      vacant_bills h.laws.stay ⟨rfl, rfl⟩ h.laws.gate (h.laws.vacant (by rw [starting.1]; decide)) h.books.1 empty
        h.laws.closes h.laws.clock h.cells number rfl noClosure noPending rfl
    exact left.reported _
  · exact h

/-- The closing sequence ends with the queue empty, and a pending check-in begins its stay. -/
theorem endClosing_bills (own : stayOk s.stay = true) (closing : s.stay.room = .closing)
    (gate : gateOk s.gate = true) (vacant : gateIsVacant s.gate = true) (core : FolioCore s.folio)
    (empty : folioEmpty s.folio = true) (closes : closesOk s.folio = true) (clock : clockOk s.clock = true)
    (cells : descramblerOk s.descrambler = true) : Bills (endClosing s) := by
  obtain ⟨_, _, _, timer, pendingFine⟩ := (stayOk_iff _).mp own
  have noTimer : s.stay.startTimer = none := by
    rw [closing] at timer
    exact Option.isSome_eq_false_iff.mp timer |> Option.isNone_iff_eq_none.mp
  have vacated : Bills (s.setStay { s.stay with
      room := .vacant, stay := 0, closureQueued := false, pendingCheckIn := none }) :=
    vacant_bills own ⟨rfl, rfl⟩ gate vacant core empty closes clock cells rfl rfl rfl rfl noTimer
  unfold endClosing
  dsimp only
  rw [emitSnapshot_stay, stayReport, report_stay, State.setStay_stay]
  cases pending : s.stay.pendingCheckIn with
  | none =>
    dsimp only
    exact (vacated.reported _).emitted
  | some p =>
    dsimp only
    have begins := vacated.emitted
    refine beginStay_bills ?_ (.inr rfl) (pendingFine p pending)
    refine begins.congr ?_ ?_ ?_ ?_ ?_
    · rfl
    · rfl
    · rfl
    · rfl
    · rfl

end
end Sys2Proof.Machine
end

section
/-! PROOFS. The billing laws and the posting queue, the minute, and the room's messages (sections 6.4, 7.2 to
7.8). -/

namespace Sys2Proof.Machine

section
variable {s t : State}

/-! ### An acknowledged record leaves the queue (R105) -/

/-- The books when the head record goes. -/
theorem FolioCore.acknowledged {f : Folio} (h : FolioCore f) {r : Record} {rest : List Record}
    (queue : f.queue = r :: rest) {seconds : Nat} (below : seconds ≤ 59) :
    FolioCore { f with queue := rest, snapshotSeconds := seconds } := by
  obtain ⟨next, follow⟩ := (serialsOk_iff f).mp h.serials
  have places := h.places
  rw [queue] at follow places
  rw [List.length_cons] at places
  refine ⟨h.eight, h.films, h.fine, h.tariffs, h.reserved, ?_, ?_, fun x mem => ?_, h.total, h.cap, h.quality,
    below, h.full⟩
  · show rest.length + boughtCount f.entries ≤ 10
    omega
  · exact (serialsOk_iff _).mpr ⟨next, ((serialsFollow_cons _ _ _).mp follow).2⟩
  · exact h.records x (by rw [queue]; exact List.mem_cons_of_mem _ mem)

theorem mem_dropLast_cons {α : Type} {a x : α} {l : List α} (mem : x ∈ l.dropLast) : x ∈ (a :: l).dropLast := by
  cases l with
  | nil => cases mem
  | cons b l => exact List.mem_cons_of_mem _ mem

/-- The state once the head record has left, before the place it held is taken. -/
def headGone (rest : List Record) (s : State) : State :=
  emitSnapshot (s.setFolio { s.folio with queue := rest })

theorem headGone_folio (rest : List Record) (s : State) :
    (headGone rest s).folio = { s.folio with queue := rest, snapshotSeconds := 0 } := rfl

theorem Bills.not_empty_room (h : Bills s) (queue : s.folio.queue ≠ []) :
    ¬(s.stay.room = .starting ∨ s.stay.room = .vacant) := fun room => by
  obtain ⟨_, _, _, empty⟩ := (roomOk_empty_iff room).mp h.laws.room
  exact queue ((folioEmpty_iff _).mp empty).2

theorem headGone_loose (h : Bills s) {r : Record} {rest : List Record} (queue : s.folio.queue = r :: rest)
    (kind : s.stay.room = .closing → isClosure r = false) : Loose (headGone rest s) := by
  obtain ⟨core, _⟩ := h.books
  have coreAfter : FolioCore (headGone rest s).folio := by
    rw [headGone_folio]
    exact core.acknowledged queue (Nat.zero_le _)
  have notEmpty := h.not_empty_room (by rw [queue]; nofun)
  refine ⟨h.laws.gate, h.laws.vacant, coreAfter, h.laws.closes, h.laws.reference, h.laws.stay, ?_, h.laws.clock,
    h.cells⟩
  cases room : s.stay.room with
  | starting => exact (notEmpty (.inl room)).elim
  | vacant => exact (notEmpty (.inr room)).elim
  | occupied =>
    obtain ⟨named, noClosure, noPending, plain, money⟩ := (roomOk_occupied_iff room).mp h.laws.room
    refine (roomOk_occupied_iff ?_).mpr ⟨named, noClosure, noPending, fun x mem => ?_, money⟩
    · exact room
    · exact plain x (by rw [queue]; exact List.mem_cons_of_mem _ mem)
  | closing =>
    obtain ⟨named, all, plain, queued, idle, cap⟩ := (roomOk_closing_iff room).mp h.laws.room
    rw [queue] at plain queued
    refine (roomOk_closing_iff ?_).mpr ⟨named, all, fun x mem => plain x (mem_dropLast_cons mem), ?_, idle, cap⟩
    · exact room
    · rw [List.any_cons, kind room, Bool.false_or] at queued
      exact queued

theorem acknowledged_bills (h : Bills s) {r : Record} {rest : List Record} (queue : s.folio.queue = r :: rest)
    (plain : isClosure r = false) : Bills (closureTest (settleWaiting (headGone rest s))) := by
  have loose := headGone_loose h queue fun _ => plain
  refine closureTest_bills ?_
  have tidy := settleWaiting_tidy (headGone rest s)
  have settled := settleWaiting_booksSettled (headGone rest s)
  by_cases shape : s.stay.room = .occupied ∨ (s.stay.room = .closing ∧ s.stay.closureQueued = false)
  · have descrambler := settleWaiting_descrambler (headGone rest s)
    exact loose.tidied tidy settled shape (tidy.reference loose.reference (by rw [descrambler]))
      (settleWaiting_gate _) (settleWaiting_stay _) (by rw [descrambler]; exact loose.cells)
  · have none_left (i : Nat) : entryAt (headGone rest s).folio i = none := by
      cases he : entryAt s.folio i with
      | none => exact he
      | some e => exact absurd ((h.room_of_entry he).imp_right fun ⟨room, open_, _⟩ => ⟨room, open_⟩) shape
    rw [settleWaiting_of_none (anySettling_of_empty none_left)]
    exact loose.settled (BooksSettled.of_empty none_left)

/-- The acknowledgement of the closure, the last record, ends the closing sequence. -/
theorem closed_bills (h : Bills s) {r : Record} {rest : List Record} (queue : s.folio.queue = r :: rest)
    (closure : isClosure r = true) : Bills (endClosing (settleWaiting (headGone rest s))) := by
  have notOccupied : s.stay.room ≠ .occupied := fun room => by
    have plain := (h.occupied room).1 r (by rw [queue]; exact List.mem_cons_self)
    rw [closure] at plain
    cases plain
  have notEmpty := h.not_empty_room (by rw [queue]; nofun)
  have room : s.stay.room = .closing := by
    cases room : s.stay.room <;> simp_all
  obtain ⟨_, _, plain, queued, _, _⟩ := (roomOk_closing_iff room).mp h.laws.room
  rw [queue] at plain queued
  rw [List.any_cons, closure, Bool.true_or] at queued
  have last : rest = [] := by
    cases rest with
    | nil => rfl
    | cons a rest =>
      have early := plain r List.mem_cons_self
      rw [closure] at early
      cases early
  have none_left : ∀ i, entryAt (headGone rest s).folio i = none := h.noneWaits room queued
  obtain ⟨core, _⟩ := h.books
  rw [settleWaiting_of_none (anySettling_of_empty none_left)]
  refine endClosing_bills h.laws.stay room h.laws.gate (h.laws.vacant notOccupied) ?_
    ((folioEmpty_iff _).mpr ⟨none_left, last⟩) h.laws.closes h.laws.clock h.cells
  rw [headGone_folio]
  exact core.acknowledged queue (Nat.zero_le _)

theorem acknowledgeRecord_bills (h : Bills s) (serial stay : Nat) : Bills (acknowledgeRecord serial stay s) := by
  unfold acknowledgeRecord
  cases queue : s.folio.queue with
  | nil => exact h
  | cons r rest =>
    dsimp only
    split
    swap
    · exact h
    split
    · rename_i kind
      exact closed_bills h queue ((isClosure_iff r).mpr kind)
    · rename_i kind
      exact acknowledged_bills h queue ((isClosure_eq_false r).mpr kind)

/-! ### The minute (R65, R86, R122 to R124) -/

theorem Bills.withClock (h : Bills s) {c : HouseClock} (ok : clockOk c = true) : Bills (s.setClock c) :=
  (Loose.settled ⟨h.laws.gate, h.laws.vacant, h.books.1, h.laws.closes, h.laws.reference, h.laws.stay,
    h.laws.room, ok, h.cells⟩ h.books.2)

theorem gateMinute_bills (h : Bills s) (minute : Nat) : Bills (gateMinute minute s) := by
  have ends {u : State} (hu : Bills u) : Bills (u.setGate { u.gate with unlockExpiry := none }) := by
    refine hu.withGate hu.laws.gate (fun room => ?_) rfl rfl rfl rfl
    obtain ⟨low, hard, pin, _, lockout, failures⟩ := (gateIsVacant_iff _).mp (hu.laws.vacant room)
    exact (gateIsVacant_iff _).mpr ⟨low, hard, pin, rfl, lockout, failures⟩
  have passes {u : State} (hu : Bills u) : Bills (u.setGate { u.gate with lockoutExpiry := none }) := by
    refine hu.withGate hu.laws.gate (fun room => ?_) rfl rfl rfl rfl
    obtain ⟨low, hard, pin, unlock, _, failures⟩ := (gateIsVacant_iff _).mp (hu.laws.vacant room)
    exact (gateIsVacant_iff _).mpr ⟨low, hard, pin, unlock, rfl, failures⟩
  unfold gateMinute
  dsimp only
  by_cases unlock : reached s.gate.unlockExpiry minute = true
  · rw [if_pos unlock]
    have ended := (ends h).reported (.lockState .unlockEnded (some .expired)
      (lockSummary { s.gate with unlockExpiry := none }))
    split
    · exact (passes ended).reported _
    · exact ended
  · rw [if_neg unlock]
    split
    · exact (passes h).reported _
    · exact h

theorem folioMinute_bills (h : Bills s) (minute : Nat) : Bills (folioMinute minute s) := by
  by_cases shape : s.stay.room = .occupied ∨ (s.stay.room = .closing ∧ s.stay.closureQueued = false)
  · have tidy := folioMinute_tidy minute s
    have changes := folioMinute_changes minute s
    have descrambler : (folioMinute minute s).descrambler = s.descrambler := changes .descrambler (by simp)
    exact h.tidied tidy (folioMinute_booksSettled minute h.books.2) shape
      (tidy.reference h.laws.reference (by rw [descrambler])) (changes .gate (by simp)) (changes .stay (by simp))
      (by rw [descrambler]; exact h.cells)
  · have idle : folioMinute minute s = s := folioMinute_of_idle fun e live => by
      obtain ⟨i, he⟩ := mem_liveEntries_entryAt.mp live
      exact absurd ((h.room_of_entry he).imp_right fun ⟨room, open_, _⟩ => ⟨room, open_⟩) shape
    rw [idle]
    exact h

theorem signalMinute_bills (h : Bills s) (folioFirst : Bool) : Bills (signalMinute folioFirst s) := by
  unfold signalMinute
  dsimp only
  split
  · exact gateMinute_bills (folioMinute_bills h _) _
  · exact folioMinute_bills (gateMinute_bills h _) _

theorem takeTime_bills (h : Bills s) (folioFirst : Bool) (minute : Nat) : Bills (takeTime folioFirst minute s) :=
  signalMinute_bills (h.withClock (by simp [clockOk])) folioFirst

theorem advanceMinute_bills (h : Bills s) (folioFirst : Bool) : Bills (advanceMinute folioFirst s) := by
  have clock := h.laws.clock
  simp only [clockOk, Bool.and_eq_true, decide_eq_true_eq] at clock
  obtain ⟨⟨minute, _⟩, _⟩ := clock
  unfold advanceMinute
  split
  swap
  · exact h
  rename_i set
  split
  · rename_i early
    refine signalMinute_bills (h.withClock ?_) folioFirst
    simp only [clockOk, set, Bool.true_or, Bool.and_true, Option.isSome_some, beq_self_eq_true,
      decide_eq_true_eq]
    exact early
  · refine h.withClock ?_
    simp only [clockOk, set, Bool.true_or, Bool.and_true, Option.isSome_some, beq_self_eq_true,
      decide_eq_true_eq]
    exact minute

/-! ### The room's messages (R109 to R118, R150) -/

theorem beNat_lt (bs : List Byte) : beNat bs < 256 ^ bs.length := by
  induction bs using List.reverseRecOn with
  | nil => exact Nat.one_pos
  | append_singleton bs b ih =>
    have byte : b.toNat < 256 := b.isLt
    rw [beNat_append_byte, List.length_append, List.length_singleton, Nat.pow_succ]
    omega

theorem field_lt (bs : List Byte) (first count : Nat) : field bs first count < 256 ^ count := by
  have bound := beNat_lt ((bs.drop (first - 1)).take count)
  exact Nat.lt_of_lt_of_le bound (Nat.pow_le_pow_right (by decide) (List.length_take_le _ _))

theorem pinOk_pinOf {digits : List Nat} (form : pinWellFormed true digits = true) : pinOk (pinOf digits) = true := by
  unfold pinOf
  cases digits with
  | nil => rfl
  | cons d digits =>
    simpa [pinWellFormed, pinOk] using form

end
end Sys2Proof.Machine
end

section
/-! PROOFS. The billing laws and a RESTORE that passes its checks (R175 to R177, R180). -/

namespace Sys2Proof.Machine

/-! ### The fields of a snapshot body -/

theorem byteAt_le (bs : List Byte) (i : Nat) : byteAt bs i ≤ 255 := Nat.le_of_lt_succ (bs.getD (i - 1) 0).isLt

theorem parseSnapEntry_range (bs : List Byte) : (parseSnapEntry bs).clear ≤ 65535 ∧
    (parseSnapEntry bs).impaired ≤ 65535 ∧ (parseSnapEntry bs).windowEnd ≤ 16777215 :=
  ⟨Nat.le_of_lt_succ (field_lt bs 6 2), Nat.le_of_lt_succ (field_lt bs 8 2),
    Nat.le_of_lt_succ (field_lt bs 10 3)⟩

theorem parseSnapRecord_range (bs : List Byte) : (parseSnapRecord bs).serial ≤ 65535 ∧
    (parseSnapRecord bs).kind ≤ 3 ∧ (parseSnapRecord bs).film ≤ 4095 ∧ (parseSnapRecord bs).amount ≤ 16777215 ∧
    (parseSnapRecord bs).minute ≤ 16777215 := by
  refine ⟨Nat.le_of_lt_succ (field_lt bs 1 2), ?_, ?_, Nat.le_of_lt_succ (field_lt bs 5 3),
    Nat.le_of_lt_succ (field_lt bs 8 3)⟩
  · have byte := byteAt_le bs 3
    show byteAt bs 3 / 64 ≤ 3
    omega
  · show field bs 3 2 % 4096 ≤ 4095
    omega

/-- What the layout of a snapshot body makes of its fields. -/
structure Snapshot.InRange (x : Snapshot) : Prop where
  stay : x.stay ≤ 65535
  entries : ∀ e, e ∈ x.entries → e.clear ≤ 65535 ∧ e.impaired ≤ 65535 ∧ e.windowEnd ≤ 16777215
  records : ∀ r, r ∈ x.records → r.serial ≤ 65535 ∧ r.kind ≤ 3 ∧ r.film ≤ 4095 ∧ r.amount ≤ 16777215 ∧
    r.minute ≤ 16777215

theorem parseSnapshot_inRange (bs : List Byte) : (parseSnapshot bs).InRange := by
  refine ⟨Nat.le_of_lt_succ (field_lt bs 1 2), fun e mem => ?_, fun r mem => ?_⟩
  · obtain ⟨_, _, rfl⟩ := List.mem_map.mp mem
    exact parseSnapEntry_range _
  · obtain ⟨_, _, rfl⟩ := List.mem_map.mp mem
    exact parseSnapRecord_range _

/-! ### The checks (R175, R180) -/

/-- A snapshot that passes the checks of its contents and its laws. -/
structure Snapshot.Fit (x : Snapshot) : Prop where
  stay : x.stay ≠ 0
  eight : x.entries.length ≤ 8
  pin : pinWellFormed true x.digits = true
  entries : ∀ e, e ∈ x.entries → (1 ≤ e.state ∧ e.state ≤ 3) ∧ (1 ≤ e.film ∧ e.film ≤ 4095) ∧ e.price ≤ 60000
  films : (x.entries.map (·.film)).Nodup
  total : x.total ≤ 9999999
  records : ∀ r, r ∈ x.records → r.kind ≠ 0 ∧ 1 ≤ r.serial ∧ (if r.kind = 3 then r.film = 0 else r.film ≠ 0)
  next : 1 ≤ x.nextSerial ∧ x.nextSerial ≤ 65535
  serials : serialsFollow (x.records.map (·.serial)) x.nextSerial = true
  closureLast : ∀ r, r ∈ x.records.dropLast → r.kind ≠ 3
  closureMark : x.closing ≠ 1 → ∀ r, r ∈ x.records → r.kind ≠ 3
  places : x.records.length + (snapBought x).length ≤ 10
  money : x.total + ((snapBought x).map (·.price)).sum ≤ min x.cap 9999999

theorem fit_of_restoreCause {room : RoomState} {body : List Byte} (passed : restoreCause room body = none) :
    room = .starting ∧ (parseSnapshot body).Fit := by
  unfold restoreCause at passed
  dsimp only at passed
  split_ifs at passed with starting check stay large content places money
  refine ⟨not_not.mp starting, ?_⟩
  simp only [Bool.not_eq_true', Bool.not_eq_false, contentOk, closureOk, Bool.and_eq_true,
    decide_eq_true_eq, List.all_eq_true, bne_iff_ne, Bool.or_eq_true, beq_iff_eq, and_assoc] at content
  obtain ⟨_, pin, entries, films, total, records, low, high, serials, last, mark, _⟩ := content
  refine ⟨stay, by omega, pin, fun e mem => ?_, films, total, fun r mem => ?_, ⟨low, high⟩, serials, last,
    fun open_ => mark.resolve_left open_, by omega, Nat.not_lt.mp money⟩
  · have fine := entries e mem
    simp only [snapEntryOk, Bool.and_eq_true, decide_eq_true_eq, validFilm_iff] at fine
    obtain ⟨⟨⟨low, high⟩, film⟩, price⟩ := fine
    exact ⟨⟨low, high⟩, film, price⟩
  · have fine := records r mem
    simp only [snapRecordOk, Bool.and_eq_true, decide_eq_true_eq, bne_iff_ne, beq_iff_eq] at fine
    obtain ⟨⟨⟨kind, _⟩, serial⟩, film⟩ := fine
    refine ⟨kind, serial, ?_⟩
    split_ifs at film ⊢ <;> simpa using film

/-! ### The entitlements and records as restored (R176) -/

section
variable {x : Snapshot} {second allowance quality : Nat}

theorem liveEntries_restoredTable (es : List SnapEntry) :
    liveEntries (restoredTable second allowance quality es) = es.map (restoredEntry second allowance quality) := by
  have none_live (n : Nat) : (List.replicate n (none : Option Entry)).filterMap id = [] := by simp
  rw [liveEntries, restoredTable, List.filterMap_append, none_live, List.append_nil]
  simp

theorem entryStateOf_eq_bought (code : Nat) : entryStateOf code = .bought ↔ code = 1 := by
  unfold entryStateOf
  split <;> simp_all

theorem restoredEntry_state (e : SnapEntry) :
    (restoredEntry second allowance quality e).state = entryStateOf e.state := rfl

theorem boughtCount_restoredTable (es : List SnapEntry) :
    boughtCount (restoredTable second allowance quality es) = (es.filter fun e => e.state == 1).length := by
  rw [boughtCount, liveEntries_restoredTable, List.countP_map, List.countP_eq_length_filter]
  congr 2
  funext e
  have same := entryStateOf_eq_bought e.state
  simp only [Function.comp, restoredEntry_state]
  by_cases one : e.state = 1 <;> simp_all

theorem boughtSum_restoredTable (es : List SnapEntry) :
    boughtSum (restoredTable second allowance quality es) =
      ((es.filter fun e => e.state == 1).map (·.price)).sum := by
  rw [boughtSum_eq, tableSum_eq, liveEntries_restoredTable, List.map_map]
  induction es with
  | nil => rfl
  | cons e es ih =>
    have same := entryStateOf_eq_bought e.state
    by_cases one : e.state = 1
    · have price : boughtPrice (restoredEntry second allowance quality e) = e.price := by
        simp [boughtPrice, same.mpr one, restoredEntry]
      simp [one, ih, price]
    · have price : boughtPrice (restoredEntry second allowance quality e) = 0 := by
        simp [boughtPrice, restoredEntry_state, mt same.mp one]
      simp [one, ih, price]

theorem restoredEntry_fine (fit : x.Fit) (range : x.InRange) (allowed : allowance ≤ 600) {e : SnapEntry}
    (mem : e ∈ x.entries) : EntryFine (restoredEntry second allowance quality e) := by
  obtain ⟨_, film, price⟩ := fit.entries e mem
  obtain ⟨clear, impaired, window⟩ := range.entries e mem
  refine ⟨film, allowed, clear, impaired, price, window, ?_⟩
  unfold fieldsByState restoredEntry
  cases state : entryStateOf e.state with
  | preview =>
    unfold entryStateOf at state
    split at state <;> cases state
  | bought => exact ⟨rfl, rfl, rfl⟩
  | charged => exact ⟨rfl, rfl, rfl⟩
  | settling => exact ⟨rfl, rfl, creditAmount_le ..⟩

theorem recordKindOf_eq_stayClosed {code : Nat} (coded : code ≠ 0 ∧ code ≤ 3) :
    recordKindOf code = .stayClosed ↔ code = 3 := by
  obtain ⟨zero, three⟩ := coded
  match code with
  | 0 => exact absurd rfl zero
  | 1 => decide
  | 2 => decide
  | 3 => decide

theorem restoredRecord_ok (fit : x.Fit) (range : x.InRange) {r : SnapRecord} (mem : r ∈ x.records) :
    recordOk (restoredRecord r) = true := by
  obtain ⟨kind, serial, film⟩ := fit.records r mem
  obtain ⟨high, three, twelve, amount, minute⟩ := range.records r mem
  refine (recordOk_iff _).mpr ⟨⟨serial, high⟩, amount, minute, ?_⟩
  have same := recordKindOf_eq_stayClosed ⟨kind, three⟩
  show if recordKindOf r.kind = .stayClosed then r.film = 0 else 1 ≤ r.film ∧ r.film ≤ 4095
  by_cases closure : r.kind = 3
  · rw [if_pos closure] at film
    rw [if_pos (same.mpr closure)]
    exact film
  · rw [if_neg closure] at film
    rw [if_neg (mt same.mp closure)]
    exact ⟨Nat.one_le_iff_ne_zero.mpr film, twelve⟩

theorem isClosure_restoredRecord (fit : x.Fit) (range : x.InRange) {r : SnapRecord} (mem : r ∈ x.records) :
    isClosure (restoredRecord r) = true ↔ r.kind = 3 := by
  rw [isClosure_iff]
  exact recordKindOf_eq_stayClosed ⟨(fit.records r mem).1, (range.records r mem).2.1⟩

theorem restoredTable_answered (es : List SnapEntry) :
    tableSum answeredOne (restoredTable second allowance quality es) = 0 := by
  rw [tableSum_eq, liveEntries_restoredTable, List.sum_eq_zero_iff]
  intro n mem
  rw [List.map_map] at mem
  obtain ⟨e, _, rfl⟩ := List.mem_map.mp mem
  rfl

/-- The books as restored, but for the settlement of what waits. -/
theorem restoreFolio_core (fit : x.Fit) (range : x.InRange) (allowed : allowance ≤ 600) {f : Folio}
    (core : FolioCore f) : FolioCore (restoreFolio x allowance f) := by
  have live : liveEntries (restoreFolio x allowance f).entries =
      x.entries.map (restoredEntry f.feedSecond allowance (clampTo 1 100 x.quality)) :=
    liveEntries_restoredTable _
  have count : boughtCount (restoreFolio x allowance f).entries = (snapBought x).length :=
    boughtCount_restoredTable _
  have eight := fit.eight
  refine ⟨?_, ?_, fun i e he => ?_, core.tariffs, rfl, ?_, (serialsOk_iff _).mpr ⟨fit.next, ?_⟩, fun r mem => ?_,
    fit.total, Nat.min_le_right _ _, clampTo_range (by decide) _, core.seconds, core.full⟩
  · show (restoredTable _ _ _ x.entries).length = 8
    rw [restoredTable, List.length_append, List.length_map, List.length_replicate]
    omega
  · rw [live, List.map_map]
    exact fit.films
  · have mem := mem_liveEntries_entryAt.mpr ⟨i, he⟩
    rw [live] at mem
    obtain ⟨e', mem', rfl⟩ := List.mem_map.mp mem
    exact restoredEntry_fine fit range allowed mem'
  · rw [count]
    show (x.records.map restoredRecord).length + (snapBought x).length ≤ 10
    rw [List.length_map]
    exact fit.places
  · show serialsFollow ((x.records.map restoredRecord).map (·.serial)) x.nextSerial = true
    rw [List.map_map]
    exact fit.serials
  · obtain ⟨r', mem', rfl⟩ := List.mem_map.mp mem
    exact restoredRecord_ok fit range mem'

end
end Sys2Proof.Machine
end

section
/-! PROOFS. Every step keeps the billing laws: RESTORE, the messages of the desk, and all the commands
together. -/

namespace Sys2Proof.Machine

section
variable {s t : State}

/-! ### RESTORE accepted (R176, R177) -/

/-- The room as restored, before what waits is settled. -/
def placed (x : Snapshot) (s : State) : State :=
  let s1 := gateBegin (restoreParams x) (openStay (restoreParams x) s)
  s1.setFolio (restoreFolio x s1.stay.previewAllowance s1.folio)

theorem placed_gate (x : Snapshot) (s : State) : (placed x s).gate = gateOfStay (restoreParams x) := rfl

theorem placed_stay (x : Snapshot) (s : State) : (placed x s).stay = { s.stay with
    room := .occupied, stay := x.stay, previewAllowance := min x.previewAllowance 600
    grace := min x.grace 900, startTimer := none } := rfl

theorem placed_folio (x : Snapshot) (s : State) :
    (placed x s).folio = restoreFolio x (min x.previewAllowance 600) s.folio := rfl

/-- A restored closure is marked as queued (R176, step 6). -/
def markClosure (s : State) : State :=
  if s.folio.queue.any isClosure then s.setStay { s.stay with closureQueued := true } else s

theorem restoreBlocks_eq (x : Snapshot) (s : State) :
    restoreBlocks x s = markClosure (settleWaiting (placed x s)) := by
  simp only [restoreBlocks, placed, markClosure]
  rfl

variable {x : Snapshot}

/-- The laws of the room as restored, but for the settlement of what waits, and for the place of a closure. -/
theorem placed_books (h : Bills s) (fit : x.Fit) (range : x.InRange) : FolioCore (placed x s).folio ∧
    gateOk (placed x s).gate = true ∧ referenceOk (placed x s) = true ∧
    (s.stay.pendingCheckIn = none → stayOk (placed x s).stay = true) ∧
    (placed x s).folio.total + (placed x s).folio.reserved ≤ (placed x s).folio.cap := by
  refine ⟨?_, ?_, ?_, fun noPending => ?_, ?_⟩
  · rw [placed_folio]
    exact restoreFolio_core fit range (Nat.min_le_right _ _) h.books.1
  · rw [placed_gate]
    exact gateOfStay_ok (pinOk_pinOf fit.pin)
  · rw [referenceOk_iff, placed_folio]
    exact Nat.le_trans (Nat.le_of_eq (restoredTable_answered _)) (Nat.zero_le _)
  · rw [placed_stay]
    refine (stayOk_iff _).mpr ⟨range.stay, Nat.min_le_right _ _, Nat.min_le_right _ _, rfl, ?_⟩
    rw [noPending]
    nofun
  · rw [placed_folio]
    show x.total + boughtSum (restoredTable _ _ _ x.entries) ≤ min x.cap maxTotal
    rw [boughtSum_restoredTable]
    exact fit.money

theorem mem_placed_queue {r : Record} (mem : r ∈ (placed x s).folio.queue) :
    ∃ r', r' ∈ x.records ∧ restoredRecord r' = r := by
  rw [placed_folio] at mem
  exact List.mem_map.mp mem

/-- With no closure among the records the stay is restored, settled, as one in progress. -/
theorem restoreBlocks_bills (h : Bills s) (room : s.stay.room = .starting) (fit : x.Fit) (range : x.InRange)
    (noClosure : ∀ r, r ∈ x.records → r.kind ≠ 3) :
    Bills (restoreBlocks x s) ∧ (restoreBlocks x s).stay.room = .occupied := by
  obtain ⟨_, open_, noPending, _⟩ := (roomOk_empty_iff (.inl room)).mp h.laws.room
  obtain ⟨core, gate, reference, own, money⟩ := placed_books h fit range
  have plain : ∀ r, r ∈ (placed x s).folio.queue → isClosure r = false := fun r mem => by
    obtain ⟨r', mem', rfl⟩ := mem_placed_queue mem
    rw [Bool.eq_false_iff]
    exact mt (isClosure_restoredRecord fit range mem').mp (noClosure r' mem')
  have occupied : (placed x s).stay.room = .occupied := by rw [placed_stay]
  have loose : Loose (placed x s) := by
    refine ⟨gate, absurd occupied, core, h.laws.closes, reference, own noPending, ?_, h.laws.clock, h.cells⟩
    rw [roomOk_occupied_iff occupied, placed_stay]
    exact ⟨fit.stay, open_, noPending, plain, money⟩
  have tidy := settleWaiting_tidy (placed x s)
  have descrambler := settleWaiting_descrambler (placed x s)
  have settled : Bills (settleWaiting (placed x s)) :=
    loose.tidied tidy (settleWaiting_booksSettled _) (.inl occupied)
      (tidy.reference reference (by rw [descrambler])) (settleWaiting_gate _) (settleWaiting_stay _)
      (by rw [descrambler]; exact loose.cells)
  have none_closes : ¬(settleWaiting (placed x s)).folio.queue.any isClosure = true := by
    rw [List.any_eq_true]
    rintro ⟨r, mem, closure⟩
    rw [tidy.plain plain r mem] at closure
    cases closure
  rw [restoreBlocks_eq, markClosure, if_neg none_closes, settleWaiting_stay]
  exact ⟨settled, occupied⟩

theorem leaveTable_of_empty (empty : ∀ i, entryAt s.folio i = none) : leaveTable s = s := by
  have idle : overPlaces leavePlace s = s :=
    overPlaces_induct (P := fun t => t = s) leavePlace s rfl fun i t _ same => by
      subst same
      simp only [leavePlace, empty i]
  rw [leaveTable, idle, settleWaiting_of_none (anySettling_of_empty empty)]

/-- With the closure among the records the room is left closing, with no films. -/
theorem closingRestored_bills (h : Bills s) (room : s.stay.room = .starting) (fit : x.Fit) (range : x.InRange)
    (none_held : x.entries = []) {r : SnapRecord} (mem : r ∈ x.records) (kind : r.kind = 3) :
    Bills (closeStay (restoreBlocks x s)) := by
  obtain ⟨_, _, noPending, _⟩ := (roomOk_empty_iff (.inl room)).mp h.laws.room
  obtain ⟨core, gate, reference, own, money⟩ := placed_books h fit range
  have live : liveEntries (placed x s).folio.entries = [] := by
    rw [placed_folio]
    exact (liveEntries_restoredTable x.entries).trans (by rw [none_held]; rfl)
  have empty (i : Nat) : entryAt (placed x s).folio i = none := by
    cases he : entryAt (placed x s).folio i with
    | none => rfl
    | some e =>
      have held := mem_liveEntries_entryAt.mpr ⟨i, he⟩
      rw [live] at held
      cases held
  have closure : (placed x s).folio.queue.any isClosure = true :=
    List.any_eq_true.mpr ⟨restoredRecord r, List.mem_map.mpr ⟨r, mem, rfl⟩,
      (isClosure_restoredRecord fit range mem).mpr kind⟩
  have blocks : restoreBlocks x s = (placed x s).setStay { (placed x s).stay with closureQueued := true } := by
    rw [restoreBlocks_eq, settleWaiting_of_none (anySettling_of_empty empty), markClosure, if_pos closure]
  have left : closeStay (restoreBlocks x s) = leaving (restoreBlocks x s) := by
    rw [closeStay_leaving, leaveTable_of_empty (by rw [blocks]; exact empty), closureTest]
    have notDue : closureDue (leaving (restoreBlocks x s)) = false := by
      rw [blocks]
      rfl
    rw [notDue]
    rfl
  rw [left, blocks]
  obtain ⟨gateFine, vacant⟩ := gateVacated_ok gate
  obtain ⟨number, allowance, grace, _, pending⟩ := (stayOk_iff _).mp (own noPending)
  have lastClosure : ∀ r, r ∈ (placed x s).folio.queue.dropLast → isClosure r = false := fun r mem => by
    rw [placed_folio] at mem
    change r ∈ (x.records.map restoredRecord).dropLast at mem
    rw [← List.map_dropLast] at mem
    obtain ⟨r', mem', rfl⟩ := List.mem_map.mp mem
    rw [Bool.eq_false_iff]
    exact mt (isClosure_restoredRecord fit range (List.dropLast_subset _ mem')).mp (fit.closureLast r' mem')
  refine Loose.settled ⟨gateFine, fun _ => vacant, core, h.laws.closes, reference, ?_, ?_, h.laws.clock, h.cells⟩
    (BooksSettled.of_empty empty)
  · exact (stayOk_iff _).mpr ⟨number, allowance, grace, rfl, pending⟩
  · refine (roomOk_closing_iff ?_).mpr ⟨fit.stay, ?_, lastClosure, closure.symm,
      fun _ => anySettling_of_empty empty, Nat.le_trans (Nat.le_add_right _ _) money⟩
    · rfl
    · show ∀ e, e ∈ liveEntries (placed x s).folio.entries → e.state = .settling
      rw [live]
      nofun

theorem acceptRestore_bills (h : Bills s) (room : s.stay.room = .starting) (fit : x.Fit) (range : x.InRange)
    (sound : x.entries = [] ∨ ∀ r, r ∈ x.records → r.kind ≠ 3) : Bills (acceptRestore x s) := by
  have restored : Bills (if x.closing = 1 then closeStay (restoreBlocks x s) else restoreBlocks x s) := by
    by_cases closures : ∃ r, r ∈ x.records ∧ r.kind = 3
    · obtain ⟨r, mem, kind⟩ := closures
      have none_held := sound.resolve_right fun none_closes => none_closes r mem kind
      have closing : x.closing = 1 := by
        by_contra open_
        exact fit.closureMark open_ r mem kind
      rw [if_pos closing]
      exact closingRestored_bills h room fit range none_held mem kind
    · obtain ⟨blocks, occupied⟩ := restoreBlocks_bills h room fit range fun r mem kind => closures ⟨r, mem, kind⟩
      split
      · exact closeStay_bills blocks occupied
      · exact blocks
  exact (restored.reported _).emitted

theorem execRestore_bills (h : Bills s) (sound : restoreSound s = true) :
    Bills (serveRequest 0x11 serveRestore s) := by
  refine serveRequest_induct (P := Bills) 0x11 serveRestore s h (fun f held _ => ?_)
    fun f _ => (h.frameTaken f).answered f _ _
  have taken := h.frameTaken f
  unfold serveRestore
  cases cause : restoreCause (takeFrame f s).stay.room f.body with
  | some cause => exact taken.answered f _ _
  | none =>
    obtain ⟨room, fit⟩ := fit_of_restoreCause cause
    simp only [restoreSound, held, Bool.or_eq_true, List.isEmpty_iff, List.all_eq_true, bne_iff_ne] at sound
    exact (acceptRestore_bills taken room fit (parseSnapshot_inRange _) sound).answered f _ _

/-! ### The messages of the desk (R149 to R156) -/

theorem kind_of_guestStatus {m : InboxMessage} {checkIn now : Bool} {p : StayParams}
    (parsed : parseDesk m = some (.guestStatus checkIn now p)) : byteAt m.body 1 = 0x10 := by
  by_contra kind
  unfold parseDesk at parsed
  dsimp only at parsed
  split at parsed
  · exact kind ‹_›
  any_goals split_ifs at parsed
  all_goals cases parsed

/-- The stay parameters of a GUEST_STATUS that passed the form check. -/
theorem guestStatus_range {m : InboxMessage} {checkIn now : Bool} {p : StayParams}
    (parsed : parseDesk m = some (.guestStatus checkIn now p)) : p.stay ≤ 65535 ∧ pinOk p.pin = true := by
  rw [parseDesk_guestStatus (kind_of_guestStatus parsed)] at parsed
  split_ifs at parsed with form none_given
  · cases parsed
    exact ⟨Nat.le_of_lt_succ (field_lt m.body 4 2), rfl⟩
  · obtain ⟨_, _, _, count, length, digits⟩ := form
    cases parsed
    refine ⟨Nat.le_of_lt_succ (field_lt m.body 4 2), ?_⟩
    have given : ((m.body.drop 18).map (·.toNat)).length = byteAt m.body 18 := by
      rw [List.length_map, List.length_drop, length, Nat.add_sub_cancel_left]
    have some_given : 0 < ((m.body.drop 18).map (·.toNat)).length := List.length_pos_iff.mpr none_given
    simp only [pinOk, pinWellFormed, Bool.false_and, Bool.false_or, Bool.and_eq_true, decide_eq_true_eq,
      List.all_eq_true]
    exact ⟨by omega, digits⟩

theorem parseDesk_of_nextMessage {ix : BufferIx} {m : InboxMessage} {d : DeskMessage}
    (next : nextMessage s = some (ix, m, some d)) : parseDesk m = some d := by
  unfold nextMessage at next
  split at next
  · simp only [Option.some.injEq, Prod.mk.injEq] at next
    obtain ⟨_, rfl, parsed⟩ := next
    exact parsed
  · cases next

theorem takeCheckIn_bills (h : Bills s) {p : StayParams} (range : p.stay ≤ 65535 ∧ pinOk p.pin = true) :
    Bills (takeCheckIn p s) := by
  unfold takeCheckIn
  split
  · exact h.reported _
  rename_i named
  have names : namesStay p := ⟨named, range⟩
  cases room : s.stay.room with
  | starting => exact beginStay_bills h (.inl room) names
  | vacant => exact beginStay_bills h (.inr room) names
  | occupied =>
    dsimp only
    split
    · exact updateStay_bills h room range.2
    · exact changeOver_bills h room names
  | closing =>
    dsimp only
    split
    · exact h.reported _
    · exact (heldCheckIn_bills h room names).reported _

theorem takeCheckOut_bills (h : Bills s) : Bills (takeCheckOut s) := by
  unfold takeCheckOut
  cases room : s.stay.room with
  | starting => exact checkOutStarting_bills h room
  | vacant => exact h.reported _
  | occupied => exact checkOutOccupied_bills h room
  | closing => exact h

/-! ### All the commands -/

/-- Every command keeps the billing laws, a RESTORE that is sound among them. -/
theorem exec_bills {c : Instr} (h : Bills s) (sound : c = .restore → restoreSound s = true)
    (next : exec c s = .next t) : Bills t := by
  have other (apart : .gate ∉ footprint c ∧ .folio ∉ footprint c ∧ .stay ∉ footprint c ∧
      .clock ∉ footprint c ∧ .descrambler ∉ footprint c) : Bills t :=
    h.agreed (fun b outside => exec_agree next b outside) apart
  cases c with
  | powerOnReset a b =>
    rw [stateAfter_of_exec next]
    have reset : Bills State.reset := ⟨(billingOk_iff _).mp (by decide), by decide⟩
    exact reset.congr rfl rfl rfl rfl rfl
  | feedByte b => exact stateAfter_of_exec next ▸ trackByte_bills b h
  | frameMark fslt => exact stateAfter_of_exec next ▸ trackFrameMark_bills h
  | cellArrival =>
    obtain e | ⟨first, rest, queued, idle, _, _, e⟩ := execCellArrival_cases s <;>
      rw [← Host.Outcome.next.inj (e.symm.trans next)]
    · exact h
    · exact arrive_bills h queued idle
  | cellVerdict order => exact cellVerdict_bills order h next
  | feedSecondClose => exact feedSecondClose_bills h next
  | purchase => exact stateAfter_of_exec next ▸ h.requested 0x05 servePurchase_bills
  | cancel => exact stateAfter_of_exec next ▸ h.requested 0x06 serveCancel_bills
  | unlock => exact stateAfter_of_exec next ▸ h.requested 0x08 serveUnlock_bills
  | relock => exact stateAfter_of_exec next ▸ h.requested 0x09 serveRelock_bills
  | setPin => exact stateAfter_of_exec next ▸ h.requested 0x0A serveSetPin_bills
  | setCeiling => exact stateAfter_of_exec next ▸ h.requested 0x0B serveSetCeiling_bills
  | restore => exact stateAfter_of_exec next ▸ execRestore_bills h (sound rfl)
  | softReset => exact stateAfter_of_exec next ▸ h.requested 0x12 serveSoftReset_bills
  | dataAckReceived =>
    obtain ⟨u, v, before, acts, after⟩ := dataAckReceived_acts next
    have begun : Bills u := h.agreed before (by simp)
    refine Bills.agreed (s := v) ?_ after (by simp)
    rcases acts with rfl | ⟨serial, stay, rfl⟩
    · exact begun
    · exact acknowledgeRecord_bills begun serial stay
  | checkIn =>
    refine stateAfter_of_exec next ▸ h.messaged fun ix m d act message chosen => ?_
    split at chosen <;> cases chosen
    exact takeCheckIn_bills h (guestStatus_range (parseDesk_of_nextMessage message))
  | checkOut =>
    refine stateAfter_of_exec next ▸ h.messaged fun ix m d act message chosen => ?_
    split at chosen <;> cases chosen
    exact takeCheckOut_bills h
  | vacateNow =>
    refine stateAfter_of_exec next ▸ h.messaged fun ix m d act message chosen => ?_
    split at chosen <;> cases chosen
    exact takeVacate_bills h
  | tariffSet =>
    refine stateAfter_of_exec next ▸ h.messaged fun ix m d act message chosen => ?_
    split at chosen <;> cases chosen
    exact takeTariff_bills h _ _ _ _
  | tariffRemove =>
    refine stateAfter_of_exec next ▸ h.messaged fun ix m d act message chosen => ?_
    split at chosen <;> cases chosen
    exact removeTariff_bills h _
  | time folioFirst =>
    refine stateAfter_of_exec next ▸ h.messaged fun ix m d act message chosen => ?_
    split at chosen <;> cases chosen
    exact takeTime_bills h folioFirst _
  | minuteAdvance folioFirst => exact stateAfter_of_exec next ▸ advanceMinute_bills h folioFirst
  | startTimeout => exact stateAfter_of_exec next ▸ startTimeout_bills h
  | _ => exact other (by simp [footprint])

end

/-- Settles O8: each command that touches a block of the billing keeps the laws (`exec_bills`), and the others
leave those blocks as they are. -/
theorem everyStepKeepsTheBillingLaws : Obligations.everyStepKeepsTheBillingLaws := by
  intro s t billing cells sound next
  have h : Bills s := ⟨(billingOk_iff s).mp billing, cells⟩
  cases pending : s.pending with
  | nil =>
    rw [step_of_idle pending] at next
    cases next
    exact ⟨billing, cells⟩
  | cons c rest =>
    rw [step_of_pending pending] at next
    have begun : Bills { s with pending := rest } := h.congr rfl rfl rfl rfl rfl
    have after := exec_bills begun (fun isRestore => sound rest (by rw [pending, isRestore])) next
    exact ⟨(billingOk_iff t).mpr after.laws, after.cells⟩

end Sys2Proof.Machine
end

section
/-! PROOFS. RESTORE's seven checks in their order, and that a snapshot the part emits passes them (R174,
R175, R180). -/

namespace Sys2Proof.Machine

/-! ### The form of the contents (R175, check 5, and R180) -/

/-- Serials follow one another when after each place comes the serial after it, the next serial last. -/
theorem serialsFollow_iff (serials : List Nat) (next : Nat) : serialsFollow serials next = true ↔
    ∀ (i : Nat) a, serials[i]? = some a → (serials ++ [next])[i + 1]? = some (serialAfter a) := by
  induction serials with
  | nil => simp [serialsFollow_nil]
  | cons a serials ih =>
    rw [serialsFollow_cons, ih]
    constructor
    · rintro ⟨first, later⟩ i b there
      cases i with
      | zero =>
        cases there
        rw [List.cons_append, List.getElem?_cons_succ, ← List.head?_eq_getElem?]
        exact first
      | succ i => exact later i b there
    · intro all
      refine ⟨?_, fun i b there => all (i + 1) b there⟩
      have first := all 0 a rfl
      rwa [List.cons_append, List.getElem?_cons_succ, ← List.head?_eq_getElem?] at first

theorem mem_dropLast_iff {α : Type} {l : List α} {a : α} :
    a ∈ l.dropLast ↔ ∃ i : Nat, i + 1 < l.length ∧ l[i]? = some a := by
  rw [List.mem_iff_getElem?]
  constructor
  · rintro ⟨i, there⟩
    rw [List.getElem?_dropLast] at there
    split_ifs at there with early
    exact ⟨i, by omega, there⟩
  · rintro ⟨i, early, there⟩
    refine ⟨i, ?_⟩
    rw [List.getElem?_dropLast, if_pos (by omega)]
    exact there

theorem closureOk_iff (x : Snapshot) : closureOk x = true ↔ ∀ (i : Nat) r, x.records[i]? = some r →
    r.kind = 3 → i + 1 = x.records.length ∧ x.closing = 1 := by
  simp only [closureOk, Bool.and_eq_true, List.all_eq_true, bne_iff_ne, Bool.or_eq_true, beq_iff_eq]
  constructor
  · rintro ⟨last, mark⟩ i r there kind
    have within := (List.getElem?_eq_some_iff.mp there).1
    refine ⟨?_, mark.resolve_right fun none_closes => none_closes r (List.mem_of_getElem? there) kind⟩
    by_contra early
    exact last r (mem_dropLast_iff.mpr ⟨i, by omega, there⟩) kind
  · intro all
    refine ⟨fun r mem kind => ?_, ?_⟩
    · obtain ⟨i, early, there⟩ := mem_dropLast_iff.mp mem
      have last := (all i r there kind).1
      omega
    · by_cases closes : ∃ r, r ∈ x.records ∧ r.kind = 3
      · obtain ⟨r, mem, kind⟩ := closes
        obtain ⟨i, there⟩ := List.getElem?_of_mem mem
        exact .inl (all i r there kind).2
      · exact .inr fun r mem kind => closes ⟨r, mem, kind⟩

theorem snapEntryOk_iff (e : SnapEntry) : snapEntryOk e = true ↔
    1 ≤ e.state ∧ e.state ≤ 3 ∧ 1 ≤ e.film ∧ e.film ≤ 4095 ∧ e.price ≤ 60000 := by
  simp [snapEntryOk, validFilm, and_assoc]

theorem snapRecordOk_iff (r : SnapRecord) : snapRecordOk r = true ↔
    r.kind ≠ 0 ∧ r.spare = 0 ∧ 1 ≤ r.serial ∧ (r.kind = 3 ↔ r.film = 0) := by
  simp only [snapRecordOk, Bool.and_eq_true, bne_iff_ne, beq_iff_eq, decide_eq_true_eq, and_assoc]
  by_cases closure : r.kind = 3 <;> simp [closure]

/-- The contents' form as R175 and R180 list it. -/
structure Formed (x : Snapshot) : Prop where
  mark : x.closing ≤ 1
  digits : pinWellFormed true x.digits = true
  entries : ∀ e, e ∈ x.entries → snapEntryOk e = true
  films : (x.entries.map (·.film)).Nodup
  total : x.total ≤ 9999999
  records : ∀ r, r ∈ x.records → snapRecordOk r = true
  next : 1 ≤ x.nextSerial ∧ x.nextSerial ≤ 65535
  serials : serialsFollow (x.records.map (·.serial)) x.nextSerial = true
  closure : closureOk x = true
  settling : x.closing = 1 → ∀ e, e ∈ x.entries → e.state = 3

theorem contentOk_iff (x : Snapshot) : contentOk x = true ↔ Formed x := by
  simp only [contentOk, Bool.and_eq_true, decide_eq_true_eq, List.all_eq_true, Bool.or_eq_true, beq_iff_eq,
    and_assoc]
  constructor
  · rintro ⟨mark, digits, entries, films, total, records, low, high, serials, closure, settling⟩
    refine ⟨mark, digits, entries, films, total, records, ⟨low, high⟩, serials, closure, fun closing => ?_⟩
    exact settling.resolve_left (by omega)
  · intro h
    refine ⟨h.mark, h.digits, h.entries, h.films, h.total, h.records, h.next.1, h.next.2, h.serials, h.closure, ?_⟩
    have mark := h.mark
    by_cases closing : x.closing = 1
    · exact .inr (h.settling closing)
    · exact .inl (by omega)

/-! ### A snapshot the part emits (R174) -/

section
variable {s : State}

theorem snapBought_snapshotOf (s : State) : snapBought (snapshotOf s) =
    ((liveEntries s.folio.entries).filter fun e => e.state == .bought).map snapEntryOf := by
  rw [snapBought, snapshotOf]
  dsimp only
  rw [List.filter_map, List.filter_filter]
  congr 1
  refine List.filter_congr fun e _ => ?_
  show (snapStateCode e.state == 1 && e.state != .preview) = (e.state == .bought)
  cases e.state <;> rfl

/-- The sum of P is taken over the BOUGHT entries alone. -/
theorem boughtSum_filter (es : List (Option Entry)) : boughtSum es =
    (((liveEntries es).filter fun e => e.state == .bought).map fun e => e.price.getD 0).sum := by
  rw [boughtSum]
  induction liveEntries es with
  | nil => rfl
  | cons e live ih => by_cases bought : e.state = .bought <;> simp [bought, ih]

theorem mem_snapshotOf_entries {x : SnapEntry} (mem : x ∈ (snapshotOf s).entries) :
    ∃ e, e ∈ liveEntries s.folio.entries ∧ e.state ≠ .preview ∧ snapEntryOf e = x := by
  obtain ⟨e, held, same⟩ := List.mem_map.mp mem
  obtain ⟨live, paid⟩ := List.mem_filter.mp held
  exact ⟨e, live, by simpa using paid, same⟩

theorem snapStateCode_range {state : EntryState} (paid : state ≠ .preview) :
    1 ≤ snapStateCode state ∧ snapStateCode state ≤ 3 := by
  cases state
  case preview => exact absurd rfl paid
  all_goals decide

theorem entryFine_of_live (h : BillingLaws s) {e : Entry} (live : e ∈ liveEntries s.folio.entries) : EntryFine e := by
  obtain ⟨i, he⟩ := mem_liveEntries_entryAt.mp live
  exact h.folio.core.fine i e he

theorem snapshotOf_counts (h : BillingLaws s) :
    (snapshotOf s).entries.length ≤ 8 ∧ (snapshotOf s).records.length ≤ 10 ∧
      (snapshotOf s).records.length + (snapBought (snapshotOf s)).length ≤ 10 := by
  have core := h.folio.core
  have places := core.places
  have bought : (snapBought (snapshotOf s)).length = boughtCount s.folio.entries := by
    rw [snapBought_snapshotOf, List.length_map, boughtCount, List.countP_eq_length_filter]
  have records : (snapshotOf s).records.length = s.folio.queue.length := List.length_map _
  have entries : (snapshotOf s).entries.length ≤ 8 := by
    refine Nat.le_trans (Nat.le_of_eq (List.length_map _)) (Nat.le_trans (List.length_filter_le _ _) ?_)
    rw [liveEntries, ← core.eight]
    exact List.length_filterMap_le _ _
  omega

theorem snapshotOf_fits (h : BillingLaws s) : SnapshotFits (snapshotOf s) := by
  have core := h.folio.core
  obtain ⟨low, hard, pin, _, unlock, lockout⟩ := (gateOk_iff _).mp h.gate
  obtain ⟨number, allowance, grace, _, _⟩ := (stayOk_iff _).mp h.stay
  obtain ⟨serial, _⟩ := (serialsOk_iff _).mp core.serials
  obtain ⟨entries, records, _⟩ := snapshotOf_counts h
  have total := core.total
  have cap := core.cap
  have quality := core.quality
  have digits : s.gate.pin.getD [] = [] ∨ pinWellFormed false (s.gate.pin.getD []) = true := by
    cases given : s.gate.pin with
    | none => exact .inl rfl
    | some digits =>
      rw [given] at pin
      exact .inr pin
  have fewDigits : (s.gate.pin.getD []).length ≤ 8 ∧ ∀ d, d ∈ s.gate.pin.getD [] → d ≤ 9 := by
    rcases digits with none_given | form
    · simp [none_given]
    · obtain ⟨count, small⟩ := (pinWellFormed_iff _ _).mp form
      exact ⟨by simpa using (count.resolve_left fun h => Bool.false_ne_true h.1).2, small⟩
  constructor
  case stay => exact Nat.lt_succ_of_le number
  case closing => show flagBit _ 1 < 256; unfold flagBit; split <;> omega
  case total => show s.folio.total < 16777216; omega
  case cap => show s.folio.cap < 16777216; omega
  case quality => show s.folio.quality < 256; omega
  case nextSerial => exact Nat.lt_succ_of_le serial.2
  case ceilings => exact ⟨by show s.gate.roomCeiling < 16; omega, by show s.gate.hardCeiling < 16; omega⟩
  case grace => show s.stay.grace < 65536; omega
  case previewAllowance => show s.stay.previewAllowance < 65536; omega
  case unlockDuration => show s.gate.unlockDuration < 256; omega
  case lockoutLength => show s.gate.lockoutLength < 256; omega
  case digits =>
    obtain ⟨few, small⟩ := fewDigits
    exact ⟨by show (s.gate.pin.getD []).length < 256; omega, fun d mem => by have := small d mem; omega⟩
  case entries =>
    refine ⟨by omega, fun x mem => ?_⟩
    obtain ⟨e, live, paid, rfl⟩ := mem_snapshotOf_entries mem
    have fine := entryFine_of_live h live
    obtain ⟨_, film⟩ := fine.film
    have price := fine.price
    have code := snapStateCode_range paid
    simp only [snapEntryFits, Bool.and_eq_true, decide_eq_true_eq]
    exact ⟨⟨⟨⟨⟨Nat.le_trans film (by decide), Nat.le_trans code.2 (by decide)⟩,
      Nat.le_trans price (by decide)⟩, fine.clear⟩, fine.impaired⟩, fine.window⟩
  case records =>
    refine ⟨by omega, fun x mem => ?_⟩
    obtain ⟨r, queued, rfl⟩ := List.mem_map.mp mem
    obtain ⟨serial, amount, minute, film⟩ := (recordOk_iff r).mp (core.records r queued)
    have twelve : r.film ≤ 4095 := by split_ifs at film <;> omega
    have kind : snapKindCode r.kind ≤ 3 := by cases r.kind <;> decide
    simp only [snapRecordFits, Bool.and_eq_true, decide_eq_true_eq]
    exact ⟨⟨⟨⟨⟨serial.2, kind⟩, Nat.zero_le _⟩, twelve⟩, amount⟩, minute⟩

/-- The room of a stay is OCCUPIED or CLOSING. -/
theorem room_of_stay (h : BillingLaws s) (named : s.stay.stay ≠ 0) :
    s.stay.room = .occupied ∨ s.stay.room = .closing := by
  cases room : s.stay.room with
  | starting => exact absurd ((roomOk_empty_iff (.inl room)).mp h.room).1 named
  | vacant => exact absurd ((roomOk_empty_iff (.inr room)).mp h.room).1 named
  | occupied => exact .inl rfl
  | closing => exact .inr rfl

theorem snapKindCode_eq_three (kind : RecordKind) : snapKindCode kind = 3 ↔ kind = .stayClosed := by
  cases kind <;> simp [snapKindCode]

theorem snapshotOf_formed (h : BillingLaws s) (named : s.stay.stay ≠ 0) : Formed (snapshotOf s) := by
  have core := h.folio.core
  obtain ⟨_, _, pin, _⟩ := (gateOk_iff _).mp h.gate
  obtain ⟨next, serials⟩ := (serialsOk_iff _).mp core.serials
  have closing : (snapshotOf s).closing = if s.stay.room = .closing then 1 else 0 := by
    show flagBit _ 1 = _
    rcases room_of_stay h named with room | room <;> rw [room] <;> rfl
  constructor
  case mark => rw [closing]; split <;> omega
  case digits =>
    show pinWellFormed true (s.gate.pin.getD []) = true
    cases given : s.gate.pin with
    | none => rfl
    | some digits =>
      rw [given] at pin
      obtain ⟨count, small⟩ := (pinWellFormed_iff _ _).mp pin
      exact (pinWellFormed_iff _ _).mpr ⟨.inr (count.resolve_left fun h => Bool.false_ne_true h.1), small⟩
  case entries =>
    intro x mem
    obtain ⟨e, live, paid, rfl⟩ := mem_snapshotOf_entries mem
    have fine := entryFine_of_live h live
    obtain ⟨low, high⟩ := snapStateCode_range paid
    exact (snapEntryOk_iff _).mpr ⟨low, high, fine.film.1, fine.film.2, fine.price⟩
  case films =>
    show (((((liveEntries s.folio.entries).filter _).map snapEntryOf)).map (·.film)).Nodup
    rw [List.map_map]
    exact (List.Sublist.map _ List.filter_sublist).nodup core.films
  case total => exact core.total
  case records =>
    intro x mem
    obtain ⟨r, queued, rfl⟩ := List.mem_map.mp mem
    obtain ⟨serial, _, _, film⟩ := (recordOk_iff r).mp (core.records r queued)
    refine (snapRecordOk_iff _).mpr ⟨?_, rfl, serial.1, ?_⟩
    · show snapKindCode r.kind ≠ 0
      cases r.kind <;> decide
    · show snapKindCode r.kind = 3 ↔ r.film = 0
      rw [snapKindCode_eq_three]
      by_cases closure : r.kind = .stayClosed
      · rw [if_pos closure] at film
        simp [closure, film]
      · rw [if_neg closure] at film
        simp only [closure, false_iff]
        omega
  case next => exact next
  case serials =>
    show serialsFollow ((s.folio.queue.map snapRecordOf).map (·.serial)) s.folio.nextSerial = true
    rw [List.map_map]
    exact serials
  case closure =>
    refine (closureOk_iff _).mpr fun i x there kind => ?_
    obtain ⟨r, queued, rfl⟩ := Option.map_eq_some_iff.mp ((List.getElem?_map ..).symm.trans there)
    have closes : isClosure r = true := (isClosure_iff r).mpr ((snapKindCode_eq_three _).mp kind)
    rcases room_of_stay h named with room | room
    · obtain ⟨_, _, _, allPlain, _⟩ := (roomOk_occupied_iff room).mp h.room
      have plain := allPlain r (List.mem_of_getElem? queued)
      rw [closes] at plain
      cases plain
    · refine ⟨?_, by rw [closing, if_pos room]⟩
      obtain ⟨_, _, last, _⟩ := (roomOk_closing_iff room).mp h.room
      have within := (List.getElem?_eq_some_iff.mp queued).1
      rw [show (snapshotOf s).records.length = s.folio.queue.length from List.length_map _]
      by_contra early
      have plain := last r (mem_dropLast_iff.mpr ⟨i, by omega, queued⟩)
      rw [closes] at plain
      cases plain
  case settling =>
    intro marked x mem
    obtain ⟨e, live, _, rfl⟩ := mem_snapshotOf_entries mem
    rw [closing] at marked
    split_ifs at marked with room
    obtain ⟨_, all, _⟩ := (roomOk_closing_iff room).mp h.room
    show snapStateCode e.state = 3
    rw [all e live]
    rfl

theorem snapshotOf_reserved (h : BillingLaws s) :
    ((snapBought (snapshotOf s)).map (·.price)).sum = s.folio.reserved := by
  rw [h.folio.core.reserved, snapBought_snapshotOf, List.map_map, boughtSum_filter]
  rfl

theorem snapshotOf_money (h : BillingLaws s) (named : s.stay.stay ≠ 0) :
    (snapshotOf s).total + ((snapBought (snapshotOf s)).map (·.price)).sum ≤
      min (snapshotOf s).cap maxTotal := by
  have core := h.folio.core
  have cap : min (snapshotOf s).cap maxTotal = s.folio.cap := Nat.min_eq_left core.cap
  rw [snapshotOf_reserved h, cap]
  rcases room_of_stay h named with room | room
  · exact ((roomOk_occupied_iff room).mp h.room).2.2.2.2
  · obtain ⟨_, all, _, _, _, within⟩ := (roomOk_closing_iff room).mp h.room
    have none_reserved : s.folio.reserved = 0 := by
      rw [core.reserved, boughtSum_eq]
      exact tableSum_eq_zero fun i e he => by
        simp [boughtPrice, all e (mem_liveEntries_entryAt.mpr ⟨i, he⟩)]
    rw [none_reserved]
    exact within

end

/-! ### The checks in their order (R175) -/

theorem snapshotCheckOk_iff (bs : List Byte) : snapshotCheckOk bs = true ↔
    field bs (bs.length - 1) 2 = byteSum (bs.take (bs.length - 2)) % 65536 := by
  have last : (bs.drop (bs.length - 2)).length ≤ 2 := by rw [List.length_drop]; omega
  rw [snapshotCheckOk, beq_iff_eq, field, show bs.length - 1 - 1 = bs.length - 2 by omega,
    List.take_of_length_le last]

/-- The seven checks: the first that fails gives its cause. -/
theorem restoreCause_checks (body : List Byte) :
    let x := parseSnapshot body
    (∀ room, room ≠ .starting → restoreCause room body = some .notStarting) ∧
    (snapshotCheckOk body = false → restoreCause .starting body = some .badCheck) ∧
    (snapshotCheckOk body = true → (x.stay = 0 → restoreCause .starting body = some .noStay) ∧
      (x.stay ≠ 0 →
        (8 < x.entries.length ∨ 10 < x.records.length → restoreCause .starting body = some .overCapacity) ∧
        (¬(8 < x.entries.length ∨ 10 < x.records.length) →
          (contentOk x = false → restoreCause .starting body = some .badContent) ∧
          (contentOk x = true →
            (10 < x.records.length + (snapBought x).length → restoreCause .starting body = some .queueLaw) ∧
            (¬10 < x.records.length + (snapBought x).length →
              (min x.cap maxTotal < x.total + ((snapBought x).map (·.price)).sum →
                restoreCause .starting body = some .overCap) ∧
              (¬min x.cap maxTotal < x.total + ((snapBought x).map (·.price)).sum →
                restoreCause .starting body = none)))))) := by
  dsimp only
  unfold restoreCause
  dsimp only
  have here : ¬(RoomState.starting ≠ .starting) := fun h => h rfl
  refine ⟨fun room away => if_pos away, fun bad => ?_, fun sums => ⟨fun none_named => ?_, fun named =>
    ⟨fun large => ?_, fun fits => ⟨fun bad => ?_, fun content => ⟨fun places => ?_, fun enough =>
      ⟨fun money => ?_, fun covered => ?_⟩⟩⟩⟩⟩⟩
  · rw [if_neg here, bad, if_pos (show (!false) = true from rfl)]
  · rw [if_neg here, sums, if_neg (by decide), if_pos none_named]
  · rw [if_neg here, sums, if_neg (by decide), if_neg named, if_pos large]
  · rw [if_neg here, sums, if_neg (by decide), if_neg named, if_neg fits, bad, if_pos (show (!false) = true from rfl)]
  · rw [if_neg here, sums, if_neg (by decide), if_neg named, if_neg fits, content, if_neg (by decide),
      if_pos places]
  · rw [if_neg here, sums, if_neg (by decide), if_neg named, if_neg fits, content, if_neg (by decide),
      if_neg enough, if_pos money]
  · rw [if_neg here, sums, if_neg (by decide), if_neg named, if_neg fits, content, if_neg (by decide),
      if_neg enough, if_neg covered]

theorem restoreCause_snapshotOf {s : State} (h : BillingLaws s) (named : s.stay.stay ≠ 0) :
    restoreCause .starting (snapshotBytes (snapshotOf s)) = none := by
  obtain ⟨entries, records, places⟩ := snapshotOf_counts h
  have checks := restoreCause_checks (snapshotBytes (snapshotOf s))
  rw [parseSnapshot_snapshotBytes (snapshotOf_fits h)] at checks
  obtain ⟨_, _, checked⟩ := checks
  obtain ⟨_, full⟩ := ((checked (snapshotCheckOk_snapshotBytes _)).2 named).2 (by omega)
  obtain ⟨_, enough⟩ := full ((contentOk_iff _).mpr (snapshotOf_formed h named))
  exact (enough (Nat.not_lt.mpr places)).2 (Nat.not_lt.mpr (snapshotOf_money h named))

/-- The serial that stands after a place of the queue: that of the next record, or the next serial. -/
theorem getElem?_serials {records : List SnapRecord} {i : Nat} {r : SnapRecord} (there : records[i]? = some r)
    (next : Nat) : (records.map (·.serial) ++ [next])[i + 1]? =
      some (((records[i + 1]?).map (·.serial)).getD next) := by
  have within := (List.getElem?_eq_some_iff.mp there).1
  by_cases last : i + 1 < records.length
  · rw [List.getElem?_append_left (by rwa [List.length_map]), List.getElem?_map, List.getElem?_eq_getElem last]
    rfl
  · have absent : records[i + 1]? = none := List.getElem?_eq_none (by omega)
    rw [List.getElem?_append_right (by rw [List.length_map]; omega), List.length_map,
      show i + 1 - records.length = 0 by omega, absent]
    rfl

theorem serialsFollow_records_iff (x : Snapshot) :
    serialsFollow (x.records.map (·.serial)) x.nextSerial = true ↔ ∀ (i : Nat) r, x.records[i]? = some r →
      ((x.records[i + 1]?).map (·.serial)).getD x.nextSerial =
        if 65535 ≤ r.serial then 1 else r.serial + 1 := by
  rw [serialsFollow_iff]
  constructor
  · intro follow i r there
    have after := follow i r.serial (by rw [List.getElem?_map, there]; rfl)
    rw [getElem?_serials there] at after
    exact Option.some.inj after
  · intro follow i a there
    rw [List.getElem?_map] at there
    obtain ⟨r, place, rfl⟩ := Option.map_eq_some_iff.mp there
    rw [getElem?_serials place, follow i r place]
    rfl

/-- Settles O13: the checks one after another (`restoreCause_checks`), with the contents' form taken apart
(`contentOk_iff`), and each of them for the snapshot of a state with the billing laws. -/
theorem anEmittedSnapshotIsAccepted : Obligations.anEmittedSnapshotIsAccepted := by
  refine ⟨fun s billing named => restoreCause_snapshotOf ((billingOk_iff s).mp billing) named, ?_⟩
  intro s f requested x n refused sums formed bought owed
  have answered (cause : RestoreCause) (found : restoreCause s.stay.room f.body = some cause) : refused cause := by
    refine (congrArg Host.Outcome.next (serveRequest_of_requested serveRestore requested)).trans ?_
    rw [serveRestore, takeFrame_stay, found]
    rfl
  have content : contentOk x = true ↔ formed := by
    have next (i : Nat) : (match x.records[i + 1]? with
        | some r' => r'.serial
        | none => x.nextSerial) = ((x.records[i + 1]?).map (·.serial)).getD x.nextSerial := by
      cases x.records[i + 1]? <;> rfl
    rw [contentOk_iff]
    constructor
    · intro h
      obtain ⟨count, small⟩ := (pinWellFormed_iff _ _).mp h.digits
      exact ⟨h.mark, count.imp_left And.right, small, fun e mem => (snapEntryOk_iff e).mp (h.entries e mem),
        h.films, h.total, fun r mem => (snapRecordOk_iff r).mp (h.records r mem), h.next.1, h.next.2,
        fun i r there => (next i).trans ((serialsFollow_records_iff x).mp h.serials i r there),
        (closureOk_iff x).mp h.closure, h.settling⟩
    · rintro ⟨mark, count, small, entries, films, total, records, low, high, serials, closure, settling⟩
      exact ⟨mark, (pinWellFormed_iff _ _).mpr ⟨count.imp_left fun none_given => ⟨rfl, none_given⟩, small⟩,
        fun e mem => (snapEntryOk_iff e).mpr (entries e mem), films, total,
        fun r mem => (snapRecordOk_iff r).mpr (records r mem), ⟨low, high⟩,
        (serialsFollow_records_iff x).mpr fun i r there => (next i).symm.trans (serials i r there),
        (closureOk_iff x).mpr closure, settling⟩
  have checkSums : snapshotCheckOk f.body = true ↔ sums := snapshotCheckOk_iff f.body
  obtain ⟨away, badCheck, checked⟩ := restoreCause_checks f.body
  refine ⟨fun room => answered _ (away _ room), fun room => ?_⟩
  rw [room] at answered ⊢
  refine ⟨fun bad => answered _ (badCheck (by simpa using mt checkSums.mp bad)), fun good => ?_⟩
  obtain ⟨unnamed, named⟩ := checked (checkSums.mpr good)
  refine ⟨fun none_named => answered _ (unnamed none_named), fun stay => ?_⟩
  obtain ⟨large, fits⟩ := named stay
  refine ⟨fun over_eight => answered _ (large over_eight), fun entries records => ?_⟩
  obtain ⟨badContent, wellFormed⟩ := fits (not_or.mpr ⟨Nat.not_lt.mpr entries, Nat.not_lt.mpr records⟩)
  refine ⟨fun bad => answered _ (badContent (by simpa using mt content.mp bad)), fun good => ?_⟩
  obtain ⟨queueLaw, enough⟩ := wellFormed (content.mpr good)
  refine ⟨fun many => answered _ (queueLaw many), fun few => ?_⟩
  obtain ⟨overCap, covered⟩ := enough (Nat.not_lt.mpr few)
  exact ⟨fun beyond => answered _ (overCap beyond), fun within => covered (Nat.not_lt.mpr within)⟩

end Sys2Proof.Machine
end

section
/-! PROOFS. RESTORE of a snapshot that passes every check (R176, R177). -/

namespace Sys2Proof.Machine

section
variable {s t : State}

/-! ### What a settled table leaves to do -/

theorem settleWaiting_of_settled (h : BooksSettled s.folio) : settleWaiting s = s := by
  refine overPlaces_induct (P := fun t => t = s) settlePlace s rfl ?_
  rintro i t hi rfl
  obtain same | ⟨e, he, settling, none_due, _⟩ | ⟨e, c, he, settling, _, place, _⟩ := settlePlace_cases i t
  · exact same
  · obtain ⟨⟨c, owed⟩, _⟩ := h i e hi he settling
    rw [owed] at none_due
    cases none_due
  · rw [(h i e hi he settling).2] at place
    cases place

/-- Entries that wait already, and are settled, stay as the room closes (R88). -/
theorem leaveTable_of_settled (h : BooksSettled s.folio)
    (all : ∀ i e, entryAt s.folio i = some e → e.state = .settling) : leaveTable s = s := by
  have idle : overPlaces leavePlace s = s :=
    overPlaces_induct (P := fun t => t = s) leavePlace s rfl fun i t _ same => by
      subst same
      unfold leavePlace
      cases he : entryAt t.folio i with
      | none => rfl
      | some e => simp only [all i e he]
  rw [leaveTable, idle, settleWaiting_of_settled h]

theorem closureDue_iff_closes (s : State) : closureDue s = true ↔ closes s := by
  simp [closureDue, closes, and_assoc]

theorem closureTest_of_closes (due : closes s) : closureTest s = closureQueuedState s := by
  rw [closureTest, if_pos ((closureDue_iff_closes s).mpr due)]
  rfl

theorem closureTest_of_not_closes (idle : ¬closes s) : closureTest s = s := by
  rw [closureTest, if_neg (mt (closureDue_iff_closes s).mp idle)]

/-! ### Reports while a request is served -/

variable (a : Assembler) (x : ReplySlot)

theorem emitSnapshot_serving (s : State) : emitSnapshot (serving a x s) = serving a x (emitSnapshot s) :=
  report_serving (snapshotTold (zeroSnapshotSeconds s)) a x (zeroSnapshotSeconds s)

theorem stayReport_serving (cause : StayCause) (capClamped : Bool) (s : State) :
    stayReport cause capClamped (serving a x s) = serving a x (stayReport cause capClamped s) :=
  report_serving (stayTold cause capClamped s) a x s

theorem closureQueuedState_serving (s : State) :
    closureQueuedState (serving a x s) = serving a x (closureQueuedState s) := by
  have told (r r' : Report) (l : SetLink) : queueReport r (queueReport r' { l with assembler := a, slot := x }) =
      { queueReport r (queueReport r' l) with assembler := a, slot := x } :=
    (congrArg (queueReport r) (queueReport_withRequest r' l a x)).trans (queueReport_withRequest r _ a x)
  simp only [closureQueuedState, serving]
  rw [← told]
  rfl

theorem closureTest_serving (s : State) : closureTest (serving a x s) = serving a x (closureTest s) := by
  by_cases due : closes s
  · rw [closureTest_of_closes due, closureTest_of_closes (s := serving a x s) due, closureQueuedState_serving]
  · rw [closureTest_of_not_closes due, closureTest_of_not_closes (s := serving a x s) due]

theorem leaving_serving (s : State) : leaving (serving a x s) = serving a x (leaving s) :=
  report_serving (.lockState .stayChange none (lockSummary (gateVacated s.gate))) a x
    { s with stay := { s.stay with room := .closing }, gate := gateVacated s.gate }

theorem placed_serving (y : Snapshot) (s : State) : placed y (serving a x s) = serving a x (placed y s) := by
  have told := report_serving (.lockState .stayChange none (lockSummary (gateOfStay (restoreParams y)))) a x
    ((openStay (restoreParams y) s).setGate (gateOfStay (restoreParams y)))
  exact congrArg (fun u : State => u.setFolio (restoreFolio y u.stay.previewAllowance u.folio)) told

theorem markClosure_serving (s : State) : markClosure (serving a x s) = serving a x (markClosure s) := by
  unfold markClosure
  by_cases closes : s.folio.queue.any isClosure = true
  · rw [if_pos closes, if_pos (show (serving a x s).folio.queue.any isClosure = true from closes)]
    rfl
  · rw [if_neg closes, if_neg (show ¬(serving a x s).folio.queue.any isClosure = true from closes)]

theorem restoreBlocks_serving (y : Snapshot) (s : State) :
    restoreBlocks y (serving a x s) = serving a x (restoreBlocks y s) := by
  rw [restoreBlocks_eq, restoreBlocks_eq, placed_serving, settleWaiting_serving, markClosure_serving]

end

/-! ### The table and the queue as restored -/

section
variable {x : Snapshot} {t : State}

theorem restoreBlocks_folio (x : Snapshot) (s : State) :
    (restoreBlocks x s).folio = (settleWaiting (placed x s)).folio := by
  rw [restoreBlocks_eq]
  generalize settleWaiting (placed x s) = u
  unfold markClosure
  split <;> rfl

/-- Under the closing mark every entitlement waits already, and the closing goes on from there (R177). -/
theorem closeStay_restoreBlocks (settling : ∀ e, e ∈ x.entries → e.state = 3) (s : State) :
    closeStay (restoreBlocks x s) = closureTest (leaving (restoreBlocks x s)) := by
  have before : ∀ i e, entryAt (placed x s).folio i = some e → e.state = .settling := fun i e he => by
    have live := mem_liveEntries_entryAt.mpr ⟨i, he⟩
    rw [placed_folio] at live
    rw [show liveEntries (restoreFolio x (min x.previewAllowance 600) s.folio).entries = _ from
      liveEntries_restoredTable x.entries] at live
    obtain ⟨e', mem, rfl⟩ := List.mem_map.mp live
    rw [restoredEntry_state, settling e' mem]
    rfl
  have settled := settleWaiting_booksSettled (placed x s)
  have all := (settleWaiting_tidy (placed x s)).shut before
  rw [← restoreBlocks_folio] at settled all
  generalize restoreBlocks x s = u at settled all
  rw [closeStay_leaving, leaveTable_of_settled (s := leaving u) settled all]

/-- The entitlements' table with each value spelled out. -/
theorem restoredTable_eq (coded : ∀ e, e ∈ x.entries → 1 ≤ e.state ∧ e.state ≤ 3) (second allowance quality : Nat) :
    restoredTable second allowance quality x.entries = x.entries.map (some ∘ fun e => {
      film := e.film
      state := if e.state = 1 then .bought else if e.state = 2 then .charged else .settling
      previewUsed := allowance, price := some e.price, clear := e.clear
      impaired := e.impaired, windowEnd := some e.windowEnd, lastPresented := second
      seenClear := false, seenFail := false, chargeSerial := none
      credit := if e.state = 3 then some (creditAmount e.price e.clear e.impaired quality) else none }) ++
      List.replicate (8 - x.entries.length) none := by
  rw [restoredTable]
  refine congrArg (· ++ List.replicate (8 - x.entries.length) none) (List.map_congr_left fun e mem => ?_)
  have cases_code : e.state = 1 ∨ e.state = 2 ∨ e.state = 3 := by have := coded e mem; omega
  rcases cases_code with code | code | code <;> simp [restoredEntry, code, entryStateOf]

theorem restoredRecord_eq (r : SnapRecord) : restoredRecord r = {
    serial := r.serial, kind := if r.kind = 1 then .charge else if r.kind = 2 then .credit else .stayClosed
    film := r.film, amount := r.amount, minute := r.minute } := by
  have kind : recordKindOf r.kind =
      if r.kind = 1 then RecordKind.charge else if r.kind = 2 then .credit else .stayClosed := by
    match code : r.kind with
    | 0 => rfl
    | 1 => rfl
    | 2 => rfl
    | n + 3 => simp [recordKindOf]
  rw [restoredRecord, kind]

theorem pinOf_eq (digits : List Nat) : pinOf digits = if digits = [] then none else some digits := by
  cases digits <;> rfl

/-- The closure of a restored queue stays in it as what waits settles. -/
theorem any_closure_settled (fit : x.Fit) (range : x.InRange) (s : State) :
    (settleWaiting (placed x s)).folio.queue.any isClosure = x.records.any fun r => r.kind == 3 := by
  obtain ⟨log, records, reports, h⟩ := settleWaiting_settled (placed x s)
  rw [h.folio]
  show ((placed x s).folio.queue ++ records).any isClosure = _
  have none_closes : records.any isClosure = false := List.any_eq_false.mpr fun r mem => by
    simp [isClosure, h.kinds r mem]
  rw [List.any_append, none_closes, Bool.or_false, placed_folio]
  show (x.records.map restoredRecord).any isClosure = _
  rw [List.any_map]
  refine Bool.eq_iff_iff.mpr ?_
  simp only [List.any_eq_true, Function.comp, beq_iff_eq]
  exact exists_congr fun r => and_congr_right fun mem => isClosure_restoredRecord fit range mem

/-! ### RESTORE accepted (R176, R177) -/

/-- The state of the blocks as restored, before the reports that end the RESTORE. -/
def brought (x : Snapshot) (s : State) : State :=
  if x.closing = 1 then closeStay (restoreBlocks x s) else restoreBlocks x s

theorem takeFrame_eq_serving (f : Frame) (t : State) : takeFrame f t = serving .hunting (.serving f) t := rfl

theorem brought_serving (fit : x.closing = 1 → ∀ e, e ∈ x.entries → e.state = 3) (a : Assembler) (y : ReplySlot)
    (t : State) : brought x (serving a y t) = serving a y (brought x t) := by
  unfold brought
  by_cases closing : x.closing = 1
  · rw [if_pos closing, if_pos closing, closeStay_restoreBlocks (fit closing), closeStay_restoreBlocks (fit closing),
      restoreBlocks_serving, leaving_serving, closureTest_serving]
  · rw [if_neg closing, if_neg closing, restoreBlocks_serving]

/-- The reports and the reply that end a RESTORE. -/
theorem answerRestored_serving (f : Frame) (u : State) :
    answerRestored f (emitSnapshot (stayReport .restored false (serving .hunting (.serving f) u))) =
      let v : State := { u with folio := { u.folio with snapshotSeconds := 0 } }
      { v with
        link := replied f .ok (.restored v.stay.room v.stay.stay v.folio.total v.folio.reserved v.folio.cap
            (liveEntries v.folio.entries).length v.folio.queue.length)
          (queueReport (snapshotTold v) (queueReport (stayTold .restored false v) v.link)) } := by
  rw [stayReport_serving, emitSnapshot_serving]
  rfl

theorem exec_restore {f : Frame} (requested : requested 0x11 f t)
    (passed : restoreCause t.stay.room f.body = none) :
    exec .restore t = .next (answerRestored f (emitSnapshot (stayReport .restored false
      (brought (parseSnapshot f.body) (takeFrame f t))))) := by
  refine (congrArg Host.Outcome.next (serveRequest_of_requested serveRestore requested)).trans ?_
  rw [serveRestore, takeFrame_stay, passed]
  rfl

theorem restoreBlocks_resumed (fit : x.Fit) (range : x.InRange) (t : State) : restoreBlocks x t =
    { settleWaiting (placed x t) with
      stay := { (settleWaiting (placed x t)).stay with
        closureQueued := t.stay.closureQueued || x.records.any fun r => r.kind == 3 } } := by
  rw [restoreBlocks_eq, markClosure, any_closure_settled fit range]
  have before : (settleWaiting (placed x t)).stay.closureQueued = t.stay.closureQueued := by
    rw [settleWaiting_stay, placed_stay]
  generalize settleWaiting (placed x t) = u at before
  cases x.records.any fun r => r.kind == 3
  · rw [if_neg Bool.false_ne_true, Bool.or_false, ← before]
  · rw [if_pos rfl, Bool.or_true]
    rfl

theorem leaving_eq (u : State) : leaving u = stayChangeTold [] { u with
    stay := { u.stay with room := .closing }, gate := gateVacated u.gate } := rfl

/-- The room as placed, with each value spelled out. -/
theorem placed_eq (x : Snapshot) (t : State) : placed x t = stayChangeTold [] { t with
    stay := { t.stay with
      room := .occupied, stay := x.stay, previewAllowance := min x.previewAllowance 600
      grace := min x.grace 900, startTimer := none }
    gate := gateFor (restoreParams x)
    folio := { t.folio with
      total := x.total, cap := min x.cap 9999999, quality := max 1 (min x.quality 100)
      nextSerial := x.nextSerial, queue := x.records.map restoredRecord
      entries := restoredTable t.folio.feedSecond (min x.previewAllowance 600) (max 1 (min x.quality 100)) x.entries
      reserved := ((x.entries.filter fun e => e.state == 1).map (·.price)).sum } } := by
  rw [← gateOfStay_eq_gateFor, ← boughtSum_restoredTable (second := t.folio.feedSecond)
    (allowance := min x.previewAllowance 600) (quality := max 1 (min x.quality 100))]
  rfl

end

theorem settling_of_restoreCause {room : RoomState} {body : List Byte} (passed : restoreCause room body = none) :
    (parseSnapshot body).closing = 1 → ∀ e, e ∈ (parseSnapshot body).entries → e.state = 3 := by
  unfold restoreCause at passed
  dsimp only at passed
  split_ifs at passed with starting check stay large content places money
  exact ((contentOk_iff _).mp (by simpa using content)).settling

/-- A RESTORE accepted ends with its reports and its reply. -/
theorem exec_restore_brought {t u : State} {f : Frame} (requested : requested 0x11 f t)
    (passed : restoreCause t.stay.room f.body = none) (after : brought (parseSnapshot f.body) t = u) {number : Nat}
    (named : u.stay.stay = number) :
    let v : State := { u with folio := { u.folio with snapshotSeconds := 0 } }
    exec .restore t = .next { v with
      link := replied f .ok (.restored v.stay.room number v.folio.total v.folio.reserved v.folio.cap
          (liveEntries v.folio.entries).length v.folio.queue.length)
        (queueReport (snapshotTold v) (queueReport (stayTold .restored false v) v.link)) } := by
  rw [exec_restore requested passed, takeFrame_eq_serving, brought_serving (settling_of_restoreCause passed), after,
    answerRestored_serving, ← named]

theorem settleWaiting_placed_of_none {x : Snapshot} (fit : x.Fit) (none_due : ∀ e, e ∈ x.entries → e.state ≠ 3)
    (t : State) : settleWaiting (placed x t) = placed x t := by
  have live : liveEntries (placed x t).folio.entries = _ := liveEntries_restoredTable x.entries
  refine settleWaiting_of_none ?_
  rw [anySettling, live, List.any_map, List.any_eq_false]
  intro e mem
  have coded := (fit.entries e mem).1
  have other := none_due e mem
  have code : e.state = 1 ∨ e.state = 2 := by omega
  rcases code with code | code <;> simp [restoredEntry, code, entryStateOf]

/-- What the closing mark brings, once the blocks are restored (R177). -/
theorem brought_of_closing {x : Snapshot} {t u : State} (blocks : restoreBlocks x t = u) (closing : x.closing = 1)
    (settling : ∀ e, e ∈ x.entries → e.state = 3) : brought x t = closureTest (stayChangeTold [] { u with
      stay := { u.stay with room := .closing }, gate := gateVacated u.gate }) := by
  rw [brought, if_pos closing, closeStay_restoreBlocks settling, blocks, leaving_eq]

/-- The end of an accepted RESTORE, from the room as placed and as settled. -/
theorem restore_ends {t : State} {f : Frame} (requested : requested 0x11 f t)
    (passed : restoreCause t.stay.room f.body = none) {before settled : State}
    (same : placed (parseSnapshot f.body) t = before) (settles : settleWaiting before = settled) :
    let x := parseSnapshot f.body
    let resumed : State := { settled with
      stay := { settled.stay with closureQueued := t.stay.closureQueued ||
        (x.records.any fun r => r.kind == 3) } }
    let shut := stayChangeTold [] { resumed with
      stay := { resumed.stay with room := .closing }, gate := gateVacated resumed.gate }
    let ends (u : State) :=
      let v : State := { u with folio := { u.folio with snapshotSeconds := 0 } }
      exec .restore t = .next { v with
        link := replied f .ok (.restored v.stay.room x.stay v.folio.total v.folio.reserved v.folio.cap
            (liveEntries v.folio.entries).length v.folio.queue.length)
          (queueReport (snapshotTold v) (queueReport (stayTold .restored false v) v.link)) }
    (x.closing ≠ 1 → ends resumed) ∧
    (x.closing = 1 → (closes shut → ends (closureQueuedState shut)) ∧ (¬ closes shut → ends shut)) ∧
    ((∀ e, e ∈ x.entries → e.state ≠ 3) → settled = before) := by
  intro x resumed shut ends
  obtain ⟨_, fit⟩ := fit_of_restoreCause passed
  have blocks : restoreBlocks x t = resumed := by
    rw [restoreBlocks_resumed fit (parseSnapshot_inRange f.body), same, settles]
  have stay : resumed.stay.stay = x.stay := by
    have kept : settled.stay = before.stay := by rw [← settles, settleWaiting_stay]
    show settled.stay.stay = x.stay
    rw [kept, ← same]
    rfl
  have brings (u : State) (after : brought x t = u) (named : u.stay.stay = x.stay) : ends u :=
    exec_restore_brought requested passed after named
  refine ⟨fun open_ => brings resumed (by rw [brought, if_neg open_, blocks]) stay, fun closing => ?_,
    fun none_due => ?_⟩
  · have closed : brought x t = closureTest shut :=
      brought_of_closing blocks closing (settling_of_restoreCause passed closing)
    exact ⟨fun due => brings _ (closed.trans (closureTest_of_closes due)) stay,
      fun idle => brings _ (closed.trans (closureTest_of_not_closes idle)) stay⟩
  · rw [← settles, ← same, settleWaiting_placed_of_none fit none_due]

/-! ### An emitted snapshot brings the billing back -/

section
variable {s t : State}

/-- A snapshot of an open stay with nothing in SETTLING is placed as it stands. -/
theorem brought_of_open {x : Snapshot} (fit : x.Fit) (range : x.InRange) (open_ : x.closing ≠ 1)
    (none_due : ∀ e, e ∈ x.entries → e.state ≠ 3) (t : State) : brought x t = placed x t := by
  have none_closes : (x.records.any fun r => r.kind == 3) = false :=
    List.any_eq_false.mpr fun r mem => by simpa using fit.closureMark open_ r mem
  have quiet := any_closure_settled fit range t
  rw [settleWaiting_placed_of_none fit none_due, none_closes] at quiet
  rw [brought, if_neg open_, restoreBlocks_eq, settleWaiting_placed_of_none fit none_due, markClosure, quiet,
    if_neg Bool.false_ne_true]

theorem pinOf_getD {pin : Option (List Nat)} (ok : pinOk pin = true) : pinOf (pin.getD []) = pin := by
  cases pin with
  | none => rfl
  | some digits =>
    obtain ⟨count, _⟩ := (pinWellFormed_iff _ _).mp ok
    cases digits with
    | nil => simp at count
    | cons d digits => rfl

theorem gateOfStay_snapshotOf (h : BillingLaws s) : gateOfStay (restoreParams (snapshotOf s)) =
    { s.gate with unlockExpiry := none, lockoutExpiry := none, failures := 0 } := by
  obtain ⟨low, hard, pin, _, unlock, lockout⟩ := (gateOk_iff _).mp h.gate
  have unlocks : max 1 (min s.gate.unlockDuration 240) = s.gate.unlockDuration := by omega
  have locks : max 1 (min s.gate.lockoutLength 255) = s.gate.lockoutLength := by omega
  rw [gateOfStay_eq_gateFor]
  simp only [gateFor, restoreParams, snapshotOf, unlocks, locks, Nat.min_eq_left hard, Nat.min_eq_left low,
    pinOf_getD pin]

theorem restoredRecord_snapRecordOf (r : Record) : restoredRecord (snapRecordOf r) = r := by
  obtain ⟨_, kind, _, _, _⟩ := r
  cases kind <;> rfl

/-- A paid entitlement comes back but for what no snapshot carries. -/
theorem restoredEntry_snapEntryOf {e : Entry} (fine : EntryFine e) (paid : e.state = .bought ∨ e.state = .charged)
    (second allowance quality : Nat) : restoredEntry second allowance quality (snapEntryOf e) =
      { e with previewUsed := allowance, lastPresented := second, seenClear := false, seenFail := false
               chargeSerial := none, answered := false } := by
  have fields := fine.fields
  obtain ⟨film, state, used, price, clear, impaired, window, last, seenClear, seenFail, serial, credit, marked⟩ := e
  rcases paid with rfl | rfl <;>
  · obtain ⟨priced, windowed, no_credit⟩ := fields
    obtain ⟨p, rfl⟩ := Option.isSome_iff_exists.mp priced
    obtain ⟨w, rfl⟩ := Option.isSome_iff_exists.mp windowed
    cases no_credit
    rfl

theorem liveEntries_restored (h : BillingLaws s) (idle : anySettling s.folio.entries = false)
    (second allowance quality : Nat) :
    liveEntries (restoredTable second allowance quality (snapshotOf s).entries) =
      ((liveEntries s.folio.entries).filter fun e => e.state != .preview).map fun e =>
        { e with previewUsed := allowance, lastPresented := second, seenClear := false, seenFail := false
                 chargeSerial := none, answered := false } := by
  rw [liveEntries_restoredTable, snapshotOf, List.map_map]
  refine List.map_congr_left fun e mem => ?_
  obtain ⟨live, paid⟩ := List.mem_filter.mp mem
  have other : e.state ≠ .settling := by
    simpa using List.any_eq_false.mp idle e live
  refine restoredEntry_snapEntryOf (entryFine_of_live h live) ?_ second allowance quality
  cases state : e.state <;> simp_all

end

/-- Settles O14: what `restoreBlocks` places and settles, the closing of a settled table, and for an emitted
snapshot each field as it comes back. -/
theorem restoreBringsBackTheBilling : Obligations.restoreBringsBackTheBilling := by
  refine ⟨?_, ?_⟩
  · intro t f requested passed x p quality entry record before
    obtain ⟨_, fit⟩ := fit_of_restoreCause passed
    have same : placed x t = before := by
      rw [placed_eq, restoredTable_eq fun e mem => (fit.entries e mem).1,
        List.map_congr_left fun r _ => restoredRecord_eq r, restoreParams, pinOf_eq]
    exact restore_ends requested passed same rfl
  · intro s t f billing room idle billing' starting requested body
    have laws := (billingOk_iff s).mp billing
    have core := laws.folio.core
    have named := ((roomOk_occupied_iff room).mp laws.room).1
    obtain ⟨_, noClosure, noPending, _⟩ := (roomOk_empty_iff (.inl starting)).mp ((billingOk_iff t).mp billing').room
    obtain ⟨_, allowance, grace, _, _⟩ := (stayOk_iff _).mp laws.stay
    have parsed : parseSnapshot f.body = snapshotOf s := by
      rw [body, parseSnapshot_snapshotBytes (snapshotOf_fits laws)]
    have passed : restoreCause t.stay.room f.body = none := by
      rw [starting, body]
      exact restoreCause_snapshotOf laws named
    obtain ⟨_, fit⟩ := fit_of_restoreCause passed
    have range := parseSnapshot_inRange f.body
    rw [parsed] at fit range
    have open_ : (snapshotOf s).closing ≠ 1 := by
      show flagBit (s.stay.room == .closing) 1 ≠ 1
      rw [room]
      decide
    have none_due : ∀ x, x ∈ (snapshotOf s).entries → x.state ≠ 3 := by
      intro x mem
      obtain ⟨e, live, _, rfl⟩ := mem_snapshotOf_entries mem
      have other : e.state ≠ .settling := by simpa using List.any_eq_false.mp idle e live
      show snapStateCode e.state ≠ 3
      cases state : e.state <;> simp_all [snapStateCode]
    have reserved := boughtSum_restoredTable (second := t.folio.feedSecond)
      (allowance := min s.stay.previewAllowance 600) (quality := clampTo 1 100 s.folio.quality)
      (snapshotOf s).entries
    refine ⟨_, exec_restore requested passed, ?_⟩
    rw [parsed, brought_of_open fit range open_ none_due]
    refine ⟨?_, gateOfStay_snapshotOf laws, rfl, reserved.trans (snapshotOf_reserved laws),
      Nat.min_eq_left core.cap, ?_, rfl, ?_, ?_⟩
    · have clampedGrace : min s.stay.grace 900 = s.stay.grace := Nat.min_eq_left grace
      have clampedAllowance : min s.stay.previewAllowance 600 = s.stay.previewAllowance :=
        Nat.min_eq_left allowance
      show { t.stay with
        room := .occupied, stay := s.stay.stay, previewAllowance := min s.stay.previewAllowance 600
        grace := min s.stay.grace 900, startTimer := none } = _
      simp only [clampedGrace, clampedAllowance, noPending, noClosure]
    · have quality := core.quality
      show max 1 (min s.folio.quality 100) = s.folio.quality
      omega
    · show (s.folio.queue.map snapRecordOf).map restoredRecord = s.folio.queue
      rw [List.map_map]
      exact (List.map_congr_left fun r _ => restoredRecord_snapRecordOf r).trans (List.map_id' _)
    · have live := liveEntries_restored laws idle t.folio.feedSecond (min s.stay.previewAllowance 600)
        (clampTo 1 100 s.folio.quality)
      rw [Nat.min_eq_left allowance] at live
      refine Eq.trans ?_ live
      show liveEntries (restoredTable t.folio.feedSecond (min s.stay.previewAllowance 600)
        (clampTo 1 100 s.folio.quality) (snapshotOf s).entries) = _
      rw [Nat.min_eq_left allowance]

end Sys2Proof.Machine
end

section
/-! PROOFS. The Loop Station's requests. -/

namespace Sys2Proof.Machine

/-! ### SET_STATION (R129) -/

/-- The block of a station that enters OFF or LISTENING, field by field: its duplicate watch stays only
under the same address, and a packet being heard only while it has an end under the new one. -/
theorem stationAt_eq (address : Nat) (l : LoopStation) :
    stationAt address l = { releaseReservation l with
      state := if address = 0 then .off else .listening
      address := address
      successor := none
      duplicateSeen := false
      windows :=
        if address = (releaseReservation l).address then
          (releaseReservation l).windows.filter (· == .duplicate)
        else []
      heard :=
        if address = 0 then none
        else (releaseReservation l).heard.filter fun h => hasEnd address h.packet } := by
  unfold stationAt
  generalize releaseReservation l = released
  have watch : (released.windows.filter fun w => w == .duplicate && address == released.address) =
      if address = released.address then released.windows.filter (· == .duplicate) else [] := by
    by_cases same : address = released.address <;> simp [same]
  have ear : (released.heard.filter fun h => address != 0 && hasEnd address h.packet) =
      if address = 0 then none else released.heard.filter fun h => hasEnd address h.packet := by
    by_cases off : address = 0 <;> cases released.heard <;> simp [off, Option.filter]
  dsimp only
  rw [watch, ear]

/-! ### LEAVE (R131) -/

/-- The TOKEN of a station that leaves its turn before it has sent one. -/
theorem leavingToken_eq (l : LoopStation) :
    leavingToken l =
      if inTurn l = true ∧ l.phase ≠ .passing ∧ l.phase ≠ .probing then
        l.successor.toList.map fun d => ⟨.token d, none⟩
      else [] := by
  unfold leavingToken
  cases l.successor <;> rfl

/-! ### LOOP_CONFIG (R137) -/

theorem clampTo_one_63 (n : Nat) : clampTo 1 63 n = if n = 0 then 1 else if 63 < n then 63 else n := by
  unfold clampTo
  split_ifs <;> omega

/-- Settles O57: each request by the loop state it finds. -/
theorem theStationIsConfigured : Obligations.theStationIsConfigured := by
  intro s f
  dsimp only
  refine ⟨fun h => ⟨fun bad => ?_, fun good busy => ?_, fun good listens => ?_⟩,
    fun h => ⟨fun off => ?_, fun busy => ?_, fun listening seen => ?_, fun listening unseen => ?_⟩,
    fun h => ⟨fun listens => ?_, fun busy => ?_⟩, fun h => ?_⟩
  · exact exec_of_requested rfl h (by rw [serveSetStation, if_pos bad]; rfl)
  · exact exec_of_requested rfl h (by
      rw [serveSetStation, if_neg good, takeFrame_loop, if_neg busy]; rfl)
  · refine exec_of_requested rfl h ?_
    rw [serveSetStation, if_neg good, takeFrame_loop, if_pos listens, stationAt_eq]
    rfl
  · exact exec_of_requested rfl h (by simp only [serveJoin, takeFrame_loop, off]; rfl)
  · refine exec_of_requested rfl h ?_
    have already : serveJoin f (takeFrame f s) = answer f .already .codeOnly (takeFrame f s) := by
      unfold serveJoin
      split
      case h_1 off => exact absurd (.inl off) busy
      case h_2 listening => exact absurd (.inr listening) busy
      case h_3 => rfl
    rw [already]
    rfl
  · exact exec_of_requested rfl h (by simp only [serveJoin, takeFrame_loop, listening, seen]; rfl)
  · exact exec_of_requested rfl h (by simp only [serveJoin, takeFrame_loop, listening, unseen]; rfl)
  · refine exec_of_requested rfl h ?_
    obtain off | listening := listens
    · simp only [serveLeave, takeFrame_loop, off]; rfl
    · simp only [serveLeave, takeFrame_loop, listening]; rfl
  · refine exec_of_requested rfl h ?_
    have leaves : serveLeave f (takeFrame f s) =
        answer f .ok .codeOnly ((takeFrame f s).setLoop (leaveRing s.loop)) := by
      unfold serveLeave
      split
      case h_1 off => exact absurd (.inl off) busy
      case h_2 listening => exact absurd (.inr listening) busy
      case h_3 => rfl
    rw [leaves, leaveRing, leavingToken_eq]
    rfl
  · refine exec_of_requested rfl h ?_
    rw [serveLoopConfig, clampTo_one_63]
    rfl

end Sys2Proof.Machine
end

section
/-! PROOFS. What the passing step, the data step and the successor search come to, and with them the
windows and timers of the Loop Station. -/

namespace Sys2Proof.Machine

/-! ### The idle timer (R127) -/

/-- The idle timer in MEMBER and ALONE outside a turn, and nothing else. -/
theorem restartIdle_eq (l : LoopStation) :
    restartIdle l = { l with
      idleTimer := if (l.state = .member ∨ l.state = .alone) ∧ inTurn l = false then some 30000
        else l.idleTimer } := by
  unfold restartIdle
  by_cases h : (l.state = .member ∨ l.state = .alone) ∧ inTurn l = false
  · rw [if_pos h, if_pos h]; rfl
  · rw [if_neg h, if_neg h]

/-! ### The passing step (R138) -/

theorem resumePass_of_not_due {s : State} (h : s.loop.passDeferred = false) : resumePass s = s := by
  simp [resumePass, h]

/-- A passing step that is due waits for a reservation. -/
theorem resumePass_of_reserved {s : State} {i : BufferIx} (h : reservedBufferIx s.loop = some i) :
    resumePass s = s := by
  cases due : s.loop.passDeferred
  · exact resumePass_of_not_due due
  · have same : s.setLoop { s.loop with passDeferred := true } = s := by
      rw [← due]; rfl
    simpa [resumePass, passingStep, due, h] using same

/-- The passing step is due: it is taken now, or waits and is taken later. -/
theorem passingStep_eq_resumePass (s : State) :
    passingStep s = resumePass (s.setLoop { s.loop with passDeferred := true }) := by
  unfold resumePass passingStep
  simp only [State.setLoop_loop, if_true]
  rfl

theorem resumePass_of_due {s : State} (due : s.loop.passDeferred = true)
    (unreserved : reservedBufferIx s.loop = none) : resumePass s = passToken s := by
  simp [resumePass, passingStep, due, unreserved]

/-- In a turn neither marked for refresh nor begun by a rebuild, a known successor gets the token. -/
theorem passToken_of_successor {s : State} {d : Nat} (refresh : s.loop.refreshTurn = false)
    (rebuild : s.loop.rebuildTurn = false) (known : s.loop.successor = some d) :
    passToken s = send (.token d) (some .passing) (s.setLoop { s.loop with
      passDeferred := false, exchange := none, phase := .passing }) := by
  simp only [passToken, refresh, rebuild, known]
  rfl

/-- Every other turn searches for a successor, from the address after the own. -/
theorem passToken_of_search {s : State}
    (h : s.loop.refreshTurn = true ∨ s.loop.rebuildTurn = true ∨ s.loop.successor = none) :
    passToken s = searchFrom (addressAfter s.loop.address)
      (s.setLoop { s.loop with passDeferred := false, exchange := none }) := by
  unfold passToken
  by_cases marked : (s.loop.refreshTurn || s.loop.rebuildTurn) = true
  · rw [if_pos marked]
  · have unknown : s.loop.successor = none := by
      obtain refresh | rebuild | unknown := h
      · simp [refresh] at marked
      · simp [rebuild] at marked
      · exact unknown
    rw [if_neg marked, unknown]

/-! ### The successor search (R139) -/

theorem searchFrom_of_ne {address : Nat} {s : State} (h : address ≠ s.loop.address) :
    searchFrom address s = probe address s := if_neg h

/-- The search that came round to the station itself: it is ALONE. -/
theorem searchFrom_own {address : Nat} {s : State} (own : address = s.loop.address) :
    searchFrom address s = { s with
      loop := { s.loop with
        state := .alone, successor := none, phase := .none, exchange := none, refreshTurn := false
        rebuildTurn := false, passDeferred := false, candidate := none, idleTimer := some 30000 }
      link := if s.loop.successor = none then s.link
        else queueReport (.loopState .successor .alone s.loop.address none s.loop.declineCount
          s.loop.declineLimit s.loop.retryCount s.loop.rebuildCount s.loop.duplicateSeen
          s.loop.ownRebuild) s.link } := by
  rw [searchFrom, if_pos own]
  unfold searchFails
  cases s.loop.successor <;> rfl

/-! ### The turn (R133, R134, R142) -/

/-- The turn count, field by field. -/
theorem countTurn_eq (l : LoopStation) :
    countTurn l = { l with
      turnCount := if 63 ≤ l.turnCount then 0 else l.turnCount + 1
      refreshTurn := if 63 ≤ l.turnCount then true else l.refreshTurn } := by
  unfold countTurn
  by_cases full : 63 ≤ l.turnCount
  · simp [full]
  · simp [full]

theorem dataStep_of_pending {s : State} (h : s.loop.pendingReply = true) :
    dataStep s = send (.enquiry 255 s.loop.address) (some .enquiring)
      (s.setLoop { s.loop with phase := .enquiring, exchange := some (.roomReport false) }) := by
  simp [dataStep, h]

theorem dataStep_of_record {s : State} {r : Record} {rest : List Record}
    (answered : s.loop.pendingReply = false) (h : s.folio.queue = r :: rest) :
    dataStep s = send (.enquiry 255 s.loop.address) (some .enquiring)
      (s.setLoop { s.loop with phase := .enquiring, exchange := some (.record r s.stay.stay) }) := by
  simp [dataStep, answered, h]

theorem dataStep_of_empty {s : State} (answered : s.loop.pendingReply = false)
    (h : s.folio.queue = []) :
    dataStep s = resumePass (s.setLoop { s.loop with passDeferred := true }) := by
  simp [dataStep, answered, h, passingStep_eq_resumePass]

/-- The token is remade: its report only by a station that has not remade one since it last held
another's. -/
theorem remakeToken_eq (s : State) :
    remakeToken s = dataStep { s with
      loop := { s.loop with
        state := .member, rebuildWait := none, idleTimer := none, ownRebuild := true
        rebuildTurn := true
        rebuildCount := if s.loop.ownRebuild then s.loop.rebuildCount else satInc s.loop.rebuildCount
        turnCount := if 63 ≤ s.loop.turnCount then 0 else s.loop.turnCount + 1
        refreshTurn := if 63 ≤ s.loop.turnCount then true else s.loop.refreshTurn }
      link := if s.loop.ownRebuild then s.link
        else queueReport (.loopState .rebuilt .member s.loop.address s.loop.successor
          s.loop.declineCount s.loop.declineLimit s.loop.retryCount
          (if s.loop.ownRebuild then s.loop.rebuildCount else satInc s.loop.rebuildCount)
          s.loop.duplicateSeen true) s.link } := by
  unfold remakeToken
  cases own : s.loop.ownRebuild <;> simp only [countTurn_eq, own] <;> rfl

end Sys2Proof.Machine
end

section
/-! PROOFS. The windows, the timers and the passing step of the Loop Station. -/

namespace Sys2Proof.Machine

/-! ### The end of a window (R127) -/

theorem exec_responseWindowExpiry_of_open {s : State} {w : Window} {more : List Window}
    (h : s.loop.windows = w :: more) :
    exec .responseWindowExpiry s = .next (expireWindow w (s.setLoop { s.loop with windows := more })) := by
  show Host.Outcome.next _ = _
  rw [h]

/-- A token passed without an answer: the search goes on after the successor (R138). -/
theorem expireWindow_passing {s : State} {d : Nat} (known : s.loop.successor = some d) :
    expireWindow .passing s = searchFrom (addressAfter d) s := by
  simp [expireWindow, known]

/-- A probe without an answer: the search goes on after the candidate (R139). -/
theorem expireWindow_probing {s : State} {c : Nat} (known : s.loop.candidate = some c) :
    expireWindow .probing s = searchFrom (addressAfter c) s := by
  simp [expireWindow, known]

/-! ### The timers (R141, R142) -/

theorem exec_rebuildWaitExpiry_of_waiting {s : State} {d : Nat} (rebuilding : s.loop.state = .rebuilding)
    (wait : s.loop.rebuildWait = some d) :
    exec .rebuildWaitExpiry s = .next (remakeToken s) := by
  show Host.Outcome.next (rebuildWaitExpires s) = _
  rw [rebuildWaitExpires, if_pos ⟨rebuilding, by simp [wait]⟩]

/-! ### The end of an own packet (R125, R127) -/

/-- The packet's window opens behind those open, and the line is driven while a packet follows. -/
theorem packetSent_of_sending {s : State} {p : SentPacket} {rest : List SentPacket}
    (h : s.loop.sending = p :: rest) :
    packetSent s = s.setLoop { s.loop with
      sending := rest, lde := !rest.isEmpty
      windows := s.loop.windows ++ p.expects.toList
      idleTimer := if (s.loop.state = .member ∨ s.loop.state = .alone) ∧ inTurn s.loop = false
        then some 30000 else s.loop.idleTimer } := by
  simp only [packetSent, h, restartIdle_eq, ltxCharacters_isEmpty]
  rfl

/-- Settles O60: the passing step by whether it is due and free to go, a window by its name, the timers and
the packet's end by their own effect. -/
theorem silenceMovesTheTokenOn : Obligations.silenceMovesTheTokenOn := by
  intro s
  dsimp only
  refine ⟨resumePass_of_not_due, fun i => resumePass_of_reserved, fun due unreserved => ⟨?_, ?_⟩,
    fun w more opened => ?_, ?_, ?_, ?_⟩
  · intro d refresh rebuild known
    rw [resumePass_of_due due unreserved, passToken_of_successor refresh rebuild known]
    rfl
  · intro searches other
    rw [resumePass_of_due due unreserved, passToken_of_search searches]
    exact searchFrom_of_ne other
  · rw [exec_responseWindowExpiry_of_open opened]
    refine ⟨fun exchange => ?_, fun d passing known => ?_, fun c probing known => ?_,
      fun reservation => ?_, fun duplicate => ?_⟩
    · obtain enquiring | posting := exchange
      · rw [enquiring]; rfl
      · rw [posting]; rfl
    · rw [passing, expireWindow_passing (by exact known)]
      exact ⟨fun other => congrArg Host.Outcome.next (searchFrom_of_ne other),
        fun own => congrArg Host.Outcome.next (searchFrom_own own)⟩
    · rw [probing, expireWindow_probing (by exact known)]
      exact ⟨fun other => congrArg Host.Outcome.next (searchFrom_of_ne other),
        fun own => congrArg Host.Outcome.next (searchFrom_own own)⟩
    · rw [reservation]; rfl
    · rw [duplicate]; rfl
  · intro d ring idle timer
    show Host.Outcome.next (idleExpires s) = _
    rw [idleExpires, if_pos ⟨ring, idle, by simp [timer]⟩, rebuildMicros, Nat.mul_comm]
    rfl
  · intro d rebuilding wait
    rw [exec_rebuildWaitExpiry_of_waiting rebuilding wait, remakeToken_eq]
    refine ⟨fun pending => ?_, fun r rest answered queue => ?_, fun answered queue => ?_⟩
    · rw [dataStep_of_pending (by exact pending)]
      rfl
    · rw [dataStep_of_record (by exact answered) (by exact queue)]
      rfl
    · rw [dataStep_of_empty (by exact answered) (by exact queue)]
      rfl
  · intro p rest sending
    show Host.Outcome.next (packetSent s) = _
    rw [packetSent_of_sending sending]
    cases p.expects <;> rfl

end Sys2Proof.Machine
end

section
/-! PROOFS. The station's turn, its one exchange with the desk, and what an acknowledgement brings. -/

namespace Sys2Proof.Machine

/-! ### The end of a packet -/

theorem hearEnd_of_heard {select : Option LoopPacket → Option (HeardPacket → State → State)}
    {act : HeardPacket → State → State} {s : State} {h : HeardPacket} (heard : s.loop.heard = some h)
    (selected : select h.packet = some act) :
    hearEnd select s = resumePass (act h (s.setLoop { s.loop with heard := none })) := by
  simp only [hearEnd, heard, selected]

theorem passToken_passDeferred (s : State) : (passToken s).loop.passDeferred = false := by
  have searched (a : Nat) (t : State) (h : t.loop.passDeferred = false) :
      (searchFrom a t).loop.passDeferred = false := by
    obtain ⟨own, -⟩ | ⟨_, probes⟩ := searchFrom_cases a t
    · rw [searchFrom_own own]
    · rw [probes]; exact h
  unfold passToken
  dsimp only
  split
  · exact searched _ _ rfl
  · split
    · exact searched _ _ rfl
    · rfl

/-- A passing step is taken once. -/
theorem resumePass_resumePass (s : State) : resumePass (resumePass s) = resumePass s := by
  cases due : s.loop.passDeferred
  · rw [resumePass_of_not_due due, resumePass_of_not_due due]
  · cases reserved : reservedBufferIx s.loop
    · rw [resumePass_of_due due reserved, resumePass_of_not_due (passToken_passDeferred s)]
    · rw [resumePass_of_reserved reserved, resumePass_of_reserved reserved]

/-! ### The turn begins (R133, R134) -/

theorem inTurn_eq_false_iff (l : LoopStation) :
    inTurn l = false ↔ l.phase = .none ∧ l.passDeferred = false := by
  simp [inTurn]

/-- A TOKEN that comes to the station between its turns begins one. -/
theorem endToken_begins {h : HeardPacket} {s : State}
    (ring : s.loop.state = .member ∨ s.loop.state = .alone ∨ s.loop.state = .rebuilding)
    (outside : inTurn s.loop = false) (free : h.inTurn = false) : endToken h s = beginTurn s := by
  unfold endToken
  split
  case h_1 off => simp [off] at ring
  case h_2 listening => simp [listening] at ring
  case h_3 => rw [if_neg (by simp [free, outside])]

theorem exec_tokenReceived_of_heard {s : State} {d : Nat} {ws : List Window} {begun : Bool}
    (heard : s.loop.heard = some ⟨some (.token d), ws, begun⟩) :
    exec .tokenReceived s =
      .next (resumePass (endToken ⟨some (.token d), ws, begun⟩
        (s.setLoop { s.loop with heard := none }))) :=
  congrArg Host.Outcome.next (hearEnd_of_heard heard rfl)

/-- The block of a station that begins a turn. -/
theorem beginTurn_eq (s : State) :
    beginTurn s = dataStep { s with loop := { s.loop with
      state := .member, ownRebuild := false, idleTimer := none, rebuildWait := none
      turnCount := if 63 ≤ s.loop.turnCount then 0 else s.loop.turnCount + 1
      refreshTurn := if 63 ≤ s.loop.turnCount then true else s.loop.refreshTurn } } := by
  rw [beginTurn, countTurn_eq]
  rfl

/-! ### The answers of the desk (R135 to R137) -/

/-- A DECLINE in the station's exchange: counted, and reported once a run reaches the limit. -/
theorem busyTest_of_busy {s : State}
    (busy : s.loop.declineLimit ≤ s.loop.declineCount ∧ s.loop.busyReported = false) :
    busyTest s = { s with
      loop := { s.loop with busyReported := true }
      link := queueReport (.loopState .deskBusy s.loop.state s.loop.address s.loop.successor
        s.loop.declineCount s.loop.declineLimit s.loop.retryCount s.loop.rebuildCount
        s.loop.duplicateSeen s.loop.ownRebuild) s.link } := by
  rw [busyTest, if_pos busy]
  rfl

theorem busyTest_of_not_busy {s : State}
    (quiet : ¬(s.loop.declineLimit ≤ s.loop.declineCount ∧ s.loop.busyReported = false)) :
    busyTest s = s := if_neg quiet

/-! ### The acknowledgement of a record (R105, R114, R115) -/

/-- An acknowledgement of any record but the head of the stay's queue brings nothing. -/
theorem acknowledgeRecord_of_other {serial stay : Nat} {s : State}
    (other : ∀ r rest, s.folio.queue = r :: rest → ¬(r.serial = serial ∧ s.stay.stay = stay)) :
    acknowledgeRecord serial stay s = s := by
  unfold acknowledgeRecord
  split
  · rename_i r rest queue
    rw [if_neg (other r rest queue)]
  · rfl

theorem acknowledgeRecord_of_head {s : State} {head : Record} {rest : List Record}
    (queue : s.folio.queue = head :: rest) :
    acknowledgeRecord head.serial s.stay.stay s =
      if head.kind = .stayClosed then endClosing (settleWaiting (headGone rest s))
      else closureTest (settleWaiting (headGone rest s)) := by
  simp only [acknowledgeRecord, queue, and_self, if_true]
  rfl

/-- The room of a closed stay is VACANT, and a check-in that waited for it begins. -/
theorem endClosing_of_none {s : State} (alone : s.stay.pendingCheckIn = none) :
    endClosing s = emitSnapshot (stayReport .closed false (s.setStay { s.stay with
      room := .vacant, stay := 0, closureQueued := false })) := by
  unfold endClosing
  generalize h : emitSnapshot (stayReport .closed false (s.setStay { s.stay with
      room := .vacant, stay := 0, closureQueued := false })) = t
  have stay : t.stay.pendingCheckIn = none := by rw [← h]; exact alone
  dsimp only
  rw [stay]

theorem endClosing_of_some {s : State} {p : StayParams} (waits : s.stay.pendingCheckIn = some p) :
    endClosing s =
      let t := emitSnapshot (stayReport .closed false (s.setStay { s.stay with
        room := .vacant, stay := 0, closureQueued := false }))
      beginStay p (t.setStay { t.stay with pendingCheckIn := none }) := by
  unfold endClosing
  generalize h : emitSnapshot (stayReport .closed false (s.setStay { s.stay with
      room := .vacant, stay := 0, closureQueued := false })) = t
  have stay : t.stay.pendingCheckIn = some p := by rw [← h]; exact waits
  dsimp only
  rw [stay]

end Sys2Proof.Machine
end

section
/-! PROOFS. One token's turn with the desk. -/

namespace Sys2Proof.Machine

/-! ### The token -/

/-- A turn by what there is to post: the owed ROOM_REPORT, the head record, or nothing. -/
theorem tokenReceived_begins {s : State} {d : Nat} {ws : List Window}
    (ring : s.loop.state = .member ∨ s.loop.state = .alone ∨ s.loop.state = .rebuilding)
    (outside : inTurn s.loop = false) (heard : s.loop.heard = some ⟨some (.token d), ws, false⟩) :
    exec .tokenReceived s = .next (resumePass (dataStep { s with loop := { s.loop with
      state := .member, ownRebuild := false, idleTimer := none, rebuildWait := none, heard := none
      turnCount := if 63 ≤ s.loop.turnCount then 0 else s.loop.turnCount + 1
      refreshTurn := if 63 ≤ s.loop.turnCount then true else s.loop.refreshTurn } })) := by
  rw [exec_tokenReceived_of_heard heard, endToken_begins (by exact ring) (by exact outside) rfl, beginTurn_eq]
  rfl

/-! ### The answers -/

section
variable {s : State} {d : Nat} {x : Exchange} {ws : List Window} {within : Bool}

theorem answered_of_mem {w : Window} {phase : TurnPhase} {h : HeardPacket} {l : LoopStation}
    (mem : w ∈ h.windows) (at_phase : l.phase = phase) (exchange : l.exchange = some x) :
    answered w phase h l = some x :=
  answered_eq_some.mpr ⟨mem, at_phase, exchange⟩

theorem acceptReceived_sends (exchange : s.loop.exchange = some x) (undue : s.loop.passDeferred = false)
    (phase : s.loop.phase = .enquiring) (mem : .enquiring ∈ ws)
    (heard : s.loop.heard = some ⟨some (.accept d), ws, within⟩) :
    exec .acceptReceived s = .next { s with loop := { s.loop with
      heard := none, phase := .posting, declineCount := 0, busyReported := false, lde := true
      sending := s.loop.sending ++
        [⟨.data 255 s.loop.address (exchangeBody x s), some .posting⟩] } } := by
  have hears : exec .acceptReceived s = .next (resumePass (endAccept _ _)) :=
    congrArg Host.Outcome.next (hearEnd_of_heard heard rfl)
  rw [hears]
  simp only [endAccept]
  rw [answered_of_mem (x := x) mem (by exact phase) (by exact exchange)]
  refine congrArg Host.Outcome.next ((resumePass_of_not_due (by exact undue)).trans ?_)
  cases x <;> rfl

theorem declineReceived_counts (exchange : s.loop.exchange = some x)
    (phase : s.loop.phase = .enquiring) (mem : .enquiring ∈ ws)
    (heard : s.loop.heard = some ⟨some (.decline d), ws, within⟩) :
    exec .declineReceived s = .next (resumePass (busyTest { s with loop := { s.loop with
      heard := none, exchange := none, passDeferred := true
      declineCount := min (s.loop.declineCount + 1) 63 } })) := by
  have hears : exec .declineReceived s = .next (resumePass (endDecline _ _)) :=
    congrArg Host.Outcome.next (hearEnd_of_heard heard rfl)
  rw [hears]
  simp only [endDecline]
  rw [answered_of_mem (x := x) mem (by exact phase) (by exact exchange)]
  rfl

/-- The effect of a DATA_ACK by what it acknowledges. -/
theorem dataAckReceived_of_roomReport {again : Bool} (exchange : s.loop.exchange = some (.roomReport again))
    (phase : s.loop.phase = .posting) (mem : .posting ∈ ws)
    (heard : s.loop.heard = some ⟨some (.dataAck d), ws, within⟩) :
    exec .dataAckReceived s = .next (resumePass { s with loop := { s.loop with
      heard := none, exchange := none, passDeferred := true, retryCount := 0, pendingReply := again } }) := by
  have hears : exec .dataAckReceived s = .next (resumePass (endDataAck _ _)) :=
    congrArg Host.Outcome.next (hearEnd_of_heard heard rfl)
  rw [hears]
  simp only [endDataAck]
  rw [answered_of_mem mem (by exact phase) (by exact exchange)]
  rfl

theorem dataAckReceived_of_record {r : Record} {stay : Nat}
    (exchange : s.loop.exchange = some (.record r stay))
    (phase : s.loop.phase = .posting) (mem : .posting ∈ ws)
    (heard : s.loop.heard = some ⟨some (.dataAck d), ws, within⟩) :
    exec .dataAckReceived s = .next (resumePass (acknowledgeRecord r.serial stay { s with
      loop := { s.loop with heard := none, exchange := none, passDeferred := true, retryCount := 0 } })) := by
  have hears : exec .dataAckReceived s = .next (resumePass (endDataAck _ _)) :=
    congrArg Host.Outcome.next (hearEnd_of_heard heard rfl)
  rw [hears]
  simp only [endDataAck]
  rw [answered_of_mem mem (by exact phase) (by exact exchange)]
  rfl

end

/-! ### The head record goes -/

/-- The state a closed stay leaves, once its STAY_CLOSED record is acknowledged. -/
def vacated (s : State) : State :=
  let v : State := { s with
    stay := { s.stay with room := .vacant, stay := 0, closureQueued := false }
    folio := { s.folio with snapshotSeconds := 0 } }
  { v with link := queueReport (snapshotTold v) (queueReport (stayTold .closed false v) s.link) }

theorem endClosing_eq_vacated {s : State} (alone : s.stay.pendingCheckIn = none) :
    endClosing s = vacated s := endClosing_of_none alone

theorem endClosing_eq_stayBegun {s : State} {p : StayParams} (waits : s.stay.pendingCheckIn = some p) :
    endClosing s = stayBegun p { vacated s with
      stay := { (vacated s).stay with pendingCheckIn := none } } := by
  rw [endClosing_of_some waits]
  exact beginStay_eq p _

/-- The head record leaves the queue, and the entries that waited for its place have settled: the closure
is queued once it is due, or the STAY_CLOSED record was the last of its stay. -/
theorem headAcknowledged {s settled : State} {head : Record} {rest : List Record}
    (queue : s.folio.queue = head :: rest) (settles : settleWaiting (headGone rest s) = settled) :
    (head.kind ≠ .stayClosed →
      (¬ closes settled → acknowledgeRecord head.serial s.stay.stay s = settled) ∧
      (closes settled → acknowledgeRecord head.serial s.stay.stay s = closureQueuedState settled)) ∧
    (head.kind = .stayClosed →
      (s.stay.pendingCheckIn = none → acknowledgeRecord head.serial s.stay.stay s = vacated settled) ∧
      (∀ p, s.stay.pendingCheckIn = some p → acknowledgeRecord head.serial s.stay.stay s =
        stayBegun p { vacated settled with
          stay := { (vacated settled).stay with pendingCheckIn := none } })) := by
  have stay : settled.stay = s.stay := by rw [← settles, settleWaiting_stay]; rfl
  rw [acknowledgeRecord_of_head queue, settles, ← stay]
  refine ⟨fun plain => ?_, fun closed => ?_⟩
  · rw [if_neg plain]
    exact ⟨closureTest_of_not_closes, closureTest_of_closes⟩
  · rw [if_pos closed]
    exact ⟨endClosing_eq_vacated, fun p => endClosing_eq_stayBegun⟩

/-- Settles O59: the token's turn by what there is to post, and the desk's answer by its kind, a record's
acknowledgement as `headAcknowledged` has it. -/
theorem theTurnPostsOneMessage : Obligations.theTurnPostsOneMessage := by
  refine ⟨fun s d ws ring outside heard => ?_, fun s d x ws within exchange undue => ?_⟩
  · obtain ⟨_, undue⟩ := (inTurn_eq_false_iff _).mp outside
    dsimp only
    rw [tokenReceived_begins ring outside heard]
    refine ⟨fun pending => ?_, fun r rest replied queue => ?_, fun replied queue => ?_⟩
    · rw [dataStep_of_pending (by exact pending), resumePass_of_not_due (by exact undue)]
      rfl
    · rw [dataStep_of_record (by exact replied) (by exact queue), resumePass_of_not_due (by exact undue)]
      rfl
    · rw [dataStep_of_empty (by exact replied) (by exact queue), resumePass_resumePass]
      rfl
  · intro hears past declined busy
    refine ⟨fun phase mem heard => ?_, fun phase mem heard => ?_, fun phase mem heard => ?_⟩
    · rw [acceptReceived_sends exchange undue phase mem heard]
      cases x <;> rfl
    · rw [declineReceived_counts exchange phase mem heard]
      exact ⟨fun quiet => by rw [busyTest_of_not_busy quiet], fun busy => by rw [busyTest_of_busy busy]⟩
    · intro acked posts
      refine ⟨?_, ?_, ?_⟩
      · rintro again rfl
        exact dataAckReceived_of_roomReport exchange phase mem heard
      · rintro r stay rfl other
        have brings := dataAckReceived_of_record exchange phase mem heard
        rwa [acknowledgeRecord_of_other (by exact other)] at brings
      · rintro r head rest rfl queue serial
        intro t told settled v vacant
        have idle : anySettling s.folio.entries = false → settled = told :=
          settleWaiting_of_none (s := told)
        have settles : settleWaiting (headGone rest { s with loop := acked }) = settled := rfl
        have brings (u : State)
            (acknowledges : acknowledgeRecord head.serial s.stay.stay { s with loop := acked } = u) :
            posts u := by
          rw [← acknowledges, serial]
          exact dataAckReceived_of_record exchange phase mem heard
        have stay : settled.stay = s.stay := settleWaiting_stay told
        clear_value settled
        obtain ⟨plain, closed⟩ := headAcknowledged (s := { s with loop := acked }) queue settles
        have vacant_eq : vacated settled = vacant := by
          simp only [vacated, stay]
          rfl
        rw [vacant_eq] at closed
        refine ⟨idle, fun kind => ?_, fun kind => ?_⟩
        · obtain ⟨stays, closes⟩ := plain kind
          exact ⟨fun undue => brings _ (stays undue), fun due => brings _ (closes due)⟩
        · obtain ⟨alone, waits⟩ := closed kind
          exact ⟨fun none => brings _ (alone none), fun p some => brings _ (waits p some)⟩

end Sys2Proof.Machine
end

section
/-! PROOFS. The start of a packet of another station. -/

namespace Sys2Proof.Machine

/-! ### The release of a reservation (R143) -/

theorem releaseReservation_of_none {l : LoopStation} (h : reservedBufferIx l = none) :
    releaseReservation l = l := by
  simp [releaseReservation, h]

theorem releaseReservation_of_some {l : LoopStation} {ix : BufferIx} (h : reservedBufferIx l = some ix) :
    releaseReservation l = { setBuffer l ix .free with
      windows := l.windows.filter (· != .reservation)
      sending := l.sending.map (dropExpected .reservation)
      heard := l.heard.map fun h => { h with windows := h.windows.filter (· != .reservation) } } := by
  simp [releaseReservation, h]

/-- The loop with its reservation released. -/
def unreserved (s : State) : State := s.setLoop (releaseReservation s.loop)

theorem unreserved_of_none {s : State} (h : reservedBufferIx s.loop = none) : unreserved s = s := by
  rw [unreserved, releaseReservation_of_none h, State.setLoop_self]

theorem unreserved_of_some {s : State} {ix : BufferIx} (h : reservedBufferIx s.loop = some ix) :
    unreserved s = s.setLoop { setBuffer s.loop ix .free with
      windows := s.loop.windows.filter (· != .reservation)
      sending := s.loop.sending.map (dropExpected .reservation)
      heard := s.loop.heard.map fun h => { h with windows := h.windows.filter (· != .reservation) } } := by
  rw [unreserved, releaseReservation_of_some h]

/-! ### The answer to the open windows (R127) -/

theorem answerWindow_reservation (p : Option LoopPacket) (s : State) :
    answerWindow .reservation p s = if fillsReservation s.loop.address p then s else unreserved s := rfl

/-- The answer to any window but a reservation's leaves the buffers and the address as they are. -/
theorem answerWindow_keeps {w : Window} (other : w ≠ .reservation) (p : Option LoopPacket) (s : State) :
    reservedBufferIx (answerWindow w p s).loop = reservedBufferIx s.loop ∧
      (answerWindow w p s).loop.address = s.loop.address := by
  cases w
  case reservation => exact absurd rfl other
  case passing => exact ⟨rfl, rfl⟩
  all_goals
    simp only [answerWindow, searchFinds]
    repeat' split
    all_goals exact ⟨rfl, rfl⟩

/-- The answer to any other window and the release of a reservation do not meet. -/
theorem answerWindow_unreserved {w : Window} (other : w ≠ .reservation) (p : Option LoopPacket)
    (s : State) :
    answerWindow w p (unreserved s) = unreserved (answerWindow w p s) := by
  obtain ⟨same, -⟩ := answerWindow_keeps other p s
  cases reserved : reservedBufferIx s.loop with
  | none => rw [unreserved_of_none reserved, unreserved_of_none (same.trans reserved)]
  | some ix =>
    rw [unreserved_of_some reserved, unreserved_of_some (same.trans reserved)]
    cases w
    case reservation => exact absurd rfl other
    case passing => cases ix <;> rfl
    case duplicate =>
      cases ix <;> cases seen : s.loop.duplicateSeen <;> simp [answerWindow, setBuffer, seen] <;> rfl
    case enquiring | posting =>
      cases ix <;> cases ends : hasEnd s.loop.address p <;> simp [answerWindow, setBuffer, ends, failExchange]
    case probing =>
      cases candidate : s.loop.candidate with
      | none => cases ix <;> simp [answerWindow, setBuffer, candidate] <;> rfl
      | some c =>
        by_cases found : s.loop.successor = some c <;> cases ix <;>
          simp [answerWindow, setBuffer, candidate, searchFinds, found] <;> rfl

/-- What answers the reservations among the windows: the packet is their DATA, or they are released. -/
def reservationAnswered (ws : List Window) (p : Option LoopPacket) (s : State) : State :=
  if ws.contains .reservation && !fillsReservation s.loop.address p then unreserved s else s

/-- One reservation at most among the windows is answered as if it came first, and the other windows after
it in their order. -/
theorem answerWindows_eq (p : Option LoopPacket) (ws : List Window) (s : State)
    (one : ws.count .reservation ≤ 1) :
    ws.foldl (fun s w => answerWindow w p s) s =
      (ws.filter (· != .reservation)).foldl (fun s w => answerWindow w p s)
        (reservationAnswered ws p s) := by
  induction ws generalizing s with
  | nil => rfl
  | cons w ws ih =>
    by_cases reservation : w = .reservation
    · subst reservation
      have gone : Window.reservation ∉ ws := by
        rw [List.count_cons_self] at one
        exact List.count_eq_zero.mp (by omega)
      have rest : ws.filter (· != .reservation) = ws :=
        List.filter_eq_self.mpr fun w mem => by simpa using ne_of_mem_of_not_mem mem gone
      have first : answerWindow .reservation p s = reservationAnswered (.reservation :: ws) p s := by
        rw [answerWindow_reservation, reservationAnswered]
        cases fillsReservation s.loop.address p <;> simp
      simp [rest, first]
    · have ih := ih (answerWindow w p s) (by simpa [List.count_cons, reservation] using one)
      have swap : reservationAnswered ws p (answerWindow w p s) =
          answerWindow w p (reservationAnswered (w :: ws) p s) := by
        have same : (w :: ws).contains .reservation = ws.contains .reservation := by
          simp [Ne.symm reservation]
        rw [reservationAnswered, reservationAnswered, (answerWindow_keeps reservation p s).2, same]
        split
        · exact (answerWindow_unreserved reservation p s).symm
        · rfl
      have kept : (w :: ws).filter (· != .reservation) = w :: ws.filter (· != .reservation) := by
        simp [reservation]
      rw [List.foldl_cons, ih, kept, List.foldl_cons, swap]

/-! ### The start of a packet -/

/-- A loop once the start of a packet is noted in it: a rebuild wait ends, and the idle timer restarts
outside a turn (R127, R141). -/
def noted (s : State) (base : LoopStation) : LoopStation :=
  { base with
    state := if s.loop.state = .rebuilding then .member else s.loop.state
    rebuildWait := if s.loop.state = .rebuilding then none else s.loop.rebuildWait
    idleTimer :=
      if (s.loop.state = .alone ∨ s.loop.state = .member ∨ s.loop.state = .rebuilding) ∧
          inTurn s.loop = false then some 30000
      else s.loop.idleTimer }

theorem noteActivity_eq (s : State) : noteActivity s = s.setLoop (noted s s.loop) := by
  unfold noteActivity noted
  by_cases rebuilding : s.loop.state = .rebuilding
  · simp only [rebuilding, restartIdle_eq, if_true]
    simp [inTurn]
  · simp only [rebuilding, restartIdle_eq, if_false]
    simp [or_comm]

/-- The loop once a reservation is answered that the packet is not the DATA of. -/
def reservationMet (s : State) (p : Option LoopPacket) : LoopStation :=
  if s.loop.windows.contains .reservation && !fillsReservation s.loop.address p then
    releaseReservation s.loop
  else s.loop

/-- The state in which the windows other than a reservation's are answered. -/
def windowsClosed (s : State) (p : Option LoopPacket) : State :=
  s.setLoop { noted s (reservationMet s p) with windows := [] }

theorem unreserved_noted (s : State) :
    unreserved (s.setLoop { noted s s.loop with windows := [] }) =
      s.setLoop { noted s (releaseReservation s.loop) with windows := [] } := by
  cases reserved : reservedBufferIx s.loop with
  | none => rw [releaseReservation_of_none reserved, unreserved_of_none (by exact reserved)]
  | some ix =>
    rw [releaseReservation_of_some reserved, unreserved_of_some (by exact reserved)]
    cases ix <;> rfl

theorem reservationAnswered_noted (s : State) (p : Option LoopPacket) :
    reservationAnswered s.loop.windows p
        ((noteActivity s).setLoop { (noteActivity s).loop with windows := [] }) = windowsClosed s p := by
  rw [noteActivity_eq]
  by_cases released : (s.loop.windows.contains .reservation && !fillsReservation s.loop.address p) = true
  · rw [windowsClosed, reservationMet, if_pos released, ← unreserved_noted]
    exact if_pos released
  · rw [windowsClosed, reservationMet, if_neg released]
    exact if_neg released

/-- What the start of a packet comes to: the activity, the open windows, and the packet being heard when it
has an end for the station. -/
theorem exec_loopActivity_of_start {s : State} (chars : List Byte) (on : s.loop.state ≠ .off)
    (free : s.loop.heard = none) (one : s.loop.windows.count .reservation ≤ 1) {t : State}
    (answers : (s.loop.windows.filter (· != .reservation)).foldl
      (fun s w => answerWindow w (judgePacket chars) s) (windowsClosed s (judgePacket chars)) = t)
    (address : t.loop.address = s.loop.address) :
    exec (.loopActivity chars) s = .next (
      if hasEnd s.loop.address (judgePacket chars) = true then t.setLoop { t.loop with
        heard := some ⟨judgePacket chars, s.loop.windows.filter fun w =>
          w == .enquiring || w == .posting ||
            (w == .reservation && fillsReservation s.loop.address (judgePacket chars)), inTurn s.loop⟩ }
      else resumePass t) := by
  show Host.Outcome.next (hearStart chars s) = _
  have decided : decidedAtEnd s.loop.address (judgePacket chars) = fun w =>
      w == .enquiring || w == .posting ||
        (w == .reservation && fillsReservation s.loop.address (judgePacket chars)) := by
    funext w
    cases w <;> simp [decidedAtEnd]
  rw [hearStart, if_neg (by simp [on, free])]
  dsimp only
  rw [answerWindows_eq _ _ _ one, reservationAnswered_noted, answers, address, decided]

end Sys2Proof.Machine
end

section
/-! PROOFS. What the start of another station's packet answers, and what its end does to an exchange. -/

namespace Sys2Proof.Machine

/-! ### The start -/

/-- A reservation met leaves all but the buffers, the windows and the packets to be sent. -/
theorem reservationMet_shape {s : State} (p : Option LoopPacket) (free : s.loop.heard = none) :
    ∃ b0 b1 ws ps, reservationMet s p = { s.loop with
      buffer0 := b0, buffer1 := b1, windows := ws, sending := ps, heard := none } := by
  have same : s.loop = { s.loop with heard := none } := by rw [← free]
  unfold reservationMet
  split
  · obtain ⟨-, released⟩ | ⟨ix, -, released⟩ := releaseReservation_cases s.loop
    · exact ⟨_, _, _, _, released.trans same⟩
    · rw [released, free]
      cases ix <;> exact ⟨_, _, _, _, rfl⟩
  · exact ⟨_, _, _, _, same⟩

section
variable {s : State} {p : Option LoopPacket} {t : State}

theorem answerWindow_exchange {w : Window} (exchange : w = .enquiring ∨ w = .posting)
    (p : Option LoopPacket) (s : State) : answerWindow w p s = if hasEnd s.loop.address p then s else failExchange s := by
  obtain rfl | rfl := exchange <;> rfl

theorem answerWindow_probing {c : Nat} (candidate : s.loop.candidate = some c) :
    answerWindow .probing p s = searchFinds c s := by
  simp [answerWindow, candidate]

/-- The successor that a search finds; it is reported when it is a new one. -/
theorem searchFinds_eq (c : Nat) (s : State) :
    searchFinds c s = { s with
      loop := { s.loop with
        successor := some c, phase := .none, exchange := none, refreshTurn := false, rebuildTurn := false
        passDeferred := false, candidate := none, idleTimer := some 30000 }
      link := if s.loop.successor = some c then s.link
        else queueReport (.loopState .successor s.loop.state s.loop.address (some c) s.loop.declineCount
          s.loop.declineLimit s.loop.retryCount s.loop.rebuildCount s.loop.duplicateSeen
          s.loop.ownRebuild) s.link } := by
  unfold searchFinds
  by_cases known : s.loop.successor = some c
  · simp only [known, if_true]; rfl
  · simp only [known, if_false]; rfl

/-- The duplicate watch is reported once. -/
theorem answerWindow_duplicate (p : Option LoopPacket) (s : State) :
    answerWindow .duplicate p s = { s with
      loop := { s.loop with duplicateSeen := true }
      link := if s.loop.duplicateSeen then s.link
        else queueReport (.loopState .duplicateSeen s.loop.state s.loop.address s.loop.successor
          s.loop.declineCount s.loop.declineLimit s.loop.retryCount s.loop.rebuildCount true
          s.loop.ownRebuild) s.link } := by
  unfold answerWindow
  cases seen : s.loop.duplicateSeen
  · rfl
  · simp only [if_true, ← seen]

end

/-- A packet's start comes to a loop and reports once the windows other than a reservation's are answered
so. -/
theorem loopActivity_becomes {s : State} {chars : List Byte} (on : s.loop.state ≠ .off)
    (free : s.loop.heard = none) (one : s.loop.windows.count .reservation ≤ 1) {loop : LoopStation}
    {link : SetLink} (address : loop.address = s.loop.address)
    (answers : (s.loop.windows.filter (· != .reservation)).foldl
        (fun s w => answerWindow w (judgePacket chars) s) (windowsClosed s (judgePacket chars)) =
      { s with link := link, loop := { loop with windows := [], heard := none } }) :
    let ends := hasEnd s.loop.address (judgePacket chars) = true
    let decided := s.loop.windows.filter fun w =>
      w == .enquiring || w == .posting ||
        (w == .reservation && fillsReservation s.loop.address (judgePacket chars))
    let t : State := { s with link := link, loop := { loop with
      windows := [], heard := if ends then some ⟨judgePacket chars, decided, inTurn s.loop⟩ else none } }
    exec (.loopActivity chars) s = .next (if ends then t else resumePass t) := by
  dsimp only
  rw [exec_loopActivity_of_start chars on free one answers address]
  by_cases ends : hasEnd s.loop.address (judgePacket chars) = true
  · rw [if_pos ends, if_pos ends, if_pos ends]
    rfl
  · rw [if_neg ends, if_neg ends, if_neg ends]

/-! ### The end -/

/-- The exchange that a packet was the first to answer has ended with a retry (R135, R136). -/
def exchangeFailed (h : HeardPacket) (l : LoopStation) : LoopStation :=
  if (l.phase = .enquiring ∧ .enquiring ∈ h.windows ∧ l.exchange ≠ none) ∨
      (l.phase = .posting ∧ .posting ∈ h.windows ∧ l.exchange ≠ none) then
    { l with retryCount := satInc l.retryCount, exchange := none, passDeferred := true }
  else l

theorem answered_isSome_iff (w : Window) (phase : TurnPhase) (h : HeardPacket) (l : LoopStation) :
    (answered w phase h l).isSome = true ↔ l.phase = phase ∧ w ∈ h.windows ∧ l.exchange ≠ none := by
  rw [Option.isSome_iff_exists, Option.ne_none_iff_exists']
  simp only [answered_eq_some]
  tauto

theorem failIfAnswering_eq (h : HeardPacket) (s : State) :
    failIfAnswering h s = s.setLoop (exchangeFailed h s.loop) := by
  have decides : answersExchange h s.loop = true ↔ _ :=
    Bool.or_eq_true _ _ ▸ or_congr (answered_isSome_iff .enquiring .enquiring h s.loop)
      (answered_isSome_iff .posting .posting h s.loop)
  unfold failIfAnswering exchangeFailed
  split
  · rename_i answers
    rw [if_pos (decides.mp answers)]
    rfl
  · rename_i silent
    rw [if_neg (mt decides.mpr silent)]
    rfl

/-- It is a matter of the exchange alone. -/
theorem exchangeFailed_shape (h : HeardPacket) (l : LoopStation) :
    ∃ n x due, ∀ faults heard,
      exchangeFailed h { l with packetFaults := faults, heard := heard } = { l with
        packetFaults := faults, heard := heard, retryCount := n, exchange := x, passDeferred := due } := by
  by_cases answers : (l.phase = .enquiring ∧ .enquiring ∈ h.windows ∧ l.exchange ≠ none) ∨
      (l.phase = .posting ∧ .posting ∈ h.windows ∧ l.exchange ≠ none)
  · exact ⟨satInc l.retryCount, none, true, fun _ _ => if_pos answers⟩
  · exact ⟨l.retryCount, l.exchange, l.passDeferred, fun _ _ => if_neg answers⟩

/-- A released reservation's DATA is not waited for, whatever is being heard. -/
theorem releaseReservation_deaf (l : LoopStation) :
    releaseReservation { l with heard := none } = { releaseReservation l with heard := none } := by
  cases reserved : reservedBufferIx l with
  | none => rw [releaseReservation_of_none reserved, releaseReservation_of_none (by exact reserved)]
  | some ix =>
    rw [releaseReservation_of_some reserved, releaseReservation_of_some (by exact reserved)]
    cases ix <;> rfl

section
variable {s t : State} {h : HeardPacket} {source : Nat} {body : List Byte} {i : BufferIx}

theorem answerEnquiry_of_free (free : freeBufferIx (releaseReservation s.loop) = some i) :
    answerEnquiry s = send (.accept 255) (some .reservation)
      (s.setLoop (setBuffer (releaseReservation s.loop) i .reserved)) := by
  simp only [answerEnquiry, free]

theorem answerEnquiry_of_full (full : freeBufferIx (releaseReservation s.loop) = none) :
    answerEnquiry s = send (.decline 255) none (s.setLoop (releaseReservation s.loop)) := by
  simp only [answerEnquiry, full]

/-- The DATA that a reservation waits for fills its buffer and is acknowledged (R144). -/
theorem endData_of_reserved (fails : failIfAnswering h s = t) (reserved : reservedBufferIx t.loop = some i)
    (desk : source = 255) (waited : .reservation ∈ h.windows) :
    endData source body h s =
      send (.dataAck 255) none (t.setLoop (fillBuffer i ⟨false, body⟩ t.loop)) := by
  simp only [endData, fails, reserved]
  rw [if_pos ⟨desk, by simpa using waited⟩]

/-- Any other is dropped. -/
theorem endData_of_unreserved (fails : failIfAnswering h s = t)
    (other : reservedBufferIx t.loop = none ∨ source ≠ 255 ∨ .reservation ∉ h.windows) :
    endData source body h s = t.setLoop (dropData t.loop) := by
  simp only [endData, fails]
  split
  · rename_i i reserved
    have unwaited : ¬(source = 255 ∧ h.windows.contains .reservation = true) := by
      rintro ⟨desk, waited⟩
      obtain none | foreign | unlisted := other
      · rw [none] at reserved; cases reserved
      · exact foreign desk
      · exact unlisted (by simpa using waited)
    rw [if_neg unwaited]
  · rfl

/-- A broadcast of the desk fills a FREE buffer (R145). -/
theorem endBroadcast_of_free (fails : failIfAnswering h s = t) (free : freeBufferIx t.loop = some i)
    (desk : source = 255) :
    endBroadcast source body h s = t.setLoop (fillBuffer i ⟨true, body⟩ t.loop) := by
  simp only [endBroadcast, fails, free]
  rw [if_pos desk]

theorem endBroadcast_of_full (fails : failIfAnswering h s = t)
    (other : freeBufferIx t.loop = none ∨ source ≠ 255) :
    endBroadcast source body h s = t.setLoop (dropData t.loop) := by
  simp only [endBroadcast, fails]
  split
  · rename_i i free
    have foreign : source ≠ 255 := other.resolve_left (by simp [free])
    rw [if_neg foreign]
  · rfl

/-- A TOKEN that began in the station's own turn is no more than an answer that was not wanted (R133). -/
theorem endToken_of_turn (on : s.loop.state ≠ .off) (ring : s.loop.state ≠ .listening)
    (turn : h.inTurn = true ∨ inTurn s.loop = true) : endToken h s = failIfAnswering h s := by
  unfold endToken
  split
  case h_1 off => exact absurd off on
  case h_2 listening => exact absurd listening ring
  case h_3 => exact if_pos turn

theorem endToken_of_listening (listening : s.loop.state = .listening) :
    endToken h s = s.setLoop { s.loop with windows := s.loop.windows ++ [.duplicate] } := by
  simp only [endToken, listening]

theorem answered_eq_none_of {w : Window} {phase : TurnPhase} {l : LoopStation}
    (silent : ¬(l.phase = phase ∧ w ∈ h.windows ∧ l.exchange ≠ none)) :
    answered w phase h l = none := by
  simpa using mt (answered_isSome_iff w phase h l).mp silent

end

/-- The end of the packet being heard, by the command that names it. -/
theorem exec_of_heard {c : Instr} {select : Option LoopPacket → Option (HeardPacket → State → State)}
    {act : HeardPacket → State → State} {s t : State} {h : HeardPacket}
    (names : exec c s = .next (hearEnd select s)) (heard : s.loop.heard = some h)
    (selected : select h.packet = some act) (acts : act h (s.setLoop { s.loop with heard := none }) = t) :
    exec c s = .next (resumePass t) := by
  rw [names, hearEnd_of_heard heard selected, acts]

end Sys2Proof.Machine
end

section
/-! PROOFS. The packets of other stations. -/

namespace Sys2Proof.Machine

/-- Nothing starts in OFF, nor while a packet is being heard. -/
theorem loopActivity_of_deaf {s : State} (chars : List Byte)
    (deaf : s.loop.state = .off ∨ s.loop.heard ≠ none) : exec (.loopActivity chars) s = .next s := by
  show Host.Outcome.next (hearStart chars s) = _
  rw [hearStart, if_pos (by simpa [Option.isSome_iff_ne_none] using deaf)]

/-- Settles O58: a packet's start by the one window it answers, and its end by its kind. -/
theorem packetsAreHeard : Obligations.packetsAreHeard := by
  intro s
  refine ⟨loopActivity_of_deaf, fun chars on free one => ?_, fun packet ws begun heard => ?_⟩
  · intro p ends ws fills decided becomes base rings notedNow ended told other
    have met : reservationMet s p = base := rfl
    obtain ⟨b0, b1, ws', ps, shape⟩ := reservationMet_shape p free
    rw [met] at shape
    have becomes_of {loop : LoopStation} {link : SetLink} (address : loop.address = s.loop.address)
        (answers : other.foldl (fun s w => answerWindow w p s) (windowsClosed s p) =
          { s with link := link, loop := { loop with windows := [], heard := none } }) : becomes loop link :=
      loopActivity_becomes on free one address answers
    have closed : windowsClosed s p = s.setLoop { notedNow with windows := [] } := rfl
    clear_value base
    subst shape
    clear_value other
    have steady (h : s.loop.state ≠ .rebuilding) : notedNow = { s.loop with
        buffer0 := b0, buffer1 := b1, windows := ws', sending := ps, heard := none
        idleTimer := if rings ∧ inTurn s.loop = false then some 30000 else s.loop.idleTimer } := by
      simp only [notedNow, if_neg h]
    refine ⟨?_, ?_, ?_, ?_, ?_⟩
    · rintro rfl
      exact becomes_of rfl closed
    · intro exchange
      have answers : other.foldl (fun s w => answerWindow w p s) (windowsClosed s p) =
          if hasEnd s.loop.address p then windowsClosed s p else failExchange (windowsClosed s p) := by
        have address : s.loop.address = (windowsClosed s p).loop.address := by rw [closed]; rfl
        rw [address]
        obtain rfl | rfl := exchange
        · exact answerWindow_exchange (.inl rfl) p _
        · exact answerWindow_exchange (.inr rfl) p _
      by_cases yes : ends
      · rw [if_pos yes]
        exact becomes_of rfl (answers.trans ((if_pos yes).trans closed))
      · rw [if_neg yes]
        refine becomes_of rfl (answers.trans ((if_neg yes).trans ?_))
        rw [closed]
        rfl
    · rintro member rfl
      refine becomes_of rfl ?_
      show endTurn (windowsClosed s p) = _
      rw [closed, steady (by simp [member])]
      rfl
    · rintro c member rfl candidate
      refine becomes_of rfl ?_
      have address : (windowsClosed s p).loop.candidate = some c := by rw [closed]; exact candidate
      rw [List.foldl_cons, answerWindow_probing address, searchFinds_eq, closed, steady (by simp [member])]
      rfl
    · rintro listening rfl
      refine becomes_of rfl ?_
      rw [List.foldl_cons, answerWindow_duplicate, closed, steady (by simp [listening])]
      cases s.loop.duplicateSeen <;> rfl
  · intro settles asked posted base released dropped filled sends
    have failed : exchangeFailed ⟨packet, ws, begun⟩ s.loop = base := rfl
    obtain ⟨n, x, due, shape⟩ := exchangeFailed_shape ⟨packet, ws, begun⟩ s.loop
    have base_eq : base = { s.loop with retryCount := n, exchange := x, passDeferred := due } :=
      failed.symm.trans (shape s.loop.packetFaults s.loop.heard)
    have fails : failIfAnswering ⟨packet, ws, begun⟩ (s.setLoop { s.loop with heard := none }) =
        s.setLoop { base with heard := none } := by
      rw [failIfAnswering_eq, base_eq]
      exact congrArg s.setLoop (shape s.loop.packetFaults none)
    clear_value base
    subst base_eq
    refine ⟨?_, ?_, ?_, ?_, fun d => ⟨?_, ?_, ?_, ?_, ?_⟩⟩
    · rintro rfl
      refine exec_of_heard rfl heard rfl ?_
      rw [endFaulty, failIfAnswering_eq]
      exact congrArg s.setLoop (shape _ none)
    · rintro d source rfl
      refine ⟨fun foreign => ?_, fun i desk free => ?_, fun desk full => ?_⟩
      · exact exec_of_heard rfl heard rfl ((if_neg foreign).trans fails)
      · refine exec_of_heard rfl heard rfl ((if_pos desk).trans ?_)
        have deaf := releaseReservation_deaf { s.loop with
          retryCount := n, exchange := x, passDeferred := due }
        rw [fails, answerEnquiry_of_free (i := i) (by rw [State.setLoop_loop, deaf]; exact free),
          State.setLoop_loop, deaf]
        cases i <;> rfl
      · refine exec_of_heard rfl heard rfl ((if_pos desk).trans ?_)
        have deaf := releaseReservation_deaf { s.loop with
          retryCount := n, exchange := x, passDeferred := due }
        rw [fails, answerEnquiry_of_full (by rw [State.setLoop_loop, deaf]; exact full),
          State.setLoop_loop, deaf]
        rfl
    · rintro d source body rfl own
      obtain ⟨d, rfl⟩ := Nat.exists_eq_succ_of_ne_zero own
      refine ⟨fun i reserved desk waited => exec_of_heard rfl heard rfl ?_,
        fun other => exec_of_heard rfl heard rfl (endData_of_unreserved fails other)⟩
      rw [endData_of_reserved fails (i := i) (by exact reserved) desk waited]
      cases i <;> rfl
    · rintro source body rfl
      refine ⟨fun i free desk => exec_of_heard rfl heard rfl ?_,
        fun other => exec_of_heard rfl heard rfl (endBroadcast_of_full fails other)⟩
      rw [endBroadcast_of_free fails (i := i) (by exact free) desk]
      cases i <;> rfl
    · rintro rfl unasked
      refine exec_of_heard rfl heard rfl ?_
      rw [endAccept, answered_eq_none_of (by exact unasked)]
      exact fails
    · rintro rfl unasked
      refine exec_of_heard rfl heard rfl ?_
      rw [endDecline, answered_eq_none_of (by exact unasked)]
      exact fails
    · rintro rfl unposted
      refine exec_of_heard rfl heard rfl ?_
      rw [endDataAck, answered_eq_none_of (by exact unposted)]
      exact fails
    · rintro rfl on ring turn
      have ignored := endToken_of_turn (h := ⟨some (.token d), ws, begun⟩)
        (s := s.setLoop { s.loop with heard := none }) on ring turn
      exact exec_of_heard rfl heard rfl (ignored.trans fails)
    · rintro rfl listening
      exact exec_of_heard rfl heard rfl (endToken_of_listening (by exact listening))

end Sys2Proof.Machine
end
